-- ==== Sys2Proof/Word.lean ====
section
/-! DEFINITION. The words of the CX16: bytes, sixteen-bit fields, and the three number ranges its rules use. -/

namespace Sys2Proof

/-- One byte of a frame, of the configuration image or of a management transaction. -/
abbrev Byte := BitVec 8

/-- A two-byte field: the applied count, a digest, a check, a counter (R12, R101, R195). -/
abbrev Half := BitVec 16

/-- A station number, 0 to 15 (R10). -/
abbrev Station := Fin 16

/-- A resource number, 0 to 63 (R1). -/
abbrev Resource := Fin 64

/-- A binding number, 0 to 11 (R52). -/
abbrev BindingNo := Fin 12

end Sys2Proof
end

