-- ==== Sys2Proof/Syntax.lean ====
section
/-! DEFINITION. The commands of the CX16: one constructor for each row of spec/opcode_table.json, with the operands that the row's rule gives the event. -/

namespace Sys2Proof

/-- The 41 operations and events of the part. Each is whole and indivisible (95_what_each_step_holds.md). -/
inductive Instr where
  /-- POWER_ON (R136). -/
  | powerOn
  /-- RESET_ASSERTED (R136). -/
  | resetAsserted
  /-- RESET_RELEASED (R136, R175): the number on SID0 to SID3 and the level of CFGSRC (high selects the port). -/
  | resetReleased (sid : Station) (cfgsrc : Bool)
  /-- RISE (R54): a rise of the line level of CLMn is taken. -/
  | rise (n : BindingNo)
  /-- FALL (R54): a fall of the line level of CLMn is taken. -/
  | fall (n : BindingNo)
  /-- CLOSING_MARK_SEEN (R104): the bytes received between the start mark and the closing mark. -/
  | closingMarkSeen (bytes : List Byte)
  /-- TRUNCATION_SEEN (R105). -/
  | truncationSeen
  /-- WINDOW_CLOSE (R105, R106): whether some other station drove the reject level in the window. -/
  | windowClose (rejected : Bool)
  /-- OWN_WINDOW_CLOSE (R107): whether some station drove the reject level in the window. -/
  | ownWindowClose (rejected : Bool)
  /-- XTEN_ASSERTED (R119): by another station. -/
  | xtenAsserted
  /-- CONTENTION_CLOSES (R121, R122): the lowest number among the other contenders still marking, if any. -/
  | contentionCloses (lowestOther : Option Station)
  /-- XTEN_RELEASED (R119): by the other stations. -/
  | xtenReleased
  /-- BUS_QUIET_EXPIRED (R119). -/
  | busQuietExpired
  /-- XWANT_ASSERTED (R130): by another station. -/
  | xwantAsserted
  /-- XWANT_RELEASED (R132): by the other stations. -/
  | xwantReleased
  /-- LISTEN_TIMER_EXPIRED (R140). -/
  | listenTimerExpired
  /-- SNAPSHOT_DEADLINE_EXPIRED (R148). -/
  | snapshotDeadlineExpired
  /-- HOLD_OFF_EXPIRED (R156). -/
  | holdOffExpired
  /-- PERIOD_END (R163). -/
  | periodEnd
  /-- MEMORY_READ_ANSWERED (R178): the 30 bytes read. -/
  | memoryReadAnswered (image : Vector Byte 30)
  /-- MEMORY_READ_NOT_ANSWERED (R178). -/
  | memoryReadNotAnswered
  /-- READ_STATUS (R188). -/
  | readStatus
  /-- READ_MEMBERS (R189). -/
  | readMembers
  /-- READ_RESOURCE (R189): the argument byte. -/
  | readResource (r : Byte)
  /-- READ_BINDING (R190): the argument byte. -/
  | readBinding (b : Byte)
  /-- READ_COUNTERS (R195). -/
  | readCounters
  /-- CLEAR_COUNTERS (R195). -/
  | clearCounters
  /-- POP_NOTICE (R193). -/
  | popNotice
  /-- POP_COMPLETE (R193). -/
  | popComplete
  /-- READ_CONFIG (R190): offset and number bytes. -/
  | readConfig (offset number : Byte)
  /-- WRITE_CONFIG (R179, R185): offset byte, number byte and the data bytes. -/
  | writeConfig (offset number : Byte) (data : List Byte)
  /-- START (R179). -/
  | start
  /-- LEAVE (R157). -/
  | leave
  /-- REJOIN (R159). -/
  | rejoin
  /-- RELEASE_LATCH (R56): the argument byte. -/
  | releaseLatch (b : Byte)
  /-- UNKNOWN_COMMAND (R185): the unrecognised command byte. -/
  | unknownCommand (code : Byte)
  /-- MCS_RELEASED (R184). -/
  | mcsReleased
  /-- POWER_LOST (R112, R115). -/
  | powerLost
  /-- START_MARK_SEEN (R104): of another station's frame. -/
  | startMarkSeen
  /-- CLOSING_MARK_SENT (R103): of this station's attempt. -/
  | closingMarkSent
  /-- MCS_ASSERTED (R184). -/
  | mcsAsserted
  deriving DecidableEq, Repr

end Sys2Proof
end

