-- ==== Sys2Proof/WellFormed.lean ====
section
/-! DEFINITION. Which commands are events of the part: the relations between operands that their types do not carry. -/

namespace Sys2Proof

/-- The command codes the management port recognises (R185). -/
def recognisedCodes : List Byte := [1, 2, 3, 4, 5, 6, 7, 8, 16, 17, 18, 19, 20]

/-- The number of data bytes that belong to a WRITE CONFIG: the number byte when it is 30 or less, and none above it,
since the command is then taken at the number byte (R185). -/
def writeConfigDataBytes (number : Byte) : Nat := if number.toNat ≤ 30 then number.toNat else 0

/-- The check. A WRITE CONFIG carries as many data bytes as its number byte calls for, and an unknown command's code is
not one the port recognises (R185). The operands of every other row are bounded by their types. -/
def Instr.wellFormed : Instr → Bool
  | .powerOn => true
  | .resetAsserted => true
  | .resetReleased _ _ => true
  | .rise _ => true
  | .fall _ => true
  | .closingMarkSeen _ => true
  | .truncationSeen => true
  | .windowClose _ => true
  | .ownWindowClose _ => true
  | .xtenAsserted => true
  | .contentionCloses _ => true
  | .xtenReleased => true
  | .busQuietExpired => true
  | .xwantAsserted => true
  | .xwantReleased => true
  | .listenTimerExpired => true
  | .snapshotDeadlineExpired => true
  | .holdOffExpired => true
  | .periodEnd => true
  | .memoryReadAnswered _ => true
  | .memoryReadNotAnswered => true
  | .readStatus => true
  | .readMembers => true
  | .readResource _ => true
  | .readBinding _ => true
  | .readCounters => true
  | .clearCounters => true
  | .popNotice => true
  | .popComplete => true
  | .readConfig _ _ => true
  | .writeConfig _ number data => data.length == writeConfigDataBytes number
  | .start => true
  | .leave => true
  | .rejoin => true
  | .releaseLatch _ => true
  | .unknownCommand code => !recognisedCodes.contains code
  | .mcsReleased => true
  | .powerLost => true
  | .startMarkSeen => true
  | .closingMarkSent => true
  | .mcsAsserted => true

end Sys2Proof
end

