-- ==== Sys2Proof/Decode.lean ====
section
/-! DEFINITION. The command that a word spells by the bits of spec/opcode_table.json, and the management command that the bytes of a transaction spell. -/

namespace Sys2Proof

/-- No row of spec/opcode_table.json gives bits (every row's fields are empty), so no word spells a command. The
commands reach the block as entries of its queue, not as words. -/
def decodeTableWord (_nbits _w : Nat) : Option Instr := none

/-! ### The bytes of a management command (R184, R185) -/

/-- The command byte and the argument bytes with which the port takes a command (R185); none for the commands of the table
that no transaction carries. -/
def Instr.commandBytes : Instr → Option (List Byte)
  | .readStatus => some [1]
  | .readMembers => some [2]
  | .readResource r => some [3, r]
  | .readBinding b => some [4, b]
  | .readCounters => some [5]
  | .clearCounters => some [6]
  | .popNotice => some [7]
  | .readConfig offset number => some [8, offset, number]
  | .writeConfig offset number data => some ([16, offset, number] ++ data)
  | .start => some [17]
  | .leave => some [18]
  | .rejoin => some [19]
  | .releaseLatch b => some [20, b]
  | .unknownCommand code => some [code]
  | .powerOn | .resetAsserted | .resetReleased _ _ | .rise _ | .fall _ | .closingMarkSeen _ | .truncationSeen
  | .windowClose _ | .ownWindowClose _ | .xtenAsserted | .contentionCloses _ | .xtenReleased | .busQuietExpired
  | .xwantAsserted | .xwantReleased | .listenTimerExpired | .snapshotDeadlineExpired | .holdOffExpired | .periodEnd
  | .memoryReadAnswered _ | .memoryReadNotAnswered | .popComplete | .mcsReleased | .powerLost | .startMarkSeen
  | .closingMarkSent | .mcsAsserted => none

/-- The command with one argument byte, once that byte has been received. -/
def withArgument (command : Byte → Instr) : List Byte → Option Instr
  | [] => none
  | b :: _ => some (command b)

/-- The run of the image that READ CONFIG and WRITE CONFIG name, with the bytes after it, once both its bytes have been
received. -/
def withRun (command : Byte → Byte → List Byte → Option Instr) : List Byte → Option Instr
  | offset :: number :: rest => command offset number rest
  | [_] => none
  | [] => none

/-- WRITE CONFIG once as many data bytes have been received as its number byte calls for; above 30 it is taken at the
number byte (R185). -/
def writeConfigTaken (offset number : Byte) (rest : List Byte) : Option Instr :=
  if rest.length < writeConfigDataBytes number then none
  else some (.writeConfig offset number (rest.take (writeConfigDataBytes number)))

/-- The command that the port takes from the bytes received on MSI (R184, R185): picked by the command byte, and taken
with its last argument byte; none while bytes are missing. What arrives after it is disregarded. -/
def commandTaken : List Byte → Option Instr
  | [] => none
  | code :: args =>
    match code.toNat with
    | 1 => some .readStatus
    | 2 => some .readMembers
    | 3 => withArgument .readResource args
    | 4 => withArgument .readBinding args
    | 5 => some .readCounters
    | 6 => some .clearCounters
    | 7 => some .popNotice
    | 8 => withRun (fun offset number _ => some (.readConfig offset number)) args
    | 16 => withRun writeConfigTaken args
    | 17 => some .start
    | 18 => some .leave
    | 19 => some .rejoin
    | 20 => withArgument .releaseLatch args
    | _ => some (.unknownCommand code)

end Sys2Proof
end

