-- ==== Sys2Proof/Config.lean ====
section
/-! DEFINITION. What one CX16 part fixes: the sizes and limits its rules state. The one free value is the point at which a read of the configuration memory fails. -/

namespace Sys2Proof

/-- Where a read of the configuration memory can fail (R178): CFG_SDA found held low when the loader releases it to send a
start condition, or a byte that is not acknowledged. -/
inductive ReadFailure where
  | heldAtStart
  | writeSelection
  | wordAddress
  | heldAtRepeatedStart
  | readSelection
  deriving DecidableEq, Repr, Inhabited

namespace Config

/-- Wait entries in the pool (R8). -/
def poolSize : Nat := 96

/-- The longest wait list a snapshot record may carry (R6, R23). -/
def maxWaits : Nat := 15

/-- Attempts made of one frame (R107). -/
def maxAttempts : Nat := 3

/-- Consecutive rejects signalled that isolate a station (R110). -/
def rejectLimit : Nat := 8

/-- Consecutive own frames dropped that isolate a station (R111). -/
def dropLimit : Nat := 4

/-- Notices the notice queue holds (R192). -/
def noticeCapacity : Nat := 32

/-- Entries the transmit queue has room for (R97). -/
def queueCapacity : Nat := 32

/-- Reads of the configuration memory made before it counts as absent (R178). -/
def memoryReads : Nat := 3

/-- The selection number of the configuration memory (R178). -/
def memorySelection : Nat := 58

/-- Clock pulses that free a memory left part-way through a transfer (R178). -/
def recoveryPulses : Nat := 9

/-- Bytes of the configuration image (R176). -/
def imageBytes : Nat := 30

/-- The presence period in milliseconds that a presence code sets (R162, R176). -/
def presencePeriodMs (code : Nat) : Nat := 2 * 2 ^ code

/-- FREE VALUE: the point of failure of each read of the memory that does not answer, by the number of such reads before
it. The command MEMORY_READ_NOT_ANSWERED does not carry it (R178), log entry 30. -/
opaque memoryFailure : Nat → ReadFailure

end Config

end Sys2Proof
end

