-- ==== Sys2Proof/Machine/State.lean ====
section
/-! DEFINITION. The state of the CX16, block by block, as plain data; its reset form; and the reasons a step can stop. -/

namespace Sys2Proof.Machine

/-! ### The claim table (Chapter 1) -/

/-- The mode of a claim (R6). -/
inductive Mode where
  | shared
  | exclusive
  deriving DecidableEq, Repr

/-- The class of a claim (R6). -/
inductive ClaimClass where
  | ordinary
  | urgent
  deriving DecidableEq, Repr

/-- A member record's state (R10). -/
inductive MemberState where
  | absent
  | joining
  | active
  deriving DecidableEq, Repr

/-- The reason of an EXPEL (R38, R99). -/
inductive ExpelReason where
  | silent
  | disagree
  deriving DecidableEq, Repr

/-- A holder: its station number and its yieldable flag, and nothing more (R4). -/
structure Holder where
  station : Station
  yieldable : Bool
  deriving DecidableEq, Repr

/-- A resource record's state with the holder part that belongs to it (R3). The shared holders are a set: the list is
kept in ascending order of station, so that equal sets are equal lists. -/
inductive Holding where
  | free
  | exclusive (holder : Holder)
  | shared (holders : List Holder)
  deriving DecidableEq, Repr

/-- The four fields of a wait entry (R6). -/
structure WaitEntry where
  station : Station
  mode : Mode
  cls : ClaimClass
  yieldable : Bool
  deriving DecidableEq, Repr

/-- A wait entry in a wait list, with the number of the pool entry that holds it (R8). -/
structure Wait where
  slot : Nat
  entry : WaitEntry
  deriving DecidableEq, Repr

/-- A resource record (R3). The wait list is head first (R7). -/
structure Record where
  holding : Holding
  waits : List Wait
  yieldDemand : Bool
  deriving DecidableEq, Repr

/-- A resource record as snapshot parts and digests carry it (R100): the two-bit state code, the holder field, and the
wait entries, head first. The code is kept as received; whether it obeys the laws is checked at loading (R23). -/
structure WireRecord where
  code : BitVec 2
  holders : List Holder
  waits : List WaitEntry
  deriving DecidableEq, Repr

/-- The load image while it holds at least part 0 (R23). -/
structure LoadImage where
  members : Vector MemberState 16
  records : List WireRecord
  nextPart : Nat
  count : Half
  deriving DecidableEq, Repr

/-- The replica engine: the replica, its valid flag and the load image (R1, R23). -/
structure ReplicaEngine where
  records : Vector Record 64
  /-- For each of the 96 wait entries, whether it is in use (R8). -/
  pool : Vector Bool 96
  members : Vector MemberState 16
  count : Half
  valid : Bool
  /-- The load image; none when it is empty (R23). -/
  load : Option LoadImage
  deriving DecidableEq, Repr

/-! ### Frames (Chapter 5) -/

/-- What a SNAPSHOT part carries (R100): part 0 the member states, part k + 1 eight records. -/
inductive Part where
  | members (states : Vector MemberState 16)
  | records (k : Fin 8) (recs : List WireRecord)
  deriving DecidableEq, Repr

/-- The kind of a frame with its payload fields, as decoded (R98 to R100). -/
inductive Body where
  | claim (resource : Resource) (mode : Mode) (cls : ClaimClass) (yieldable : Bool)
  | drop (resource : Byte)
  | presence (synced : Bool) (digest : Half)
  | expel (target : Station) (reason : ExpelReason)
  | join
  | leave
  | snapshot (part : Part)
  deriving DecidableEq, Repr

/-- A frame's header fields and body (R26, R98). -/
structure Frame where
  sender : Station
  active : Bool
  count : Half
  body : Body
  deriving DecidableEq, Repr

/-! ### The transmit queue (Chapter 4) -/

/-- The kind and arguments of a queued frame (R84). -/
inductive Item where
  | claim (resource : Resource) (mode : Mode) (cls : ClaimClass) (yieldable : Bool)
  | drop (resource : Resource)
  | expel (target : Station) (reason : ExpelReason)
  | join
  | leave
  | presence
  deriving DecidableEq, Repr

/-- The class of an entry (R84). -/
inductive EntryClass where
  | control
  | claimFamily
  | presence
  deriving DecidableEq, Repr

/-- An entry: its frame, its standing (UNTAKEN, or IN FLIGHT when inFlight is set) and its attempt count (R84). -/
structure Entry where
  item : Item
  inFlight : Bool
  attempts : Nat
  deriving DecidableEq, Repr

/-- The snapshot job (R95). In RUNNING it holds the index of the next part and, when that part is in flight, the
attempts made of it. -/
inductive Job where
  | clear
  | armed
  | running (next : Fin 9) (attempts : Option Nat)
  deriving DecidableEq, Repr

/-- The transmit queue: entries in the order they were added, the snapshot job and its re-arm mark (R84, R95). -/
structure TransmitQueue where
  entries : List Entry
  job : Job
  reArm : Bool
  deriving DecidableEq, Repr

/-! ### The exchange interface (Chapter 5) -/

/-- The frame of another station that the receiver is concerned with (R104 to R106). -/
inductive Rx where
  /-- No frame is being taken and no window is open. -/
  | none
  /-- The start mark has been seen; the bytes are being taken. -/
  | taking
  /-- The frame was received whole; its window is open. -/
  | whole (frame : Frame)
  /-- The frame was found damaged; its window is open and this station drives reject in it (R105). -/
  | damaged
  deriving DecidableEq, Repr

/-- What an own attempt is an attempt of: a queue entry or a snapshot part. -/
inductive Sent where
  | entry (item : Item)
  | part (k : Fin 9)
  deriving DecidableEq, Repr

/-- The phase of an own attempt (R103): its bytes are on the pair, or its window is open. -/
inductive AttemptPhase where
  | sending
  | window
  deriving DecidableEq, Repr

/-- An own attempt on the wire (R102, R103, R112): the frame as it was encoded when the attempt began, what it is an
attempt of, its phase, whether the queue has discarded its entry (R85, R96), and whether the sender takes no report of
its window because the tenure controller went OFFLINE within it (R112). -/
structure Attempt where
  frame : Frame
  sent : Sent
  phase : AttemptPhase
  discarded : Bool
  unreported : Bool
  deriving DecidableEq, Repr

/-- The exchange interface (R114). The receiver is on or off with the station state (R104). -/
structure ExchangeInterface where
  /-- The station number; none until SID0 to SID3 have been read (R114). -/
  number : Option Station
  rx : Rx
  attempt : Option Attempt
  rejectStreak : Nat
  dropStreak : Nat
  deriving DecidableEq, Repr

/-! ### The tenure controller (Chapter 6) -/

/-- The tenure states (R116). -/
inductive TenureState where
  | offline
  | idle
  | contending
  | deferred
  | holding
  | parked
  | served
  deriving DecidableEq, Repr

/-- The reading of XTEN (R119). -/
inductive BusCondition where
  | free
  | contention
  | taken
  deriving DecidableEq, Repr

/-- The tenure controller (R116). -/
structure TenureController where
  state : TenureState
  /-- The bus condition; none while OFFLINE, where it is forgotten (R118). -/
  bus : Option BusCondition
  /-- Set from coming online with the bus read as TAKEN until FREE is read, which then takes a quiet XTEN longer than
  the contention interval (R119). -/
  quietWatch : Bool
  quota : Nat
  /-- The tenure quota Q; none until the configuration is frozen (R117). -/
  q : Option Nat
  pinned : Bool
  cameFromDeferred : Bool
  hasWork : Bool
  deriving DecidableEq, Repr

/-! ### The binding unit (Chapter 3) -/

/-- The trigger of a binding (R52). -/
inductive Trigger where
  | level
  | latched
  deriving DecidableEq, Repr

/-- The configured fields of a binding record (R52). -/
structure BindingConfig where
  enabled : Bool
  resource : Resource
  mode : Mode
  cls : ClaimClass
  yieldable : Bool
  trigger : Trigger
  deriving DecidableEq, Repr

/-- The states of a local claim (R57). -/
inductive ClaimState where
  | none
  | queued
  | sending
  | waiting
  | held
  | dropping
  | refused
  deriving DecidableEq, Repr

/-- A record of the Local Claim Table (R57). The binding set is in ascending order; demand is derived. -/
structure LocalClaim where
  resource : Resource
  mode : Mode
  cls : ClaimClass
  yieldable : Bool
  bindings : List BindingNo
  state : ClaimState
  cancel : Bool
  reclaim : Bool
  yieldSeen : Bool
  deriving DecidableEq, Repr

/-- The binding unit (R52, R53, R57). -/
structure BindingUnit where
  /-- The configured fields; none until the configuration is frozen (R53). -/
  bindings : Option (Vector BindingConfig 12)
  lines : Vector Bool 12
  latches : Vector Bool 12
  /-- The Local Claim Table, in ascending order of resource. -/
  claims : List LocalClaim
  deriving DecidableEq, Repr

/-! ### The station controller (Chapters 7 and 8) -/

/-- The station states (R135). -/
inductive StationState where
  | reset
  | loading
  | config
  | fault
  | listening
  | joinPending
  | awaitSnapshot
  | confirming
  | active
  | leaving
  | isolated
  | detached
  deriving DecidableEq, Repr

/-- The fault reasons (R135). -/
inductive FaultReason where
  | none
  | configInvalid
  | imageCheck
  | memoryAbsent
  | twin
  deriving DecidableEq, Repr

/-- The snapshot deadline (R135): stopped, running towards 4 P, or held at its expiry by a load in progress (R146). -/
inductive Deadline where
  | stopped
  | running
  | held
  deriving DecidableEq, Repr

/-- A silence record (R166). -/
structure Silence where
  watched : Bool
  count : Nat
  deriving DecidableEq, Repr

/-- The frozen values the station controller holds (R181): P in milliseconds, the silence limit L, and auto-rejoin. -/
structure StationParams where
  periodMs : Nat
  limit : Nat
  autoRejoin : Bool
  deriving DecidableEq, Repr

/-- The station controller (R135, R162, R166). -/
structure StationController where
  state : StationState
  /-- The fault reason (R135, R160, R188). R180 says the loader holds it with the detail; the model holds it here alone,
  log entry 31. -/
  fault : FaultReason
  /-- Whether the listen timer runs (R138). -/
  listenTimer : Bool
  foundedSeen : Bool
  deadline : Deadline
  tableHeard : Bool
  /-- Whether the hold-off timer runs (R155). -/
  holdOffTimer : Bool
  returnDetached : Bool
  /-- Whether the presence timer runs (R163). -/
  presenceTimer : Bool
  /-- The presence-satisfied mark (R164). -/
  satisfied : Bool
  silence : Vector Silence 16
  /-- The frozen values; none until the configuration is frozen (R162). -/
  params : Option StationParams
  deriving DecidableEq, Repr

/-! ### The configuration loader (Chapter 9) -/

/-- The loader states (R177). -/
inductive LoaderState where
  | empty
  | reading
  | staging
  | frozen
  deriving DecidableEq, Repr

/-- The fault detail (R177, R180): the number of the check that failed, 0 for none, and the binding at fault. The fault
reason, which R180 names with it, stands in the station controller, log entry 31. -/
structure FaultDetail where
  check : Nat
  binding : Option BindingNo
  deriving DecidableEq, Repr

/-- The configuration loader (R177): it holds the fault detail and no fault reason, log entry 31. -/
structure ConfigLoader where
  state : LoaderState
  staging : Vector Byte 30
  detail : FaultDetail
  /-- Reads of the memory that did not answer since LOADING was entered (R178). -/
  failedReads : Nat
  /-- Where the last read that did not answer failed (R178); none where none has since LOADING was entered. -/
  failedAt : Option ReadFailure
  deriving DecidableEq, Repr

/-! ### The management port (Chapter 10) -/

/-- The reasons of a loss of holds (R80, R185). -/
inductive LossReason where
  | expelled
  | isolated
  | twin
  | foreign
  | left
  deriving DecidableEq, Repr

/-- The causes STATE_CHANGED carries (R137, R185). -/
inductive Cause where
  | resetReleased
  | configured
  | expelledSilent
  | expelledDisagree
  | foreign
  | noTableHeard
  | holdOffEnded
  | rejoin
  | listenEnded
  | deadline
  | notJoining
  | joinApplied
  | snapshotLoaded
  | founded
  | confirmed
  | leaveCommand
  | rejectLimit
  | dropLimit
  | left
  | leaveDropped
  | configInvalid
  | imageCheck
  | memoryAbsent
  | twin
  deriving DecidableEq, Repr

/-- A notice (R192). A binding set has bit n set for binding n. A dropped frame is named by its kind code and its
argument byte, as the notice carries them (R109). -/
inductive Notice where
  | holdLost (set : BitVec 12) (resource : Resource) (reason : LossReason)
  | claimRefused (resource : Resource)
  | yieldAsked (resource : Resource)
  | frameDropped (kind argument : Byte)
  | stateChanged (state : StationState) (cause : Cause)
  | expelSent (target : Station) (reason : ExpelReason)
  deriving DecidableEq, Repr

/-- The eight diagnostic counters, in the order of R195. -/
structure Counters where
  ownFramesApplied : Half
  framesDropped : Half
  rejectsSignalled : Half
  framesApplied : Half
  countMismatch : Half
  claimsRefused : Half
  noticesLost : Half
  expelsQueued : Half
  deriving DecidableEq, Repr

/-- A transaction in progress (R183, R184): the bytes received so far and, once its command has been taken, the
response settled in that event, status first. -/
structure Transaction where
  received : List Byte
  response : Option (List Byte)
  deriving DecidableEq, Repr

/-- The management port (R183). -/
structure ManagementPort where
  transaction : Option Transaction
  pendingPop : Option Notice
  /-- The notice queue, oldest first. -/
  notices : List Notice
  counters : Counters
  attn : Bool
  /-- Whether MSO is driven (R184). -/
  msoDriven : Bool
  deriving DecidableEq, Repr

/-! ### Lines and pins -/

/-- The two wired-OR lines as the other stations drive them (R115). They lie outside the part: its own reset does not
change them. -/
structure Lines where
  xten : Bool
  xwant : Bool
  deriving DecidableEq, Repr

/-- A station's drive of XTEN (R133). -/
inductive XtenDrive where
  | released
  | rankMarks
  | asserted
  deriving DecidableEq, Repr

/-- A station's drive of the data pair (R103, R105, R115). -/
inductive PairDrive where
  | undriven
  | data
  | reject
  deriving DecidableEq, Repr

/-- CFG_SCL and CFG_SDA (R175, R177, R178): at rest, or a read of the memory in progress. -/
inductive CfgDrive where
  | rest
  | reading
  deriving DecidableEq, Repr

/-- One move of the loader on CFG_SCL and CFG_SDA in a read of the memory (R178). -/
inductive CfgItem where
  /-- Clock pulses on CFG_SCL with CFG_SDA released. -/
  | clocks (n : Nat)
  | start
  | repeatedStart
  | stop
  /-- A byte sent, which the memory acknowledges where it answers. -/
  | send (b : Byte)
  /-- A byte clocked in, which the loader acknowledges or not. -/
  | receive (acknowledged : Bool)
  deriving DecidableEq, Repr

/-- The output pins the blocks drive, as they stand after an event. ATTN and MSO stand in the management port. -/
structure Pins where
  gnt : Vector Bool 12
  yld : Vector Bool 12
  xten : XtenDrive
  xwant : Bool
  pair : PairDrive
  cfg : CfgDrive
  /-- What the read in progress puts on CFG_SCL and CFG_SDA, move by move; nothing at rest (R178). -/
  cfgRead : List CfgItem
  /-- What the last read that did not answer put there before its stop, and the stop (R178). -/
  cfgEnded : List CfgItem
  deriving DecidableEq, Repr

/-! ### The whole station -/

/-- Why a step can stop. The spec gives every event of its table an effect or a disregard in every state, and its
station state FAULT is an ordinary state (R160): no command raises a fault, so there is no constructor. -/
inductive Fault where
  deriving DecidableEq, Repr

/-- Why a command can be refused. -/
inductive Refusal where
  /-- Raised by exec alone, for a command that has no meaning yet. It is safe: nothing is claimed of such a command.
  No arm of exec answers with it. -/
  | notModelled (mnemonic : String)
  deriving DecidableEq, Repr

/-- The state of one CX16 with the queue of commands that wait for it. -/
structure State where
  /-- The commands that wait, first in first out. -/
  pending : List Instr
  /-- Whether the supply is present (R115). -/
  powered : Bool
  /-- The model's own field, no state of the part: how many reads of the memory have not answered, which picks the free
  value Config.memoryFailure, log entry 30. -/
  unanswered : Nat
  lines : Lines
  sc : StationController
  xi : ExchangeInterface
  tc : TenureController
  tq : TransmitQueue
  re : ReplicaEngine
  bu : BindingUnit
  cl : ConfigLoader
  mp : ManagementPort
  pins : Pins
  deriving DecidableEq, Repr

/-! ### Reset values -/

/-- A FREE resource with an empty wait list and yield demand clear (R2). -/
def Record.empty : Record := { holding := .free, waits := [], yieldDemand := false }

/-- The replica in its empty form, INVALID, with an empty load image (R2, R24). -/
def ReplicaEngine.empty : ReplicaEngine :=
  { records := Vector.replicate 64 Record.empty
    pool := Vector.replicate 96 false
    members := Vector.replicate 16 .absent
    count := 0
    valid := false
    load := none }

/-- The exchange interface at reset (R114). -/
def ExchangeInterface.reset : ExchangeInterface :=
  { number := none, rx := .none, attempt := none, rejectStreak := 0, dropStreak := 0 }

/-- The tenure controller at reset (R117); the bus condition is forgotten while OFFLINE (R118). -/
def TenureController.reset : TenureController :=
  { state := .offline, bus := none, quietWatch := false, quota := 0, q := none, pinned := false,
    cameFromDeferred := false, hasWork := false }

/-- The transmit queue at reset, and after an emptying (R85). -/
def TransmitQueue.empty : TransmitQueue := { entries := [], job := .clear, reArm := false }

/-- The binding unit at reset (R53). -/
def BindingUnit.reset : BindingUnit :=
  { bindings := none, lines := Vector.replicate 12 false, latches := Vector.replicate 12 false, claims := [] }

/-- A silence record that is not watched (R166). -/
def Silence.unwatched : Silence := { watched := false, count := 0 }

/-- The station controller at reset (R136, R162, R166). -/
def StationController.reset : StationController :=
  { state := .reset, fault := .none, listenTimer := false, foundedSeen := false, deadline := .stopped,
    tableHeard := false, holdOffTimer := false, returnDetached := false, presenceTimer := false, satisfied := false,
    silence := Vector.replicate 16 Silence.unwatched, params := none }

/-- No fault detail (R177). -/
def FaultDetail.none : FaultDetail := { check := 0, binding := Option.none }

/-- The configuration loader at reset (R177). -/
def ConfigLoader.reset : ConfigLoader :=
  { state := .empty, staging := Vector.replicate 30 0, detail := FaultDetail.none, failedReads := 0,
    failedAt := none }

/-- All eight counters at 0 (R183, R195). -/
def Counters.zero : Counters :=
  { ownFramesApplied := 0, framesDropped := 0, rejectsSignalled := 0, framesApplied := 0, countMismatch := 0,
    claimsRefused := 0, noticesLost := 0, expelsQueued := 0 }

/-- The management port at reset (R183). -/
def ManagementPort.reset : ManagementPort :=
  { transaction := none, pendingPop := none, notices := [], counters := Counters.zero, attn := false,
    msoDriven := false }

/-- The output pins at reset: GNT and YLD low (R53), XTEN and XWANT released (R117), the pair undriven (R114), the
configuration lines at rest (R177). -/
def Pins.reset : Pins :=
  { gnt := Vector.replicate 12 false, yld := Vector.replicate 12 false, xten := .released, xwant := false,
    pair := .undriven, cfg := .rest, cfgRead := [], cfgEnded := [] }

/-- The lines with no other station driving them. DESIGN CHOICE, log entry 6: what other stations drive is no state of
the part, and the spec gives no value. -/
def Lines.released : Lines := { xten := false, xwant := false }

/-- Every block at its reset values (R136), with the supply, the count that picks the free value, the outside lines and
the queue kept. -/
def State.blocksReset (s : State) : State :=
  { s with
    sc := StationController.reset, xi := ExchangeInterface.reset, tc := TenureController.reset,
    tq := TransmitQueue.empty, re := ReplicaEngine.empty, bu := BindingUnit.reset, cl := ConfigLoader.reset,
    mp := ManagementPort.reset, pins := Pins.reset }

/-- The machine right after reset: powered, RESET asserted, every block at its reset values, no command waiting. -/
def State.reset : State :=
  { pending := []
    powered := true
    unanswered := 0
    lines := Lines.released
    sc := StationController.reset
    xi := ExchangeInterface.reset
    tc := TenureController.reset
    tq := TransmitQueue.empty
    re := ReplicaEngine.empty
    bu := BindingUnit.reset
    cl := ConfigLoader.reset
    mp := ManagementPort.reset
    pins := Pins.reset }

end Sys2Proof.Machine
end

