-- ==== Sys2Proof/Machine/Ops.lean ====
section
/-! DEFINITION. The operations every block shares: fixed tables, one update of State per block, the station's own number, what a station state turns on or off, the counters, and the posting of a notice. -/

namespace Sys2Proof.Machine

/-! ### Fixed tables -/

/-- Every station number, in ascending order. -/
def allStations : List Station := List.finRange 16

/-- Every resource number, in ascending order. -/
def allResources : List Resource := List.finRange 64

/-- Every binding number, in ascending order. -/
def allBindings : List BindingNo := List.finRange 12

/-- A table with f applied to each of its entries. -/
def mapTable {α β : Type} {n : Nat} (f : α → β) (v : Vector α n) : Vector β n :=
  ⟨⟨v.toList.map f⟩, by simp⟩

/-- The table whose entry i is f i. -/
def tableOf {α : Type} (n : Nat) (f : Fin n → α) : Vector α n :=
  ⟨⟨(List.finRange n).map f⟩, by simp⟩

/-- The first entry of a list that satisfies p is replaced by its image under f; the others are kept. -/
def updateFirst {α : Type} (p : α → Bool) (f : α → α) : List α → List α
  | [] => []
  | x :: xs => if p x then f x :: xs else x :: updateFirst p f xs

/-- The first entry of a list that satisfies p is taken out; the others are kept in their order. -/
def removeFirst {α : Type} (p : α → Bool) : List α → List α
  | [] => []
  | x :: xs => if p x then xs else x :: removeFirst p xs

/-! ### One update per block -/

def State.withSc (s : State) (b : StationController) : State := { s with sc := b }
def State.withXi (s : State) (b : ExchangeInterface) : State := { s with xi := b }
def State.withTc (s : State) (b : TenureController) : State := { s with tc := b }
def State.withTq (s : State) (b : TransmitQueue) : State := { s with tq := b }
def State.withRe (s : State) (b : ReplicaEngine) : State := { s with re := b }
def State.withBu (s : State) (b : BindingUnit) : State := { s with bu := b }
def State.withCl (s : State) (b : ConfigLoader) : State := { s with cl := b }
def State.withMp (s : State) (b : ManagementPort) : State := { s with mp := b }
def State.withPins (s : State) (p : Pins) : State := { s with pins := p }
def State.withLines (s : State) (l : Lines) : State := { s with lines := l }
def State.withUnanswered (s : State) (n : Nat) : State := { s with unanswered := n }

/-! ### The station's number and its states -/

/-- This station's number (R175). Before the release of RESET has read it no rule uses it; the model then answers 0,
log entry 17. -/
def State.me (s : State) : Station := s.xi.number.getD 0

/-- The states in which the receiver is on (R104, R135). -/
def StationState.receiverOn : StationState → Bool
  | .listening | .joinPending | .awaitSnapshot | .confirming | .active | .leaving | .detached => true
  | .reset | .loading | .config | .fault | .isolated => false

/-- The states in which the tenure controller is online (R117, R135). -/
def StationState.tenureOnline : StationState → Bool
  | .listening | .joinPending | .awaitSnapshot | .confirming | .active | .leaving => true
  | .reset | .loading | .config | .fault | .isolated | .detached => false

/-- The states on entry to which the transmit queue is emptied (R85). RESET, LOADING and CONFIG find it empty (R135). -/
def StationState.queueEmptied : StationState → Bool
  | .listening | .isolated | .fault | .detached => true
  | .reset | .loading | .config | .joinPending | .awaitSnapshot | .confirming | .active | .leaving => false

/-- The states in which the transmit queue may hold a frame (R135). -/
def StationState.mayQueue : StationState → Bool
  | .joinPending | .awaitSnapshot | .confirming | .active | .leaving => true
  | .reset | .loading | .config | .fault | .listening | .isolated | .detached => false

/-- The duty states, in which the presence timer runs (R163). -/
def StationState.duty : StationState → Bool
  | .joinPending | .awaitSnapshot | .confirming | .active => true
  | .reset | .loading | .config | .fault | .listening | .leaving | .isolated | .detached => false

/-- The states in which the station stands in a table with a valid replica (R1, R151). -/
def StationState.inTable : StationState → Bool
  | .confirming | .active => true
  | .reset | .loading | .config | .fault | .listening | .joinPending | .awaitSnapshot | .leaving | .isolated
  | .detached => false

/-- The auto-rejoin option as frozen (R181). -/
def State.autoRejoin (s : State) : Bool := (s.sc.params.map (·.autoRejoin)).getD false

/-! ### Counters -/

/-- The eight diagnostic counters, by name (R195). -/
inductive Counter where
  | ownFramesApplied
  | framesDropped
  | rejectsSignalled
  | framesApplied
  | countMismatch
  | claimsRefused
  | noticesLost
  | expelsQueued
  deriving DecidableEq, Repr

/-- An increment by one that stays at 65535 once there (R195). -/
def bump (h : Half) : Half := if h = 0xFFFF#16 then h else h + 1

/-- The counters with one of them incremented (R195). -/
def Counters.increment (c : Counters) : Counter → Counters
  | .ownFramesApplied => { c with ownFramesApplied := bump c.ownFramesApplied }
  | .framesDropped => { c with framesDropped := bump c.framesDropped }
  | .rejectsSignalled => { c with rejectsSignalled := bump c.rejectsSignalled }
  | .framesApplied => { c with framesApplied := bump c.framesApplied }
  | .countMismatch => { c with countMismatch := bump c.countMismatch }
  | .claimsRefused => { c with claimsRefused := bump c.claimsRefused }
  | .noticesLost => { c with noticesLost := bump c.noticesLost }
  | .expelsQueued => { c with expelsQueued := bump c.expelsQueued }

/-- One diagnostic counter incremented. -/
def countUp (k : Counter) (s : State) : State :=
  s.withMp { s.mp with counters := s.mp.counters.increment k }

/-! ### Notices -/

/-- A posting at the port (R192, R194): behind the newest notice while fewer than 32 are held, with ATTN high; else the
notice is discarded and NOTICES LOST incremented. -/
def ManagementPort.post (n : Notice) (p : ManagementPort) : ManagementPort :=
  if p.notices.length < Config.noticeCapacity then
    { p with notices := p.notices ++ [n], attn := true }
  else
    { p with counters := p.counters.increment .noticesLost }

/-- A block posts a notice (R192). -/
def postNotice (n : Notice) (s : State) : State := s.withMp (s.mp.post n)

end Sys2Proof.Machine
end

