-- ==== Sys2Proof/Machine/Flags.lean ====
section
/-! DEFINITION. The flags the rules derive from other state: compatibility, yield demand, requests, demand, has-work, the levels of GNT and YLD, the lines of the tenure controller, and the output pins they drive. -/

namespace Sys2Proof.Machine

/-! ### The claim table -/

/-- Compatibility of a mode with a resource's state (R13). -/
def Holding.compatible (h : Holding) (m : Mode) : Bool :=
  match m, h with
  | _, .free => true
  | .shared, .shared _ => true
  | .shared, .exclusive _ => false
  | .exclusive, .shared _ => false
  | .exclusive, .exclusive _ => false

/-- The holders of a resource, in ascending order of station when shared (R3). -/
def Holding.holders : Holding → List Holder
  | .free => []
  | .exclusive h => [h]
  | .shared hs => hs

/-- Whether the head of a wait list is URGENT (R16). -/
def urgentHead : List Wait → Bool
  | [] => false
  | w :: _ => w.entry.cls == .urgent

/-- The yield demand a record's holders and wait list give it: at least one holder, and an URGENT head (R16). -/
def Record.demandedYield (r : Record) : Bool := !r.holding.holders.isEmpty && urgentHead r.waits

/-- The record with its yield demand recomputed (R16). -/
def Record.recomputeYield (r : Record) : Record := { r with yieldDemand := r.demandedYield }

/-! ### The transmit queue -/

/-- Whether an entry still has an attempt to be made of it (R87). -/
def Entry.hasWork (e : Entry) : Bool := !e.inFlight || decide (e.attempts < Config.maxAttempts)

/-- Whether the snapshot job is ARMED or RUNNING (R87). -/
def Job.hasWork : Job → Bool
  | .clear => false
  | .armed => true
  | .running _ _ => true

/-- Whether the transmit queue has work (R87). -/
def TransmitQueue.hasWork (q : TransmitQueue) : Bool := q.entries.any Entry.hasWork || q.job.hasWork

/-! ### Bindings -/

/-- The configured fields of a binding, once frozen (R52). -/
def BindingUnit.config (b : BindingUnit) (n : BindingNo) : Option BindingConfig := b.bindings.map (·[n])

/-- Whether a binding's request is active (R55): enabled, and its line high (LEVEL) or its latch set (LATCHED). -/
def BindingUnit.request (b : BindingUnit) (n : BindingNo) : Bool :=
  match b.config n with
  | none => false
  | some c =>
    c.enabled && match c.trigger with
      | .level => b.lines[n]
      | .latched => b.latches[n]

/-- The demand of a local claim (R57): at least one binding of the record has its request active. -/
def BindingUnit.demand (b : BindingUnit) (c : LocalClaim) : Bool := c.bindings.any b.request

/-- The local claim of a resource, if the table holds one (R57). -/
def BindingUnit.claimFor (b : BindingUnit) (r : Resource) : Option LocalClaim :=
  b.claims.find? fun c => c.resource == r

/-- The level of GNTn (R76): the station ACTIVE, the binding enabled with its request active, and the local claim of
its resource in HELD. -/
def gntLevel (st : StationState) (b : BindingUnit) (n : BindingNo) : Bool :=
  match b.config n with
  | none => false
  | some c =>
    st == .active && c.enabled && b.request n &&
      match b.claimFor c.resource with
      | none => false
      | some l => l.state == .held

/-- The level of YLDn (R77): GNTn asserted, and the local claim of its resource yieldable with yield seen set. -/
def yldLevel (st : StationState) (b : BindingUnit) (n : BindingNo) : Bool :=
  match b.config n with
  | none => false
  | some c =>
    gntLevel st b n &&
      match b.claimFor c.resource with
      | none => false
      | some l => l.yieldSeen && l.yieldable

/-! ### The lines of the bus -/

/-- The drive of XTEN by tenure state (R133). -/
def TenureController.xtenDrive (t : TenureController) : XtenDrive :=
  match t.state with
  | .offline | .idle | .deferred | .served => .released
  | .contending => .rankMarks
  | .holding | .parked => .asserted

/-- The drive of XWANT by tenure state (R133). -/
def TenureController.xwantDrive (t : TenureController) : Bool :=
  match t.state with
  | .deferred => true
  | .contending => t.cameFromDeferred
  | .offline | .idle | .holding | .parked | .served => false

/-- The drive of the data pair (R103, R105, R115): data from the start mark to the closing mark of an own attempt, the
reject level through the window of a frame found damaged, else undriven. Where an own attempt begins while such a window is
still open, its data stands before the reject level, log entry 29. -/
def ExchangeInterface.pairDrive (x : ExchangeInterface) : PairDrive :=
  match x.attempt.map Attempt.phase with
  | some AttemptPhase.sending => .data
  | some AttemptPhase.window | none => if x.rx = .damaged then .reject else .undriven

/-- The frame that the receiver holds in its window, if it was received whole (R106). -/
def Rx.frame? : Rx → Option Frame
  | .whole f => some f
  | .none | .taking | .damaged => Option.none

/-- The drive of the configuration lines (R175, R177, R178): only a read of the memory drives them. -/
def ConfigLoader.cfgDrive (c : ConfigLoader) : CfgDrive :=
  match c.state with
  | .reading => .reading
  | .empty | .staging | .frozen => .rest

/-- A selection byte (R178): the selection number in bits 7-1 and the direction in bit 0, 1 for the read direction. -/
def selectionByte (read : Bool) : Byte := BitVec.ofNat 8 (2 * Config.memorySelection + if read then 1 else 0)

/-- A whole read of the memory, move by move (R178): recovery, address, the 30 bytes of which the last is not
acknowledged, and the end. -/
def readItems : List CfgItem :=
  [.clocks Config.recoveryPulses, .stop] ++
    [.start, .send (selectionByte false), .send 0] ++
    ([.repeatedStart, .send (selectionByte true)] ++
      List.replicate (Config.imageBytes - 1) (.receive true) ++ [.receive false]) ++
    [.stop]

/-- The moves of a read made before its point of failure (R178): recovery alone where CFG_SDA is found held low at the
start condition, and up to the byte that is not acknowledged or the repeated start that cannot be sent. -/
def movesBefore : ReadFailure → Nat
  | .heldAtStart => 2
  | .writeSelection => 4
  | .wordAddress => 5
  | .heldAtRepeatedStart => 5
  | .readSelection => 7

/-- The moves of a read that fails (R178): it ends with a stop condition at the point of failure. -/
def failedReadItems (w : ReadFailure) : List CfgItem := readItems.take (movesBefore w) ++ [.stop]

/-- The moves of the last read that did not answer, as it ended (R178); nothing where none has failed. -/
def ConfigLoader.cfgEnded (c : ConfigLoader) : List CfgItem :=
  match c.failedAt with
  | none => []
  | some w => failedReadItems w

/-- The moves of the read in progress (R178): in READING a whole read, begun anew after each that did not answer. -/
def ConfigLoader.cfgRead (c : ConfigLoader) : List CfgItem :=
  match c.state with
  | .reading => readItems
  | .empty | .staging | .frozen => []

/-- The output pins that the blocks' states call for (R76, R77, R103, R105, R133, R178). -/
def State.drivenPins (s : State) : Pins :=
  { gnt := tableOf 12 (gntLevel s.sc.state s.bu)
    yld := tableOf 12 (yldLevel s.sc.state s.bu)
    xten := s.tc.xtenDrive
    xwant := s.tc.xwantDrive
    pair := s.xi.pairDrive
    cfg := s.cl.cfgDrive
    cfgRead := s.cl.cfgRead
    cfgEnded := s.cl.cfgEnded }

/-- The output pins changed in the same event as the states that call for the change (R76, R77, R133). -/
def drivePins (s : State) : State := s.withPins s.drivenPins

end Sys2Proof.Machine
end

