-- ==== Sys2Proof/Machine/Codec.lean ====
section
/-! DEFINITION. Bytes and frames: the check function (R101), the wire layout of frames, payloads and records (R98 to R100), the damage test (R104), and the table digest (R19). -/

namespace Sys2Proof.Machine

/-! ### Bytes and two-byte fields -/

/-- The byte with a given value below 256. -/
def byte (n : Nat) : Byte := BitVec.ofNat 8 n

/-- The high byte of a two-byte field. -/
def hiByte (h : Half) : Byte := h.extractLsb' 8 8

/-- The low byte of a two-byte field. -/
def loByte (h : Half) : Byte := h.extractLsb' 0 8

/-- A two-byte field from its bytes, high byte first (R98). -/
def half (hi lo : Byte) : Half := hi ++ lo

/-- A two-byte field as it is sent, high byte first (R98). -/
def halfBytes (h : Half) : List Byte := [hiByte h, loByte h]

/-- One bit as a number. -/
def bit (b : Bool) : Nat := if b then 1 else 0

/-- The low four bits of a byte as a station number. -/
def stationOf (b : Byte) : Station := ⟨b.toNat % 16, Nat.mod_lt _ (by decide)⟩

/-! ### The check function -/

/-- One bit through the register with generator x^16 + x^12 + x^5 + 1 (R101). -/
def crcBit (r : Half) (b : Bool) : Half := if r.msb ^^ b then (r <<< 1) ^^^ 0x1021#16 else r <<< 1

/-- One byte through the register, most significant bit first (R101). -/
def crcByte (r : Half) (b : Byte) : Half :=
  [7, 6, 5, 4, 3, 2, 1, 0].foldl (fun r i => crcBit r (b.getLsbD i)) r

/-- k applied to n, with n reduced to a numeral first: it keeps a long evaluation shallow. -/
def withNumeral {α : Type} (n : Nat) (k : Nat → α) : α :=
  match n with
  | 0 => k 0
  | m + 1 => k (m + 1)

/-- The bytes through the register in the order they are sent (R101). -/
def crcFrom (r : Half) : List Byte → Half
  | [] => r
  | b :: bs => withNumeral (crcByte r b).toNat fun n => crcFrom (BitVec.ofNat 16 n) bs

/-- The check function: the register starts at all ones and no final inversion is made (R101). -/
def checkOf (bytes : List Byte) : Half := crcFrom 0xFFFF#16 bytes

/-! ### Member states -/

/-- The two-bit member code (R100). -/
def MemberState.code : MemberState → Nat
  | .absent => 0
  | .joining => 1
  | .active => 2

/-- The member state of a two-bit code; code 3 is decoded as ABSENT (R100). -/
def memberOf (code : Nat) : MemberState :=
  match code with
  | 1 => .joining
  | 2 => .active
  | _ => .absent

/-- Byte j of the member states: station 4j in bits 7-6 to station 4j + 3 in bits 1-0 (R100). -/
def memberByte (ms : Vector MemberState 16) (j : Fin 4) : Byte :=
  let code (i : Nat) (h : i < 4) : Nat := ms[4 * j.val + i].code
  byte (64 * code 0 (by decide) + 16 * code 1 (by decide) + 4 * code 2 (by decide) + code 3 (by decide))

/-- The four bytes of member states (R100). -/
def memberBytes (ms : Vector MemberState 16) : List Byte := (List.finRange 4).map (memberByte ms)

/-- The member states that four bytes carry (R100). -/
def membersOfBytes (b0 b1 b2 b3 : Byte) : Vector MemberState 16 :=
  let codes (b : Byte) : List Nat := [b.toNat / 64, b.toNat / 16 % 4, b.toNat / 4 % 4, b.toNat % 4]
  let states (b : Byte) : List MemberState := (codes b).map memberOf
  ⟨⟨states b0 ++ states b1 ++ states b2 ++ states b3⟩, rfl⟩

/-! ### Resource records on the wire -/

/-- A wait entry's byte (R100). -/
def WaitEntry.toByte (w : WaitEntry) : Byte :=
  byte (w.station.val + 16 * bit (w.mode == .exclusive) + 32 * bit (w.cls == .urgent) + 64 * bit w.yieldable)

/-- The wait entry of a byte (R100); bit 7 is not examined. -/
def waitOfByte (b : Byte) : WaitEntry :=
  { station := stationOf b
    mode := if b.getLsbD 4 then .exclusive else .shared
    cls := if b.getLsbD 5 then .urgent else .ordinary
    yieldable := b.getLsbD 6 }

/-- The set of stations with bit i set for station i (R100). -/
def stationSet (ss : List Station) : Half :=
  ss.foldl (fun m i => m ||| BitVec.twoPow 16 i.val) 0

/-- The holders that a holder set and a yieldable set carry, in ascending order; a yieldable bit of a station outside
the holder set is disregarded (R100). -/
def holdersOfSets (holders yieldables : Half) : List Holder :=
  (allStations.filter fun i => holders.getLsbD i.val).map fun i => { station := i, yieldable := yieldables.getLsbD i.val }

/-- The state code and holder field of a record's holder part (R100): 0 FREE, 1 EXCLUSIVE, 2 SHARED. -/
def Holding.code : Holding → BitVec 2
  | .free => 0
  | .exclusive _ => 1
  | .shared _ => 2

/-- A record in its wire form (R19, R100); pool entry numbers and yield demand are not carried. -/
def Record.toWire (r : Record) : WireRecord :=
  { code := r.holding.code, holders := r.holding.holders, waits := r.waits.map (·.entry) }

/-- The holder field of a wire record, by its state code (R100). -/
def WireRecord.holderBytes (w : WireRecord) : List Byte :=
  if w.code = 1 then
    match w.holders with
    | [] => [0]
    | h :: _ => [byte (h.station.val + 64 * bit h.yieldable)]
  else if w.code = 2 then
    halfBytes (stationSet (w.holders.map (·.station))) ++
      halfBytes (stationSet ((w.holders.filter (·.yieldable)).map (·.station)))
  else []

/-- The bytes of a wire record (R100). -/
def WireRecord.bytes (w : WireRecord) : List Byte :=
  byte (64 * w.code.toNat + w.waits.length) :: (w.holderBytes ++ w.waits.map WaitEntry.toByte)

/-- The wait entries after a holder field: as many bytes as the wait count, or none when the bytes run out. -/
def takeWaits (n : Nat) (bs : List Byte) : Option (List WaitEntry × List Byte) :=
  if bs.length < n then none else some ((bs.take n).map waitOfByte, bs.drop n)

/-- One wire record from the front of the bytes, with the rest; none when the bytes run out (R100). -/
def takeRecord : List Byte → Option (WireRecord × List Byte)
  | [] => none
  | b :: bs =>
    let code : BitVec 2 := b.extractLsb' 6 2
    let n := b.toNat % 64
    let after (holders : List Holder) (rest : List Byte) : Option (WireRecord × List Byte) :=
      (takeWaits n rest).map fun p => ({ code := code, holders := holders, waits := p.1 }, p.2)
    if code = 1 then
      match bs with
      | h :: rest => after [{ station := stationOf h, yieldable := h.getLsbD 6 }] rest
      | [] => none
    else if code = 2 then
      match bs with
      | h1 :: h0 :: y1 :: y0 :: rest => after (holdersOfSets (half h1 h0) (half y1 y0)) rest
      | _ => none
    else after [] bs

/-- n wire records from the front of the bytes, with the rest. -/
def takeRecords : Nat → List Byte → Option (List WireRecord × List Byte)
  | 0, bs => some ([], bs)
  | n + 1, bs =>
    match takeRecord bs with
    | none => none
    | some (w, rest) =>
      match takeRecords n rest with
      | none => none
      | some (ws, rest') => some (w :: ws, rest')

/-! ### Frames on the wire -/

/-- The kind codes (R98). -/
def Body.kindCode : Body → Nat
  | .claim _ _ _ _ => 1
  | .drop _ => 2
  | .presence _ _ => 3
  | .expel _ _ => 4
  | .join => 5
  | .leave => 6
  | .snapshot _ => 7

/-- The reason codes of an EXPEL (R99). -/
def ExpelReason.code : ExpelReason → Nat
  | .silent => 1
  | .disagree => 2

/-- The mode, class and yieldable bits of a claim (R99, R176). -/
def claimBits (m : Mode) (c : ClaimClass) (y : Bool) : Nat :=
  bit (m == .exclusive) + 2 * bit (c == .urgent) + 4 * bit y

/-- The payload of a snapshot part: its index, then its contents (R100). -/
def Part.payload : Part → List Byte
  | .members ms => byte 0 :: memberBytes ms
  | .records k recs => byte (k.val + 1) :: recs.flatMap WireRecord.bytes

/-- The payload of each kind (R99, R100). -/
def Body.payload : Body → List Byte
  | .claim r m c y => [byte r.val, byte (claimBits m c y)]
  | .drop r => [r]
  | .presence synced digest => byte (bit synced) :: halfBytes digest
  | .expel t why => [byte t.val, byte why.code]
  | .join => []
  | .leave => []
  | .snapshot p => p.payload

/-! ### What the wire can carry -/

/-- A wire record that the encoding of R100 can carry: the holder field belongs to the state code, shared holders are a
set in ascending order, and the wait count fits its six bits. -/
def WireRecord.wellFormed (w : WireRecord) : Bool :=
  decide (w.waits.length < 64) &&
    if w.code = 1 then decide (w.holders.length = 1)
    else if w.code = 2 then decide ((w.holders.map (·.station)).Pairwise (· < ·))
    else w.holders.isEmpty

/-- A frame that the wire can carry (R98, R100): a records part has eight records that fit, and the payload fits its
length byte. -/
def Frame.wellFormed (f : Frame) : Bool :=
  decide (f.body.payload.length < 256) &&
    match f.body with
    | .snapshot (.records _ recs) => decide (recs.length = 8) && recs.all WireRecord.wellFormed
    | .snapshot (.members _) | .claim _ _ _ _ | .drop _ | .presence _ _ | .expel _ _ | .join | .leave => true

/-- The bytes of a frame before its check (R98). -/
def Frame.bytesBeforeCheck (f : Frame) : List Byte :=
  byte (16 * f.sender.val + f.body.kindCode) :: byte (128 * bit f.active) :: hiByte f.count :: loByte f.count ::
    byte f.body.payload.length :: f.body.payload

/-- The bytes of a frame from start mark to closing mark (R98, R101). -/
def encodeFrame (f : Frame) : List Byte := f.bytesBeforeCheck ++ halfBytes (checkOf f.bytesBeforeCheck)

/-- The snapshot part a payload carries; none where the payload's length does not suit its part index (R104). -/
def partOf : List Byte → Option Part
  | [] => none
  | i :: bs =>
    if i = 0 then
      match bs with
      | [b0, b1, b2, b3] => some (.members (membersOfBytes b0 b1 b2 b3))
      | _ => none
    else if h : i.toNat - 1 < 8 then
      match takeRecords 8 bs with
      | some (recs, []) => some (.records ⟨i.toNat - 1, h⟩ recs)
      | _ => none
    else none

/-- The body of a kind code and payload; none where the kind is undefined, the length does not suit the kind, or a
CLAIM or EXPEL is out of range (R99, R104). -/
def bodyOf (kind : Nat) (payload : List Byte) : Option Body :=
  match kind, payload with
  | 1, [r, b] =>
    if h : r.toNat < 64 then
      some (.claim ⟨r.toNat, h⟩ (if b.getLsbD 0 then .exclusive else .shared)
        (if b.getLsbD 1 then .urgent else .ordinary) (b.getLsbD 2))
    else none
  | 2, [r] => some (.drop r)
  | 3, [synced, hi, lo] => some (.presence (synced == 1) (half hi lo))
  | 4, [t, why] =>
    if h : t.toNat < 16 then
      if why = 1 then some (.expel ⟨t.toNat, h⟩ .silent)
      else if why = 2 then some (.expel ⟨t.toNat, h⟩ .disagree)
      else none
    else none
  | 5, [] => some .join
  | 6, [] => some .leave
  | 7, p => (partOf p).map .snapshot
  | _, _ => none

/-- The frame that the bytes between the marks carry, or none where the receiver finds it damaged (R104): the check,
the number of bytes, the kind, the length for the kind, and the ranges of a CLAIM and of an EXPEL. -/
def decodeFrame (bytes : List Byte) : Option Frame :=
  match bytes with
  | b0 :: flags :: c1 :: c0 :: len :: rest =>
    if rest.length ≠ len.toNat + 2 then none
    else
      let payload := rest.take len.toNat
      if halfBytes (checkOf (b0 :: flags :: c1 :: c0 :: len :: payload)) ≠ rest.drop len.toNat then none
      else
        (bodyOf (b0.toNat % 16) payload).map fun body =>
          { sender := ⟨b0.toNat / 16, by omega⟩, active := flags.getLsbD 7, count := half c1 c0, body := body }
  | _ => none

/-! ### The digest -/

/-- The table digest: the check function over the member states and the 64 records in their snapshot encoding, without
the part-index bytes (R19). -/
def ReplicaEngine.digest (e : ReplicaEngine) : Half :=
  checkOf (memberBytes e.members ++ e.records.toList.flatMap fun r => r.toWire.bytes)

/-- A snapshot part as the replica engine encodes it (R22): part 0 the member states, part k resources 8(k - 1) to
8k - 1. -/
def ReplicaEngine.part (e : ReplicaEngine) (k : Fin 9) : Part :=
  if h : k.val = 0 then .members e.members
  else
    .records ⟨k.val - 1, by omega⟩
      (((e.records.toList.drop (8 * (k.val - 1))).take 8).map Record.toWire)

end Sys2Proof.Machine
end

