-- ==== Sys2Proof/Machine/Table.lean ====
section
/-! DEFINITION. The replica and its operations: holders, wait lists, the pool, the grant pass, the removal of a station, founding, the standing of a station, and the loading of snapshot parts (Chapters 1 and 2). -/

namespace Sys2Proof.Machine

/-! ### Holders and wait lists -/

/-- A holder placed in a set of shared holders, ascending by station (R3). -/
def insertHolder (h : Holder) : List Holder → List Holder
  | [] => [h]
  | x :: xs => if h.station.val < x.station.val then h :: x :: xs else x :: insertHolder h xs

/-- A station made a holder (R3, R14, R31): EXCLUSIVE gives the exclusive holder, SHARED joins the shared holders. -/
def Holding.add (hd : Holding) (m : Mode) (h : Holder) : Holding :=
  match m with
  | .exclusive => .exclusive h
  | .shared =>
    match hd with
    | .shared hs => .shared (insertHolder h hs)
    | .free => .shared [h]
    | .exclusive _ => .shared [h]

/-- A holder taken out (R3): when the last is removed the state becomes FREE, when others remain it is kept. -/
def Holding.remove (hd : Holding) (x : Station) : Holding :=
  match hd with
  | .free => .free
  | .exclusive h => if h.station = x then .free else .exclusive h
  | .shared hs =>
    match hs.filter (fun h => h.station != x) with
    | [] => .free
    | rest => .shared rest

/-- The holder that a station is in a record, if it is one. -/
def Record.holderOf (r : Record) (x : Station) : Option Holder := r.holding.holders.find? fun h => h.station == x

/-- Whether a station is a holder in a record. -/
def Record.holds (r : Record) (x : Station) : Bool := r.holding.holders.any fun h => h.station == x

/-- Whether a station has a wait entry in a record. -/
def Record.waitsFor (r : Record) (x : Station) : Bool := r.waits.any fun w => w.entry.station == x

/-- Whether a station stands in a record at all (R5). -/
def Record.has (r : Record) (x : Station) : Bool := r.holds x || r.waitsFor x

/-- Class-ordered insertion (R7): ORDINARY at the tail, URGENT directly behind the last URGENT entry. -/
def insertWait (w : Wait) (ws : List Wait) : List Wait :=
  match w.entry.cls with
  | .ordinary => ws ++ [w]
  | .urgent =>
    ws.takeWhile (fun v => v.entry.cls == .urgent) ++ w :: ws.dropWhile (fun v => v.entry.cls == .urgent)

/-! ### The grant pass -/

/-- The grants of the grant pass (R14): while the head is compatible with the state, it becomes a holder. -/
def grantHeads (h : Holding) : List Wait → Holding × List Wait
  | [] => (h, [])
  | w :: ws =>
    if h.compatible w.entry.mode then
      grantHeads (h.add w.entry.mode { station := w.entry.station, yieldable := w.entry.yieldable }) ws
    else (h, w :: ws)

/-- The grant pass on one record, with yield demand recomputed at its end (R14, R16). -/
def Record.grantPass (r : Record) : Record :=
  let g := grantHeads r.holding r.waits
  { r with holding := g.1, waits := g.2 }.recomputeYield

/-- A station taken out of a record wherever it stands, then the grant pass (R17, R35). -/
def Record.takeOut (r : Record) (x : Station) : Record :=
  { r with holding := r.holding.remove x, waits := r.waits.filter fun w => w.entry.station != x }.grantPass

/-! ### The pool -/

/-- The lowest-numbered free entry of the pool (R8); none when all 96 are in use (R9). -/
def lowestFree (pool : Vector Bool 96) : Option (Fin 96) := (List.finRange 96).find? fun i => !pool[i]

/-- A pool entry taken into use (R8). -/
def takeSlot (pool : Vector Bool 96) (i : Fin 96) : Vector Bool 96 := pool.set i true

/-- The numbers of the pool entries that a record's wait list holds. -/
def Record.slots (r : Record) : List Nat := r.waits.map (·.slot)

/-- The pool with the entries freed that have left a wait list (R8). -/
def freeSlots (pool : Vector Bool 96) (left : List Nat) : Vector Bool 96 :=
  tableOf 96 fun i => pool[i] && !left.contains i.val

/-- The entries of a record's wait list that are no longer in it afterwards. -/
def slotsLeft (before after : Record) : List Nat := before.slots.filter fun n => !after.slots.contains n

/-! ### Updates of the replica -/

/-- A record rewritten from what it was before an operation to what it is after, with the pool entries freed that the
operation took out of its wait list (R8). -/
def ReplicaEngine.rewrite (e : ReplicaEngine) (r : Resource) (before after : Record) : ReplicaEngine :=
  { e with records := e.records.set r after, pool := freeSlots e.pool (slotsLeft before after) }

/-- A member record set (R10). -/
def ReplicaEngine.setMember (e : ReplicaEngine) (x : Station) (m : MemberState) : ReplicaEngine :=
  { e with members := e.members.set x m }

/-- The removal of a station (R17): at each resource it is taken out and the grant pass runs, then its member record is
set. A grant pass depends on its own record alone and takes no pool entry, so the order of the visits shows only in
the order of the reports. -/
def ReplicaEngine.removeStation (e : ReplicaEngine) (x : Station) (m : MemberState) : ReplicaEngine :=
  { e with
    records := mapTable (fun r => r.takeOut x) e.records
    pool := freeSlots e.pool (e.records.toList.flatMap fun r => slotsLeft r (r.takeOut x))
    members := e.members.set x m }

/-- Whether a station stands in some record. -/
def ReplicaEngine.stands (e : ReplicaEngine) (x : Station) : Bool := e.records.toList.any fun r => r.has x

/-- The reference the member table gives: the lowest-numbered ACTIVE member (R11). -/
def ReplicaEngine.lowestActive (e : ReplicaEngine) : Option Station :=
  allStations.find? fun i => e.members[i] == .active

/-- The reference as derived by this station; a station whose replica is invalid derives none (R11). -/
def ReplicaEngine.reference (e : ReplicaEngine) : Option Station := if e.valid then e.lowestActive else none

/-- The applied count advanced by one, modulo 65536 (R12). -/
def ReplicaEngine.advance (e : ReplicaEngine) : ReplicaEngine := { e with count := e.count + 1 }

/-- Founding (R21): the initial table with this station its only, ACTIVE, member and an applied count of 1. -/
def ReplicaEngine.founded (me : Station) : ReplicaEngine :=
  { ReplicaEngine.empty with
    members := ReplicaEngine.empty.members.set me .active, count := 1, valid := true }

/-! ### Standings -/

/-- Where a station stands in a record, as the outcome of a CLAIM reports it (R34): yield demand goes with a holder's
standing alone, as it asks nothing of a waiter. -/
inductive Standing where
  | holder (mode : Mode) (yieldable : Bool) (demand : Bool)
  | waiter
  | neither
  deriving DecidableEq, Repr

/-- The mode of a hold, given by the state of the record (R4). -/
def Holding.mode : Holding → Mode
  | .exclusive _ => .exclusive
  | .shared _ => .shared
  | .free => .shared

/-- A station's standing in a record. -/
def Record.standing (r : Record) (x : Station) : Standing :=
  match r.holderOf x with
  | some h => .holder r.holding.mode h.yieldable r.yieldDemand
  | none => if r.waitsFor x then .waiter else .neither

/-- The answer to the binding unit's query for a resource (R25): this station's standing, and the yield demand of the
resource whatever that standing is. An INVALID replica gives no yield demand. -/
structure QueryAnswer where
  standing : Standing
  demand : Option Bool
  deriving DecidableEq, Repr

/-- The binding unit's query (R25): an INVALID replica answers not held, not waiting. -/
def ReplicaEngine.query (e : ReplicaEngine) (x : Station) (r : Resource) : QueryAnswer :=
  if e.valid then { standing := e.records[r].standing x, demand := some e.records[r].yieldDemand }
  else { standing := .neither, demand := none }

/-- Yield demand as the replica engine reports it (R16, R43): its value, with the resource's holders and wait list, all as
they stand after the application. -/
structure YieldReport where
  demand : Bool
  holders : List Holder
  waits : List WaitEntry
  deriving DecidableEq, Repr

/-- The yield report of a record (R16). -/
def Record.yieldReport (r : Record) : YieldReport :=
  { demand := r.yieldDemand, holders := r.holding.holders, waits := r.waits.map (·.entry) }

/-! ### The CLAIM and DROP operations -/

/-- The outcomes of a CLAIM (Chapter 2, section 2.2). -/
inductive ClaimOutcome where
  | granted
  | waiting
  | refused
  | already
  deriving DecidableEq, Repr

/-- The immediate-grant test (R31): the mode compatible with the state, and no wait entry of equal or higher class. -/
def Record.grantsAtOnce (r : Record) (m : Mode) (c : ClaimClass) : Bool :=
  r.holding.compatible m &&
    match c with
    | .ordinary => r.waits.isEmpty
    | .urgent => !r.waits.any fun w => w.entry.cls == .urgent

/-- A CLAIM from an ACTIVE sender (R30 to R33). -/
def ReplicaEngine.claim (e : ReplicaEngine) (x : Station) (r : Resource) (m : Mode) (c : ClaimClass) (y : Bool) :
    ReplicaEngine × ClaimOutcome :=
  let before := e.records[r]
  if before.has x then (e, .already)
  else if before.grantsAtOnce m c then
    let held : Record := { before with holding := before.holding.add m { station := x, yieldable := y } }
    (e.rewrite r held held.grantPass, .granted)
  else
    match lowestFree e.pool with
    | none => (e, .refused)
    | some slot =>
      let w : Wait := { slot := slot.val, entry := { station := x, mode := m, cls := c, yieldable := y } }
      let inserted : Record := { before with waits := insertWait w before.waits }
      ({ e with pool := takeSlot e.pool slot }.rewrite r inserted inserted.grantPass, .waiting)

/-- What a DROP found (R36). -/
inductive DropFinding where
  | released
  | withdrawn
  | nothing
  deriving DecidableEq, Repr

/-- A DROP from an ACTIVE sender (R35). -/
def ReplicaEngine.drop (e : ReplicaEngine) (x : Station) (r : Resource) : ReplicaEngine × DropFinding :=
  let before := e.records[r]
  if before.holds x then (e.rewrite r before (before.takeOut x), .released)
  else if before.waitsFor x then (e.rewrite r before (before.takeOut x), .withdrawn)
  else (e, .nothing)

/-! ### Loading a snapshot (R23) -/

/-- The holder part a wire record's code and holder field give. -/
def WireRecord.holding (w : WireRecord) : Holding :=
  match w.code, w.holders with
  | 1, h :: _ => .exclusive h
  | 2, hs => .shared hs
  | _, _ => .free

/-- The stations of a wire record, holders first. -/
def WireRecord.stations (w : WireRecord) : List Station :=
  w.holders.map (·.station) ++ w.waits.map (·.station)

/-- Whether a wait list has every URGENT entry before every ORDINARY one (R7, R23). -/
def classOrdered (ws : List WaitEntry) : Bool :=
  (ws.dropWhile fun w => w.cls == .urgent).all fun w => w.cls == .ordinary

/-- Whether a list names some station twice. -/
def repeats : List Station → Bool
  | [] => false
  | x :: xs => xs.contains x || repeats xs

/-- The checks of R23 on one record, in the order of its list; the total of wait entries is checked over all. -/
def WireRecord.lawful (ms : Vector MemberState 16) (w : WireRecord) : Bool :=
  w.code != 3 &&
    !(w.code == 2 && w.holders.isEmpty) &&
    decide (w.waits.length ≤ Config.maxWaits) &&
    !repeats w.stations &&
    classOrdered w.waits &&
    !(w.waits.take 1).any (fun v => w.holding.compatible v.mode) &&
    w.stations.all fun x => ms[x] == .active

/-- The number of wait entries in a list of wire records. -/
def waitTotal (ws : List WireRecord) : Nat := (ws.map fun w => w.waits.length).sum

/-- What the engine reports of a part handed to it for loading (R23). -/
inductive LoadReport where
  | loaded
  | completed
  | broken
  deriving DecidableEq, Repr

/-- Pool entries numbered from n in list order (R23). -/
def numberWaits (n : Nat) : List WaitEntry → List Wait
  | [] => []
  | w :: ws => { slot := n, entry := w } :: numberWaits (n + 1) ws

/-- The records rebuilt with pool entries taken in resource order and list order, from entry n on, and with yield
demand recomputed (R23). -/
def rebuild (n : Nat) : List WireRecord → List Record
  | [] => []
  | w :: ws =>
    { holding := w.holding, waits := numberWaits n w.waits, yieldDemand := false : Record }.recomputeYield ::
      rebuild (n + w.waits.length) ws

/-- The load image become the replica, in one step (R23). -/
def LoadImage.complete (i : LoadImage) : ReplicaEngine :=
  let recs := rebuild 0 i.records
  { records := tableOf 64 fun r => recs.getD r.val Record.empty
    pool := tableOf 96 fun n => decide (n.val < waitTotal i.records)
    members := i.members
    count := i.count
    valid := true
    load := none }

/-- An accepted part handed for loading (R23): part 0 starts a load image, part k goes on with it or completes it, and
a part out of order, with another count or with an unlawful record breaks the load. -/
def ReplicaEngine.loadPart (e : ReplicaEngine) (count : Half) : Part → ReplicaEngine × LoadReport
  | .members ms => ({ e with load := some { members := ms, records := [], nextPart := 1, count := count + 1 } }, .loaded)
  | .records k recs =>
    match e.load with
    | none => ({ e with load := none }, .broken)
    | some i =>
      if i.nextPart = k.val + 1 ∧ i.count = count ∧ recs.all (WireRecord.lawful i.members) = true ∧
          waitTotal (i.records ++ recs) ≤ Config.poolSize then
        let i' : LoadImage :=
          { i with records := i.records ++ recs, nextPart := i.nextPart + 1, count := i.count + 1 }
        if k.val = 7 then (i'.complete, .completed) else ({ e with load := some i' }, .loaded)
      else ({ e with load := none }, .broken)

/-- The load image emptied, the replica untouched (R23, R146). -/
def ReplicaEngine.discardLoad (e : ReplicaEngine) : ReplicaEngine := { e with load := none }

/-- Whether a load is in progress (R146): the load image holds part 0 of a run. -/
def ReplicaEngine.loading (e : ReplicaEngine) : Bool := e.load.isSome

end Sys2Proof.Machine
end

