-- ==== Sys2Proof/Machine/Queue.lean ====
section
/-! DEFINITION. The transmit queue (Chapter 4): additions, withdrawals, the handing of the next frame, the outcomes of own frames, the snapshot job, the purge and the emptying. -/

namespace Sys2Proof.Machine

/-- The class of a queued frame (R84). -/
def Item.cls : Item → EntryClass
  | .claim _ _ _ _ => .claimFamily
  | .drop _ => .claimFamily
  | .expel _ _ => .control
  | .join => .control
  | .leave => .control
  | .presence => .presence

/-- The resource that a CLAIM or DROP names. -/
def Item.resource? : Item → Option Resource
  | .claim r _ _ _ => some r
  | .drop r => some r
  | .expel _ _ | .join | .leave | .presence => none

/-- The target of an EXPEL. -/
def Item.target? : Item → Option Station
  | .expel t _ => some t
  | .claim _ _ _ _ | .drop _ | .join | .leave | .presence => none

/-- Whether a frame is a CLAIM. -/
def Item.isClaim : Item → Bool
  | .claim _ _ _ _ => true
  | .drop _ | .expel _ _ | .join | .leave | .presence => false

/-- Whether a frame is a JOIN or a LEAVE (R92). -/
def Item.isJoinOrLeave : Item → Bool
  | .join | .leave => true
  | .claim _ _ _ _ | .drop _ | .expel _ _ | .presence => false

/-- Whether an entry is the claim-family entry of a resource (R88). -/
def Entry.isFor (r : Resource) (e : Entry) : Bool := e.item.resource? == some r

/-- Whether an entry is the EXPEL of a target (R91). -/
def Entry.expels (t : Station) (e : Entry) : Bool := e.item.target? == some t

/-- A new entry: UNTAKEN with attempt count 0 (R84). -/
def Entry.fresh (i : Item) : Entry := { item := i, inFlight := false, attempts := 0 }

/-- A frame appended behind every other; within its class it is then the newest (R86). -/
def TransmitQueue.append (q : TransmitQueue) (i : Item) : TransmitQueue :=
  { q with entries := q.entries ++ [Entry.fresh i] }

/-- The claim-family entry held for a resource, if any. -/
def TransmitQueue.entryFor (q : TransmitQueue) (r : Resource) : Option Entry := q.entries.find? (Entry.isFor r)

/-- A CLAIM added, unless an entry for its resource is held (R88). -/
def TransmitQueue.addClaim (q : TransmitQueue) (r : Resource) (m : Mode) (c : ClaimClass) (y : Bool) : TransmitQueue :=
  match q.entryFor r with
  | some _ => q
  | none => q.append (.claim r m c y)

/-- The queue's answers to an added DROP (R89). -/
inductive DropAnswer where
  | cancelled
  | inFlight
  | present
  | queued
  deriving DecidableEq, Repr

/-- A DROP added for a resource (R89). -/
def TransmitQueue.addDrop (q : TransmitQueue) (r : Resource) : TransmitQueue × DropAnswer :=
  match q.entryFor r with
  | none => (q.append (.drop r), .queued)
  | some e =>
    if e.item.isClaim then
      if e.inFlight then (q, .inFlight)
      else ({ q with entries := removeFirst (Entry.isFor r) q.entries }, .cancelled)
    else (q, .present)

/-- The queue's answers to a withdrawal (R90, R91). -/
inductive WithdrawAnswer where
  | withdrawn
  | inFlight
  | noneHeld
  deriving DecidableEq, Repr

/-- The withdrawal of the first entry that satisfies p: an UNTAKEN one is removed (R90, R91). -/
def TransmitQueue.withdrawWhere (q : TransmitQueue) (p : Entry → Bool) : TransmitQueue × WithdrawAnswer :=
  match q.entries.find? p with
  | none => (q, .noneHeld)
  | some e => if e.inFlight then (q, .inFlight) else ({ q with entries := removeFirst p q.entries }, .withdrawn)

/-- The withdrawal of the claim-family entry for a resource (R90). -/
def TransmitQueue.withdraw (q : TransmitQueue) (r : Resource) : TransmitQueue × WithdrawAnswer :=
  q.withdrawWhere (Entry.isFor r)

/-- The withdrawal of the EXPEL for a target (R91, R170). -/
def TransmitQueue.withdrawExpel (q : TransmitQueue) (t : Station) : TransmitQueue × WithdrawAnswer :=
  q.withdrawWhere (Entry.expels t)

/-- Whether the queue holds an EXPEL for a target, in either standing and with either reason (R91). -/
def TransmitQueue.holdsExpel (q : TransmitQueue) (t : Station) : Bool := q.entries.any (Entry.expels t)

/-- A JOIN or LEAVE added, unless one is held (R92). -/
def TransmitQueue.addJoinOrLeave (q : TransmitQueue) (i : Item) : TransmitQueue :=
  if q.entries.any (fun e => e.item.isJoinOrLeave) then q else q.append i

/-- A PRESENCE added, unless one is held (R92). -/
def TransmitQueue.addPresence (q : TransmitQueue) : TransmitQueue :=
  if q.entries.any (fun e => e.item == .presence) then q else q.append .presence

/-! ### The next frame -/

/-- An UNTAKEN entry of a class (R86). -/
def Entry.untaken (c : EntryClass) (e : Entry) : Bool := !e.inFlight && e.item.cls == c

/-- The oldest UNTAKEN entry in the order of R86: CONTROL, then CLAIM-FAMILY, then PRESENCE. -/
def TransmitQueue.oldestUntaken (q : TransmitQueue) : Option Entry :=
  (q.entries.find? (Entry.untaken .control)).or
    ((q.entries.find? (Entry.untaken .claimFamily)).or (q.entries.find? (Entry.untaken .presence)))

/-- What the queue hands (R86): the frame, and whether this is its taking for a first attempt. -/
structure Handed where
  sent : Sent
  first : Bool
  deriving DecidableEq, Repr

/-- An entry's next attempt begun (R84, R107). -/
def Entry.attempt (e : Entry) : Entry := { e with inFlight := true, attempts := e.attempts + 1 }

/-- The answer to the request for the next frame (R86), with the attempt count of the frame handed advanced by the
attempt that begins in the same event (R107). The frame in flight comes first while attempts are left of it, and while
one is in flight nothing else is handed; then the snapshot run or an armed job; then the oldest UNTAKEN entry. -/
def TransmitQueue.hand (q : TransmitQueue) : TransmitQueue × Option Handed :=
  match q.entries.find? (·.inFlight) with
  | some e =>
    if e.attempts < Config.maxAttempts then
      ({ q with entries := updateFirst (·.inFlight) Entry.attempt q.entries },
        some { sent := .entry e.item, first := false })
    else (q, none)
  | none =>
    match q.job with
    | .running k (some n) =>
      if n < Config.maxAttempts then
        ({ q with job := .running k (some (n + 1)) }, some { sent := .part k, first := false })
      else (q, none)
    | .running k none => ({ q with job := .running k (some 1) }, some { sent := .part k, first := true })
    | .armed => ({ q with job := .running 0 (some 1) }, some { sent := .part 0, first := true })
    | .clear =>
      match q.oldestUntaken with
      | none => (q, none)
      | some e =>
        ({ q with entries := updateFirst (Entry.untaken e.item.cls) Entry.attempt q.entries },
          some { sent := .entry e.item, first := true })

/-- The attempt count of the frame in flight (R107); 0 when none is. -/
def TransmitQueue.attemptsInFlight (q : TransmitQueue) : Nat :=
  match q.entries.find? (·.inFlight) with
  | some e => e.attempts
  | none =>
    match q.job with
    | .running _ (some n) => n
    | .running _ none => 0
    | .armed => 0
    | .clear => 0

/-! ### Outcomes of own frames -/

/-- The snapshot job on the acceptance of the part in flight (R95): the next part, or CLEAR after part 8. -/
def TransmitQueue.partAccepted (q : TransmitQueue) : TransmitQueue :=
  match q.job with
  | .running k (some _) =>
    if h : k.val < 8 then { q with job := .running ⟨k.val + 1, by omega⟩ none }
    else { q with job := .clear, reArm := false }
  | .running _ none => q
  | .armed => q
  | .clear => q

/-- The snapshot job on the drop of the part in flight (R95): re-armed once, cleared the second time. -/
def TransmitQueue.partDropped (q : TransmitQueue) : TransmitQueue :=
  match q.job with
  | .running _ (some _) =>
    if q.reArm then { q with job := .clear, reArm := false } else { q with job := .armed, reArm := true }
  | .running _ none => q
  | .armed => q
  | .clear => q

/-- Whether the job has passed to ARMED between two forms of the queue: at a drop, whether it abandoned a run that is to be
made once more (R95, R129). -/
def TransmitQueue.rearmedFrom (after before : TransmitQueue) : Bool := after.job == .armed && !(before.job == .armed)

/-- An own frame accepted (R93): its entry is removed, or the run advances; then an UNTAKEN PRESENCE is removed. -/
def TransmitQueue.accepted (q : TransmitQueue) (what : Sent) : TransmitQueue :=
  let q' := match what with
    | .part _ => q.partAccepted
    | .entry _ => { q with entries := removeFirst (·.inFlight) q.entries }
  { q' with entries := removeFirst (Entry.untaken .presence) q'.entries }

/-- An own frame dropped after its last attempt (R94): its entry is removed, an EXPEL or a JOIN is appended anew, and a
snapshot part abandons the run. -/
def TransmitQueue.dropped (q : TransmitQueue) (what : Sent) : TransmitQueue :=
  match what with
  | .part _ => q.partDropped
  | .entry i =>
    let q' : TransmitQueue := { q with entries := removeFirst (·.inFlight) q.entries }
    match i with
    | .expel t why => q'.append (.expel t why)
    | .join => q'.append .join
    | .claim _ _ _ _ | .drop _ | .leave | .presence => q'

/-! ### The snapshot job, the purge and the emptying -/

/-- The job armed (R40, R95): a fresh arming clears the re-arm mark. -/
def TransmitQueue.arm (q : TransmitQueue) : TransmitQueue :=
  match q.job with
  | .clear => { q with job := .armed, reArm := false }
  | .armed => { q with reArm := false }
  | .running _ _ => q

/-- The reference role lost (R47, R95): an armed job is cleared. -/
def TransmitQueue.roleLost (q : TransmitQueue) : TransmitQueue :=
  match q.job with
  | .armed => { q with job := .clear, reArm := false }
  | .clear => q
  | .running _ _ => q

/-- The teardown purge (R96): every claim-family, EXPEL and PRESENCE entry is discarded and the job cleared; a JOIN or
LEAVE is kept. -/
def TransmitQueue.purged (q : TransmitQueue) : TransmitQueue :=
  { entries := q.entries.filter fun e => e.item.isJoinOrLeave, job := .clear, reArm := false }

/-- Whether an entry or part is in flight. -/
def TransmitQueue.anyInFlight (q : TransmitQueue) : Bool :=
  q.entries.any (·.inFlight) ||
    match q.job with
    | .running _ (some _) => true
    | .running _ none => false
    | .armed => false
    | .clear => false

/-- The exchange interface told that the frame in flight has no entry any more (R85, R96): it makes no further attempt
of it. -/
def ExchangeInterface.entryDiscarded (x : ExchangeInterface) : ExchangeInterface :=
  { x with attempt := x.attempt.map fun a => { a with discarded := true } }

/-- The queue replaced by one from which entries were discarded: where the frame in flight is among them the exchange
interface is told (R85, R96), and a run that was in progress has ended, so the pinned flag is cleared (R95, R129). -/
def discardTo (after : TransmitQueue) (s : State) : State :=
  let lost := s.tq.anyInFlight && !after.anyInFlight
  let s' := s.withTq after
  let s' := if lost then s'.withXi s'.xi.entryDiscarded else s'
  s'.withTc { s'.tc with pinned := false }

/-- The teardown purge ordered by the station controller (R96). -/
def purgeQueue (s : State) : State := discardTo s.tq.purged s

/-- The queue emptied by order of the station controller (R85). -/
def emptyQueue (s : State) : State := discardTo TransmitQueue.empty s

/-- An EXPEL asked for (R91): taken in and counted unless one for the target is held. -/
def askExpel (t : Station) (why : ExpelReason) (s : State) : State :=
  if s.tq.holdsExpel t then s
  else countUp .expelsQueued (s.withTq (s.tq.append (.expel t why)))

end Sys2Proof.Machine
end

