-- ==== Sys2Proof/Machine/Binding.lean ====
section
/-! DEFINITION. The binding unit (Chapter 3): requests and demand events, the local claim transitions, the batch of the replica engine, the loss of holds, and the reads of a binding. -/

namespace Sys2Proof.Machine

/-! ### The Local Claim Table -/

/-- The station's local claims replaced. -/
def State.withClaims (s : State) (cs : List LocalClaim) : State := s.withBu { s.bu with claims := cs }

/-- A local claim written back in its place (R57). -/
def putClaim (c : LocalClaim) (s : State) : State :=
  s.withClaims (s.bu.claims.map fun d => if d.resource = c.resource then c else d)

/-- A handler applied to the local claim of a resource; an event for a resource that has none is disregarded (R82). -/
def onClaim (r : Resource) (f : LocalClaim → State → State) (s : State) : State :=
  match s.bu.claimFor r with
  | none => s
  | some c => f c s

/-- A local claim moved to a state, with its cancel and reclaim flags clear, and yield seen kept only in HELD and
DROPPING (R68). -/
def LocalClaim.to (c : LocalClaim) (st : ClaimState) : LocalClaim :=
  { c with
    state := st, cancel := false, reclaim := false
    yieldSeen := c.yieldSeen && (st == .held || st == .dropping) }

/-- A CLAIM handed to the transmit queue with the record's fields (R59, R88). -/
def handClaim (c : LocalClaim) (s : State) : State := s.withTq (s.tq.addClaim c.resource c.mode c.cls c.yieldable)

/-- A DROP handed to the transmit queue where the record is in no claim's way (R63, R69, R73, R89). -/
def handDrop (c : LocalClaim) (s : State) : State := s.withTq (s.tq.addDrop c.resource).1

/-- The record moved to QUEUED with a fresh CLAIM handed (R59, R66, R70, R72, R75, R81). -/
def claimAfresh (c : LocalClaim) (s : State) : State := handClaim c (putClaim (c.to .queued) s)

/-- The record moved to HELD with yield seen as given; YIELD_ASKED is posted when it is set (R63, R67, R68, R70). -/
def enterHeld (c : LocalClaim) (demand : Bool) (s : State) : State :=
  let s := putClaim { c.to .held with yieldSeen := demand } s
  if demand then postNotice (.yieldAsked c.resource) s else s

/-- The record moved to DROPPING with yield seen as given, and a DROP handed (R63, R65, R69). -/
def enterDropping (c : LocalClaim) (demand : Bool) (s : State) : State :=
  handDrop c (putClaim { c.to .dropping with yieldSeen := demand } s)

/-- The record's state taken from a standing (R65, R70, R73): holder gives HELD, waiter gives WAITING, and neither
gives QUEUED with a fresh CLAIM. -/
def takeStanding (c : LocalClaim) (st : Standing) (s : State) : State :=
  match st with
  | .holder _ _ demand => enterHeld c demand s
  | .waiter => putClaim (c.to .waiting) s
  | .neither => claimAfresh c s

/-! ### Demand events (R58 to R62, R69 to R71, R75) -/

/-- A demand rise at a local claim while the station is ACTIVE. -/
def demandRise (c : LocalClaim) (s : State) : State :=
  match c.state with
  | .none => claimAfresh c s
  | .sending => putClaim { c with cancel := false } s
  | .dropping =>
    if c.reclaim then s
    else
      let w := s.tq.withdraw c.resource
      match w.2 with
      | .withdrawn => takeStanding c (s.re.query s.me c.resource).standing (s.withTq w.1)
      | .inFlight => putClaim { c with reclaim := true } s
      | .noneHeld => putClaim { c with reclaim := true } s
  | .queued => s
  | .waiting => s
  | .held => s
  | .refused => s

/-- A demand fall at a local claim while the station is ACTIVE. The answers PRESENT and QUEUED do not arise for a
record in QUEUED (R60, R88); the record then stays as it is, log entry 14. -/
def demandFall (c : LocalClaim) (s : State) : State :=
  match c.state with
  | .none => s
  | .queued =>
    let d := s.tq.addDrop c.resource
    match d.2 with
    | .cancelled => putClaim (c.to .none) (s.withTq d.1)
    | .inFlight => putClaim { c.to .sending with cancel := true } s
    | .present => s
    | .queued => s.withTq d.1
  | .sending => putClaim { c with cancel := true } s
  | .waiting => enterDropping c false s
  | .held => enterDropping c c.yieldSeen s
  | .dropping => putClaim { c with reclaim := false } s
  | .refused => putClaim (c.to .none) s

/-- A change of binding n's request made by f (R55, R58): where it changes the demand of the local claim of the
binding's resource, and the station is ACTIVE, the demand event is taken. -/
def changeRequest (n : BindingNo) (f : BindingUnit → BindingUnit) (s : State) : State :=
  let s' := s.withBu (f s.bu)
  match s.bu.config n with
  | none => s'
  | some b =>
    if b.enabled && s.sc.state == .active then
      onClaim b.resource (fun c s' =>
        match s.bu.demand c, s'.bu.demand c with
        | false, true => demandRise c s'
        | true, false => demandFall c s'
        | false, false => s'
        | true, true => s') s'
    else s'

/-- Whether binding n is enabled and LATCHED (R55, R56). -/
def BindingUnit.isLatched (b : BindingUnit) (n : BindingNo) : Bool :=
  match b.config n with
  | none => false
  | some c => c.enabled && c.trigger == .latched

/-- A rise of the line level of CLMn taken (R54, R55): the level goes high, and the latch of an enabled LATCHED binding
is set while the station is ACTIVE. -/
def lineRise (n : BindingNo) (s : State) : State :=
  changeRequest n (fun b =>
    { b with
      lines := b.lines.set n true
      latches := if b.isLatched n && s.sc.state == .active then b.latches.set n true else b.latches }) s

/-- A fall of the line level of CLMn taken (R54, R55): the level goes low, and no latch is cleared. -/
def lineFall (n : BindingNo) (s : State) : State :=
  changeRequest n (fun b => { b with lines := b.lines.set n false }) s

/-- The request latch of binding n cleared by RELEASE LATCH (R56). -/
def clearLatch (n : BindingNo) (s : State) : State :=
  changeRequest n (fun b => { b with latches := b.latches.set n false }) s

/-! ### Reports about own frames -/

/-- TAKEN (R61, R74): a record in QUEUED moves to SENDING; any other keeps its state. -/
def takenReport (r : Resource) (s : State) : State :=
  onClaim r (fun c s =>
    match c.state with
    | .queued => putClaim (c.to .sending) s
    | .none | .sending | .waiting | .held | .dropping | .refused => s) s

/-- The CLAIM OUTCOME of a local claim in SENDING (R63 to R65). -/
def claimOutcome (r : Resource) (o : ClaimOutcome) (st : Standing) (s : State) : State :=
  let demand : Bool := match st with
    | .holder _ _ d => d
    | .waiter => false
    | .neither => false
  onClaim r (fun c s =>
    match c.state with
    | .sending =>
      match o with
      | .granted | .already =>
        if c.cancel then enterDropping c demand s else takeStanding c st s
      | .waiting => if c.cancel then enterDropping c false s else putClaim (c.to .waiting) s
      | .refused =>
        if c.cancel then putClaim (c.to .none) s
        else postNotice (.claimRefused r) (putClaim (c.to .refused) s)
    | .none | .queued | .waiting | .held | .dropping | .refused => s) s

/-- DROP APPLIED for a local claim in DROPPING (R72); the three findings are handled alike. -/
def dropApplied (r : Resource) (s : State) : State :=
  onClaim r (fun c s =>
    match c.state with
    | .dropping => if c.reclaim then claimAfresh c s else putClaim (c.to .none) s
    | .none | .queued | .sending | .waiting | .held | .refused => s) s

/-- The CLAIM of a local claim in SENDING dropped after its last attempt (R66). -/
def claimDropped (r : Resource) (s : State) : State :=
  onClaim r (fun c s =>
    match c.state with
    | .sending => if c.cancel then putClaim (c.to .none) s else claimAfresh c s
    | .none | .queued | .waiting | .held | .dropping | .refused => s) s

/-- The DROP of a local claim in DROPPING dropped after its last attempt (R73). -/
def dropDropped (r : Resource) (s : State) : State :=
  onClaim r (fun c s =>
    match c.state with
    | .dropping => if c.reclaim then takeStanding c (s.re.query s.me r).standing s else handDrop c s
    | .none | .queued | .sending | .waiting | .held | .refused => s) s

/-! ### The batch (R50, R82) -/

/-- The entries of a batch (R50). Where an entry gives a yield demand that the application may have changed, the resource's
holders and wait list go with it (R16). -/
inductive BatchEntry where
  | claimOutcome (r : Resource) (o : ClaimOutcome) (standing : Standing)
  | dropApplied (r : Resource) (finding : DropFinding)
  | granted (r : Resource) (mode : Mode) (yieldable : Bool) (report : YieldReport)
  | yield (r : Resource) (report : YieldReport)
  | removed (r : Resource)
  | freed
  deriving DecidableEq, Repr

/-- A grant by any frame (R67, R74): WAITING moves to HELD, and DROPPING takes yield seen alone. -/
def grantedEntry (r : Resource) (demand : Bool) (s : State) : State :=
  onClaim r (fun c s =>
    match c.state with
    | .waiting => enterHeld c demand s
    | .dropping => putClaim { c with yieldSeen := demand } s
    | .none | .queued | .sending | .held | .refused => s) s

/-- A YIELD entry (R68, R74): in HELD yield seen is taken and YIELD_ASKED posted when it becomes set; in DROPPING it is
taken alone. -/
def yieldEntry (r : Resource) (demand : Bool) (s : State) : State :=
  onClaim r (fun c s =>
    match c.state with
    | .held =>
      let s := putClaim { c with yieldSeen := demand } s
      if demand && !c.yieldSeen then postNotice (.yieldAsked r) s else s
    | .dropping => putClaim { c with yieldSeen := demand } s
    | .none | .queued | .sending | .waiting | .refused => s) s

/-- The bindings of a local claim whose GNT is asserted (R79, R80). -/
def assertedBindings (c : LocalClaim) (s : State) : List BindingNo := c.bindings.filter (gntLevel s.sc.state s.bu)

/-- A binding set as HOLD_LOST carries it (R192): bit n for binding n. -/
def bindingSet (ns : List BindingNo) : BitVec 12 := ns.foldl (fun m n => m ||| BitVec.twoPow 12 n.val) 0

/-- HOLD_LOST posted where the noted set is not empty (R79, R80). -/
def postHoldLost (ns : List BindingNo) (r : Resource) (why : LossReason) (s : State) : State :=
  if ns.isEmpty then s else postNotice (.holdLost (bindingSet ns) r why) s

/-- The latches with those of some LATCHED bindings cleared (R79). -/
def BindingUnit.clearLatches (b : BindingUnit) (ns : List BindingNo) : BindingUnit :=
  { b with latches := tableOf 12 fun n => b.latches[n] && !(ns.contains n && b.isLatched n) }

/-- A REMOVED entry (R79): the set is noted, the record goes to NONE, its queue entry is withdrawn, its latches are
cleared, and HOLD_LOST with reason EXPELLED is posted. -/
def removedEntry (r : Resource) (s : State) : State :=
  onClaim r (fun c s =>
    let noted := assertedBindings c s
    let s := putClaim (c.to .none) s
    let s := s.withTq (s.tq.withdraw r).1
    let s := s.withBu (s.bu.clearLatches c.bindings)
    postHoldLost noted r .expelled s) s

/-- A FREED entry (R75): every record in REFUSED moves to QUEUED and hands a fresh CLAIM, in ascending order of
resource. -/
def freedEntry (s : State) : State :=
  s.bu.claims.foldl (fun s c => if c.state = .refused then claimAfresh c s else s) s

/-- One entry of a batch (R82). -/
def takeEntry (s : State) : BatchEntry → State
  | .claimOutcome r o st => claimOutcome r o st s
  | .dropApplied r _ => dropApplied r s
  | .granted r _ _ report => grantedEntry r report.demand s
  | .yield r report => yieldEntry r report.demand s
  | .removed r => removedEntry r s
  | .freed => freedEntry s

/-- A batch, its entries in their order (R82). -/
def takeBatch (batch : List BatchEntry) (s : State) : State := batch.foldl takeEntry s

/-! ### The wholesale loss and the entry to ACTIVE -/

/-- The wholesale loss of holds (R80): the asserted sets are noted, every local claim goes to NONE, every latch is
cleared, and HOLD_LOST is posted for each noted set in ascending resource order. GNT and YLD fall with the claims. -/
def wholesaleLoss (why : LossReason) (s : State) : State :=
  let noted := s.bu.claims.map fun c => (c.resource, assertedBindings c s)
  let s := s.withBu
    { s.bu with claims := s.bu.claims.map (·.to .none), latches := Vector.replicate 12 false }
  noted.foldl (fun s n => postHoldLost n.2 n.1 why s) s

/-- The take-up on entering ACTIVE (R81): every local claim in NONE whose demand is set is queued, in ascending
resource order. -/
def takeUpClaims (s : State) : State :=
  s.bu.claims.foldl (fun s c => if c.state = .none && s.bu.demand c then claimAfresh c s else s) s

/-! ### The freeze (R53, R57) -/

/-- The enabled bindings that name a resource, in ascending order (R57). -/
def enabledOn (bs : Vector BindingConfig 12) (r : Resource) : List BindingNo :=
  allBindings.filter fun n => bs[n].enabled && bs[n].resource == r

/-- The Local Claim Table of a configuration (R57): one record in NONE for each resource an enabled binding names. -/
def localClaims (bs : Vector BindingConfig 12) : List LocalClaim :=
  allResources.filterMap fun r =>
    match enabledOn bs r with
    | [] => none
    | n :: ns =>
      some
        { resource := r, mode := bs[n].mode, cls := bs[n].cls, yieldable := bs[n].yieldable, bindings := n :: ns
          state := .none, cancel := false, reclaim := false, yieldSeen := false }

/-- The configured fields filled and the Local Claim Table built; the live fields keep their values (R53). -/
def BindingUnit.freeze (b : BindingUnit) (bs : Vector BindingConfig 12) : BindingUnit :=
  { b with bindings := some bs, claims := localClaims bs }

end Sys2Proof.Machine
end

