-- ==== Sys2Proof/Machine/Tenure.lean ====
section
/-! DEFINITION. The beginning of an own attempt (R102), and the tenure controller (Chapter 6): the bus condition, contention, the holding decision, parking, surrender, going offline and coming online, and the telling of has-work. -/

namespace Sys2Proof.Machine

/-! ### An attempt begins (R86, R102) -/

/-- The body of a queued frame as its attempt encodes it (R84, R102): a PRESENCE takes its synced flag and digest from
the replica as it stands. -/
def State.bodyOfItem (s : State) : Item → Body
  | .claim r m c y => .claim r m c y
  | .drop r => .drop (byte r.val)
  | .expel t why => .expel t why
  | .join => .join
  | .leave => .leave
  | .presence => .presence s.re.valid (if s.re.valid then s.re.digest else 0)

/-- The body of what the queue hands: an entry's, or a snapshot part's as the replica engine encodes it (R22). -/
def State.bodyOfSent (s : State) : Sent → Body
  | .entry i => s.bodyOfItem i
  | .part k => .snapshot (s.re.part k)

/-- The frame of an attempt, from the values as they stand when it begins (R102). -/
def State.frameOf (s : State) (what : Sent) : Frame :=
  { sender := s.me
    active := s.re.valid && s.sc.state == .active
    count := if s.re.valid then s.re.count else 0
    body := s.bodyOfSent what }

/-- An attempt begun (R102, R103): its bytes go onto the pair. A frame of another station that was being taken is no
longer received, since the station then sends itself (R104, R113), log entry 9; a window that is open stays open, log
entry 29. -/
def beginAttempt (what : Sent) (s : State) : State :=
  s.withXi
    { s.xi with
      attempt := some { frame := s.frameOf what, sent := what, phase := .sending, discarded := false, unreported := false }
      rx := if s.xi.rx = .taking then .none else s.xi.rx }

/-- The TAKEN report of a frame handed for its first attempt (R86): for a CLAIM or a DROP alone. -/
def reportTaken (h : Handed) (s : State) : State :=
  match h.first, h.sent with
  | true, .entry i =>
    match i.resource? with
    | some r => takenReport r s
    | none => s
  | true, .part _ => s
  | false, _ => s

/-- The tenure controller asks for the next frame (R86, R125): the queue hands it, TAKEN is reported, a run that begins
sets the pinned flag (R129), and the attempt begins. -/
def askNext (s : State) : State :=
  let h := s.tq.hand
  match h.2 with
  | none => s
  | some handed =>
    let begins := s.tq.job == .armed && !(h.1.job == .armed)
    let s := s.withTq h.1
    let s := if begins then s.withTc { s.tc with pinned := true } else s
    beginAttempt handed.sent (reportTaken handed s)

/-! ### Wanting the bus (R119 to R124) -/

/-- The tenure state set. -/
def State.withTenure (s : State) (t : TenureState) : State := s.withTc { s.tc with state := t }

/-- A contention opened or joined (R120, R121, R123): the rank is placed, and the bus condition is CONTENTION. -/
def contend (fromDeferred : Bool) (s : State) : State :=
  s.withTc { s.tc with state := .contending, cameFromDeferred := fromDeferred, bus := some .contention }

/-- An IDLE station that comes to want the bus (R120). -/
def wantBus (s : State) : State :=
  match s.tc.bus with
  | some .free => contend false s
  | some .contention => contend false s
  | some .taken => s.withTenure .deferred
  | none => s

/-- The bus condition becomes FREE (R119, R123): a DEFERRED station opens or joins a contention. -/
def busBecomesFree (s : State) : State :=
  let s := s.withTc { s.tc with bus := some .free, quietWatch := false }
  match s.tc.state with
  | .deferred => contend true s
  | .offline | .idle | .contending | .holding | .parked | .served => s

/-- The bus condition becomes CONTENTION by another station's assertion of XTEN (R119, R123): a DEFERRED station joins. -/
def contentionOpens (s : State) : State :=
  let s := s.withTc { s.tc with bus := some .contention }
  match s.tc.state with
  | .deferred => contend true s
  | .offline | .idle | .contending | .holding | .parked | .served => s

/-! ### Holding, parking and surrender (R125 to R131) -/

/-- Tenure given up (R131): XTEN released, the quota count 0, SERVED. The bus is FREE then unless another station still
asserts XTEN. -/
def surrender (s : State) : State :=
  s.withTc
    { s.tc with
      state := .served, quota := 0
      bus := if s.lines.xten then some .taken else some .free }

/-- The decisions of R126. -/
inductive Decision where
  | continue
  | park
  | surrender
  deriving DecidableEq, Repr

/-- Whether the quota count has reached Q (R126). -/
def TenureController.quotaSpent (t : TenureController) : Bool :=
  match t.q with
  | some q => decide (q ≤ t.quota)
  | none => false

/-- The holding decision's table (R126), and R129 for the decision in which the run of the holder has just been abandoned
and re-armed: that holder surrenders if XWANT is asserted, whatever its quota count. After a run that ended otherwise, by a
second abandonment, by its last part or by a purge, the table alone decides, also where the count is still below Q. Both
are the model's choice between R126 and R129, log entry 25. -/
def TenureController.decision (t : TenureController) (xwant rearmed : Bool) : Decision :=
  if t.pinned then .continue
  else
    match t.hasWork, xwant with
    | true, false => .continue
    | true, true => if rearmed || t.quotaSpent then .surrender else .continue
    | false, false => .park
    | false, true => .surrender

/-- Has-work kept as the queue gives it, with no event taken (R125). -/
def noteWork (s : State) : State := s.withTc { s.tc with hasWork := s.tq.hasWork }

/-- The holding decision made and carried out (R126), on has-work as it stands and XWANT as other stations drive it, with
rearmed where the event has just abandoned and re-armed a run (R129). -/
def holdingDecision (rearmed : Bool) (s : State) : State :=
  let s := noteWork s
  match s.tc.decision s.lines.xwant rearmed with
  | .continue => askNext s
  | .park => s.withTenure .parked
  | .surrender => surrender s

/-- The end of an attempt reported to the tenure controller (R125, R127): in HOLDING the quota count advances, staying
at 255, and the holding decision is made; in any other state the report is disregarded (R118). -/
def attemptReport (rearmed : Bool) (s : State) : State :=
  match s.tc.state with
  | .holding => holdingDecision rearmed (s.withTc { s.tc with quota := min 255 (s.tc.quota + 1) })
  | .offline | .idle | .contending | .deferred | .parked | .served => s

/-! ### The close of a contention (R121, R122) -/

/-- Whether this station wins against the lowest of the other contenders (R121): the lower number ranks first, and an
equal number is read by both as their own. -/
def State.winsAgainst (s : State) (other : Option Station) : Bool :=
  match other with
  | none => true
  | some o => decide (s.me.val ≤ o.val)

/-- Whether another contender keeps XTEN asserted after the close (R121, R122): a lower one, which wins, or a twin with the
same number, which wins as well. -/
def State.keptAsserted (s : State) (other : Option Station) : Bool :=
  match other with
  | none => false
  | some o => decide (o.val ≤ s.me.val)

/-- The close as a contender takes it (R122). -/
def contenderCloses (won : Bool) (s : State) : State :=
  let s := s.withTc { s.tc with cameFromDeferred := false, bus := some .taken }
  if won then
    let s := s.withTc { s.tc with state := .holding, quota := 0 }
    if s.tc.hasWork then askNext s else holdingDecision false s
  else if s.tc.hasWork then s.withTenure .deferred
  else s.withTenure .idle

/-- The contention interval ends (R119, R121, R122), with the lowest of the other contenders as the line reads it. A
station that does not read CONTENTION takes the state of the line alone. -/
def contentionCloses (other : Option Station) (s : State) : State :=
  match s.tc.bus with
  | some .contention =>
    match s.tc.state with
    | .contending =>
      contenderCloses (s.winsAgainst other) (s.withLines { s.lines with xten := s.keptAsserted other })
    | .offline | .idle | .deferred | .holding | .parked | .served =>
      let s := s.withLines { s.lines with xten := other.isSome }
      if other.isSome then s.withTc { s.tc with bus := some .taken } else busBecomesFree s
  | some .free | some .taken | none => s.withLines { s.lines with xten := other.isSome }

/-! ### The lines as other stations drive them -/

/-- XTEN asserted by another station (R119): from FREE a contention opens; CONTENTION and TAKEN do not change. -/
def xtenAsserted (s : State) : State :=
  let s := s.withLines { s.lines with xten := true }
  match s.tc.bus with
  | some .free => contentionOpens s
  | some .contention | some .taken | none => s

/-- Whether this station itself keeps XTEN asserted (R133). -/
def TenureController.assertsXten (t : TenureController) : Bool :=
  match t.state with
  | .holding | .parked => true
  | .offline | .idle | .contending | .deferred | .served => false

/-- XTEN released by the other stations (R119): TAKEN becomes FREE, unless this station asserts the line, or came
online reading TAKEN and still waits for the line to be quiet. -/
def xtenReleased (s : State) : State :=
  let s := s.withLines { s.lines with xten := false }
  match s.tc.bus with
  | some .taken => if s.tc.quietWatch || s.tc.assertsXten then s else busBecomesFree s
  | some .free | some .contention | none => s

/-- XTEN has stayed released for longer than the contention interval (R119), at a station that came online reading
TAKEN. -/
def busQuiet (s : State) : State :=
  match s.tc.bus with
  | some .taken => if s.tc.quietWatch && !s.lines.xten && !s.tc.assertsXten then busBecomesFree s else s
  | some .free | some .contention | none => s

/-- XWANT asserted by another station (R130): a PARKED holder surrenders. -/
def xwantAsserted (s : State) : State :=
  let s := s.withLines { s.lines with xwant := true }
  match s.tc.state with
  | .parked => surrender s
  | .offline | .idle | .contending | .deferred | .holding | .served => s

/-- XWANT released by the other stations (R132): a SERVED station enters IDLE, and acts as IDLE does if it has work. -/
def xwantReleased (s : State) : State :=
  let s := s.withLines { s.lines with xwant := false }
  match s.tc.state with
  | .served =>
    let s := s.withTenure .idle
    if s.tc.hasWork then wantBus s else s
  | .offline | .idle | .contending | .deferred | .holding | .parked => s

/-! ### Going offline and coming online (R112, R117, R118) -/

/-- The attempt on the wire when the tenure controller goes OFFLINE (R112): cut short before its closing mark it is
truncated and gone; within its window it stands, and its sender takes no report of it. -/
def ExchangeInterface.cutAttempt (x : ExchangeInterface) : ExchangeInterface :=
  match x.attempt with
  | none => x
  | some a =>
    match a.phase with
    | .sending => { x with attempt := none }
    | .window => { x with attempt := some { a with unreported := true } }

/-- The tenure controller placed OFFLINE (R118). -/
def placeOffline (s : State) : State :=
  if s.tc.state = .offline then s
  else
    let s := s.withXi s.xi.cutAttempt
    s.withTc
      { s.tc with
        state := .offline, quota := 0, pinned := false, cameFromDeferred := false, bus := none, quietWatch := false
        hasWork := false }

/-- The tenure controller placed online (R118): IDLE, the bus read from the level of XTEN at that moment, also where that
falls into a gap between the rank marks of an open contention, log entry 26. -/
def placeOnline (s : State) : State :=
  if s.tc.state = .offline then
    s.withTc
      { s.tc with
        state := .idle, quota := 0, pinned := false, cameFromDeferred := false
        bus := if s.lines.xten then some .taken else some .free
        quietWatch := s.lines.xten }
  else s

/-! ### Has-work told (R87, R120, R123, R130) -/

/-- The new has-work value told to the tenure controller (R87). A change matters in IDLE (R120), DEFERRED (R123) and
PARKED (R130); elsewhere the value is kept for the next decision. -/
def tellWork (s : State) : State :=
  let old := s.tc.hasWork
  let s := noteWork s
  match s.tc.state, old, s.tc.hasWork with
  | .idle, false, true => wantBus s
  | .deferred, true, false => s.withTenure .idle
  | .parked, false, true => noteWork (askNext (s.withTenure .holding))
  | _, _, _ => s

/-- The end of every event: has-work is told once, as it stands after the event (R87), and the pins follow the states
(R76, R77, R133). DESIGN CHOICE, log entry 1. -/
def settle (s : State) : State := drivePins (tellWork s)

end Sys2Proof.Machine
end

