-- ==== Sys2Proof/Machine/Station.lean ====
section
/-! DEFINITION. The station controller (Chapters 7 and 8): entering a state, the teardown, founding, joining, confirmation, isolation, leaving, the presence duty and the silence records. -/

namespace Sys2Proof.Machine

/-! ### Entering a state (R135 to R138, R145, R155, R163) -/

/-- The items of the station controller as they stand after a change to a state: the timers and marks that belong to
the state entered start, those of every other state stop, founded seen is cleared on entering LISTENING alone (R138,
R139), table heard on entering and leaving AWAIT_SNAPSHOT (R145), and the presence timer and mark run on from one duty
state to another (R163). -/
def StationController.change (c : StationController) (st : StationState) : StationController :=
  { c with
    state := st
    listenTimer := st == .listening
    foundedSeen := c.foundedSeen && st != .listening
    deadline := if st = .awaitSnapshot then .running else .stopped
    tableHeard := false
    holdOffTimer := st == .isolated
    presenceTimer := st.duty
    satisfied := c.satisfied && c.state.duty && st.duty }

/-- The receiver's frame on a change of state (R104, R156): with the receiver off none is taken, no window is watched and
no reject is driven. So the reject that isolates a station, signalled before the isolation (R110), is not driven on to the
end of its window, log entry 10. -/
def ExchangeInterface.forState (x : ExchangeInterface) (st : StationState) : ExchangeInterface :=
  if st.receiverOn then x else { x with rx := .none }

/-- A change of station state (R137, R138, R145, R151): the load image is discarded, the queue emptied and the tenure
controller placed offline or online as the state calls for, the receiver follows the state, and STATE_CHANGED is
posted last. -/
def enterState (st : StationState) (cause : Cause) (s : State) : State :=
  let s := s.withRe s.re.discardLoad
  let s := if st.queueEmptied then emptyQueue s else s
  let s := if st.tenureOnline then placeOnline s else placeOffline s
  let s := s.withXi (s.xi.forState st)
  let s := s.withSc (s.sc.change st)
  postNotice (.stateChanged st cause) s

/-- FAULT entered with its reason (R154, R160, R182). -/
def enterFault (reason : FaultReason) (cause : Cause) (s : State) : State :=
  enterState .fault cause (s.withSc { s.sc with fault := reason })

/-! ### Silence records (R166, R167) -/

/-- Every silence record unwatched with count 0 (R167). -/
def noSilence : Vector Silence 16 := Vector.replicate 16 Silence.unwatched

/-- The silence records replaced. -/
def State.withSilence (s : State) (v : Vector Silence 16) : State := s.withSc { s.sc with silence := v }

/-- The records on entry to CONFIRMING (R167): every JOINING or ACTIVE member but this station is watched from 0. -/
def silenceOnLoad (me : Station) (ms : Vector MemberState 16) : Vector Silence 16 :=
  tableOf 16 fun i => { watched := ms[i] != .absent && i != me, count := 0 }

/-- A MEMBER report (R51, R167, R170): JOINING restarts the member's record, ABSENT unwatches it, and both ask for the
withdrawal of the EXPEL for that member; ACTIVE changes nothing. -/
def memberReport (x : Station) (m : MemberState) (s : State) : State :=
  match m with
  | .active => s
  | .joining =>
    let s := s.withSilence (s.sc.silence.set x { watched := true, count := 0 })
    s.withTq (s.tq.withdrawExpel x).1
  | .absent =>
    let s := s.withSilence (s.sc.silence.set x Silence.unwatched)
    s.withTq (s.tq.withdrawExpel x).1

/-- The count of a watched sender returned to 0 by its accepted frame (R168). -/
def silenceHeard (x : Station) (s : State) : State :=
  if s.sc.silence[x].watched then s.withSilence (s.sc.silence.set x { s.sc.silence[x] with count := 0 }) else s

/-! ### The teardown (R151) -/

/-- The stop of the silence records and the presence duty (R151 step 4, R163, R167). -/
def stopWatch (s : State) : State :=
  s.withSc { s.sc with silence := noSilence, presenceTimer := false, satisfied := false }

/-- Steps 1 to 4 of the teardown, in their order: wholesale loss, purge, invalidation, stop of the watch (R151). -/
def teardown (why : LossReason) (s : State) : State :=
  let s := wholesaleLoss why s
  let s := purgeQueue s
  let s := s.withRe ReplicaEngine.empty
  stopWatch s

/-- The teardown where the station stands in a table, and nothing elsewhere (R154, R155). -/
def teardownIfInTable (why : LossReason) (s : State) : State :=
  if s.sc.state.inTable then teardown why s else s

/-! ### Joining, founding and confirmation (R140 to R150) -/

/-- A JOIN added and JOIN_PENDING entered (R140, R148, R149). -/
def joinAgain (cause : Cause) (s : State) : State :=
  enterState .joinPending cause (s.withTq (s.tq.addJoinOrLeave .join))

/-- The silence limit L as frozen (R166). -/
def State.limit (s : State) : Option Nat := s.sc.params.map (·.limit)

/-- Whether a silence record is watched and stands at L (R169). -/
def Silence.atLimit (r : Silence) (limit : Option Nat) : Bool :=
  match limit with
  | none => false
  | some l => r.watched && decide (r.count = l)

/-- EXPEL with reason SILENT asked for every station of a list, in its order (R169). -/
def askSilentExpels (ts : List Station) (s : State) : State := ts.foldl (fun s t => askExpel t .silent s) s

/-- The stations whose watched count stands at L, in ascending order (R169). -/
def State.silentStations (s : State) : List Station :=
  allStations.filter fun i => s.sc.silence[i].atLimit s.limit

/-- CONFIRMED (R150, R161, R169): from CONFIRMING the station enters ACTIVE, asks for the silence expulsions that stand
due, and takes up its claims; in any other state the report is disregarded. -/
def confirmedReport (s : State) : State :=
  match s.sc.state with
  | .confirming => takeUpClaims (askSilentExpels s.silentStations (enterState .active .confirmed s))
  | .reset | .loading | .config | .fault | .listening | .joinPending | .awaitSnapshot | .active | .leaving | .isolated
  | .detached => s

/-- Founding (R142): the replica is founded, ACTIVE is entered, every silence record is unwatched, and the claims are
taken up. -/
def found (s : State) : State :=
  let s := s.withRe (ReplicaEngine.founded s.me)
  let s := enterState .active .founded s
  takeUpClaims (s.withSilence noSilence)

/-- The station's own JOIN accepted (R141, R161). -/
def ownJoinAccepted (s : State) : State :=
  match s.sc.state with
  | .joinPending => if s.sc.foundedSeen then enterState .awaitSnapshot .joinApplied s else found s
  | .reset | .loading | .config | .fault | .listening | .awaitSnapshot | .confirming | .active | .leaving | .isolated
  | .detached => s

/-- The snapshot deadline takes effect (R148). -/
def deadlineTakesEffect (s : State) : State :=
  if s.sc.tableHeard then joinAgain .deadline s else enterState .listening .noTableHeard s

/-- A load in progress ended without its completion (R146, R147): a deadline held at its expiry takes effect at once. -/
def loadEnded (s : State) : State :=
  match s.sc.deadline with
  | .held => deadlineTakesEffect s
  | .stopped | .running => s

/-- A completed load (R149, R150, R167): CONFIRMING is entered and the silence records begin. Where the loaded replica
shows this station JOINING, a PRESENCE is added; else the station leaves at once by the teardown and joins again. -/
def completedLoad (s : State) : State :=
  let s := enterState .confirming .snapshotLoaded s
  let s := s.withSilence (silenceOnLoad s.me s.re.members)
  match s.re.members[s.me] with
  | .joining => s.withTq s.tq.addPresence
  | .absent | .active => joinAgain .notJoining (teardown .left s)

/-- An accepted SNAPSHOT part in AWAIT_SNAPSHOT, handed to the replica engine for loading (R23, R145, R147, R149). -/
def takePart (count : Half) (p : Part) (s : State) : State :=
  let l := s.re.loadPart count p
  let s := s.withRe l.1
  match l.2 with
  | .loaded => s
  | .completed => completedLoad s
  | .broken => loadEnded s

/-- An accepted frame other than a SNAPSHOT part in AWAIT_SNAPSHOT (R146): it discards a load in progress. -/
def frameOutsideRun (s : State) : State :=
  if s.re.loading then loadEnded (s.withRe s.re.discardLoad) else s

/-! ### Leaving (R152 to R159) -/

/-- The cause of an expulsion with a reason (R137, R152). -/
def expelledCause : ExpelReason → Cause
  | .silent => .expelledSilent
  | .disagree => .expelledDisagree

/-- SELF EXPELLED (R152): the teardown, then LISTENING with auto-rejoin on, DETACHED with it off. -/
def selfExpelled (why : ExpelReason) (s : State) : State :=
  if s.sc.state.inTable then
    let s := teardown .expelled s
    enterState (if s.autoRejoin then .listening else .detached) (expelledCause why) s
  else s

/-- FOREIGN (R153): the teardown, then LISTENING. -/
def foreignReport (s : State) : State :=
  if s.sc.state.inTable then enterState .listening .foreign (teardown .foreign s) else s

/-- A twin frame (R154): FAULT with reason TWIN, with a teardown from CONFIRMING or ACTIVE. -/
def twinReport (s : State) : State :=
  if s.sc.state.receiverOn then enterFault .twin .twin (teardownIfInTable .twin s) else s

/-- The return-to-DETACHED mark that isolation sets (R155). -/
def State.isolationReturn (s : State) : Bool :=
  match s.sc.state with
  | .leaving | .detached => true
  | .reset | .loading | .config | .fault | .listening | .joinPending | .awaitSnapshot | .confirming | .active
  | .isolated => !s.autoRejoin

/-- REJECT LIMIT or DROP LIMIT (R155): ISOLATED, with a teardown from CONFIRMING or ACTIVE. With the receiver off the
report does not arise. -/
def isolate (cause : Cause) (s : State) : State :=
  if s.sc.state.receiverOn then
    let mark := s.isolationReturn
    let s := teardownIfInTable .isolated s
    enterState .isolated cause (s.withSc { s.sc with returnDetached := mark })
  else s

/-- The end of the hold-off (R156). -/
def holdOffEnds (s : State) : State :=
  let st : StationState := if s.sc.returnDetached then .detached else .listening
  enterState st .holdOffEnded (s.withSc { s.sc with returnDetached := false })

/-- LEAVE taken in CONFIRMING or ACTIVE (R157): the teardown with reason LEFT, the LEAVE added, LEAVING entered. -/
def leaveTable (s : State) : State :=
  let s := teardown .left s
  enterState .leaving .leaveCommand (s.withTq (s.tq.addJoinOrLeave .leave))

/-- The own LEAVE accepted or dropped (R158, R161): from LEAVING the station enters DETACHED. -/
def leaveEnds (cause : Cause) (s : State) : State :=
  match s.sc.state with
  | .leaving => enterState .detached cause s
  | .reset | .loading | .config | .fault | .listening | .joinPending | .awaitSnapshot | .confirming | .active | .isolated
  | .detached => s

/-! ### HEARD reports and accepted frames (R106, R139, R145) -/

/-- A HEARD report (R106, R139, R145, R161): a frame with its active flag set sets founded seen in LISTENING and
JOIN_PENDING, and table heard in AWAIT_SNAPSHOT. -/
def heardReport (f : Frame) (s : State) : State :=
  match s.sc.state with
  | .listening | .joinPending => s.withSc { s.sc with foundedSeen := s.sc.foundedSeen || f.active }
  | .awaitSnapshot => s.withSc { s.sc with tableHeard := s.sc.tableHeard || f.active }
  | .reset | .loading | .config | .fault | .confirming | .active | .leaving | .isolated | .detached => s

/-- A frame of any sender as AWAIT_SNAPSHOT takes it (R145, R146), log entry 12. -/
def frameWhileAwaiting (f : Frame) (s : State) : State :=
  match f.body with
  | .snapshot p => takePart f.count p s
  | .claim _ _ _ _ | .drop _ | .presence _ _ | .expel _ _ | .join | .leave => frameOutsideRun s

/-- An accepted frame of another station, not a twin, at the station controller (R139, R145, R168). -/
def otherFrameAccepted (f : Frame) (s : State) : State :=
  let s := silenceHeard f.sender s
  match s.sc.state with
  | .listening | .joinPending =>
    s.withSc { s.sc with foundedSeen := s.sc.foundedSeen || f.body == .join }
  | .awaitSnapshot => frameWhileAwaiting f s
  | .reset | .loading | .config | .fault | .confirming | .active | .leaving | .isolated | .detached => s

/-- An own frame accepted, at the station controller (R108, R141, R145, R146, R158, R164, R171): it sets the
presence-satisfied mark while the presence timer runs; in AWAIT_SNAPSHOT it is taken as any accepted frame is; a JOIN
and a LEAVE are taken as their states give; and an EXPEL posts EXPEL_SENT. -/
def ownFrameAccepted (f : Frame) (s : State) : State :=
  let awaiting := s.sc.state == .awaitSnapshot
  let s := s.withSc { s.sc with satisfied := s.sc.satisfied || s.sc.presenceTimer }
  let s := if awaiting then frameWhileAwaiting f s else s
  match f.body with
  | .join => ownJoinAccepted s
  | .leave => leaveEnds .left s
  | .expel t why => postNotice (.expelSent t why) s
  | .presence _ _ | .claim _ _ _ _ | .drop _ | .snapshot _ => s

/-! ### Timers (R140, R146, R148, R156, R163 to R169) -/

/-- The listen timer reaches 512 ms (R140). -/
def listenEnds (s : State) : State :=
  if s.sc.listenTimer then joinAgain .listenEnded s else s

/-- The snapshot deadline reaches 4 P (R146, R148): held while a load is in progress, else it takes effect. -/
def deadlineExpires (s : State) : State :=
  match s.sc.deadline with
  | .running =>
    if s.re.loading then s.withSc { s.sc with deadline := .held } else deadlineTakesEffect s
  | .stopped | .held => s

/-- The hold-off timer reaches 4 P (R156). -/
def holdOffExpires (s : State) : State := if s.sc.holdOffTimer then holdOffEnds s else s

/-- A silence record at a period end (R169): a watched count below L advances by one. -/
def Silence.advance (r : Silence) (limit : Option Nat) : Silence :=
  match limit with
  | none => r
  | some l => if r.watched && decide (r.count < l) then { r with count := r.count + 1 } else r

/-- The stations whose count an advance has just brought to L (R169). They are taken in ascending order of station
number, which R169 states for the entry to ACTIVE alone; at a period end it is the model's choice, log entry 27. -/
def reachedLimit (limit : Option Nat) (before after : Vector Silence 16) : List Station :=
  allStations.filter fun i => !before[i].atLimit limit && after[i].atLimit limit

/-- The silence counts at a period end, in CONFIRMING or ACTIVE; in ACTIVE each that reaches L asks for an EXPEL
(R169). -/
def advanceSilence (s : State) : State :=
  if s.sc.state.inTable then
    let before := s.sc.silence
    let after := mapTable (Silence.advance · s.limit) before
    let s := s.withSilence after
    if s.sc.state = .active then askSilentExpels (reachedLimit s.limit before after) s else s
  else s

/-- The presence duty at a period end (R164, R165): a PRESENCE is added where the mark is clear, and the mark is
cleared. -/
def presenceDuty (s : State) : State :=
  let s := if s.sc.satisfied then s else s.withTq s.tq.addPresence
  s.withSc { s.sc with satisfied := false }

/-- A period end (R163): the duty is decided, the silence counts advance, and the timer restarts. -/
def periodEnds (s : State) : State :=
  if s.sc.presenceTimer then advanceSilence (presenceDuty s) else s

end Sys2Proof.Machine
end

