-- ==== Sys2Proof/Machine/Apply.lean ====
section
/-! DEFINITION. The application of an accepted frame to a valid replica (Chapter 2, R27), with the foreign-table rule, the reference check, the effects of each kind, and the reports to the binding unit and the station controller. -/

namespace Sys2Proof.Machine

/-! ### The effects of a frame's kind (R27 step 5, sections 2.2 to 2.4) -/

/-- What the effects of a frame leave to be reported (R50, R51). -/
structure Effects where
  replica : ReplicaEngine
  /-- The outcome of a CLAIM that was no no-op (R30 to R33). -/
  outcome : Option ClaimOutcome
  /-- What a DROP found (R36). -/
  finding : Option DropFinding
  /-- Whether some station was taken out of a holder set or wait list by DROP, EXPEL, LEAVE or JOIN (R50). -/
  freed : Bool
  /-- The member record the frame set, with its new state (R51). -/
  member : Option (Station × MemberState)
  /-- The station an EXPEL removed, with the frame's reason (R38). -/
  expelled : Option (Station × ExpelReason)

/-- No effect: a no-op (R29). -/
def Effects.none (e : ReplicaEngine) : Effects :=
  { replica := e, outcome := Option.none, finding := Option.none, freed := false, member := Option.none,
    expelled := Option.none }

/-- The removal of a station, with what it leaves to be reported (R17, R50). -/
def removal (e : ReplicaEngine) (x : Station) (m : MemberState) : Effects :=
  { Effects.none (e.removeStation x m) with freed := e.stands x, member := some (x, m) }

/-- The effects of a CLAIM (R30 to R33), a no-op unless its sender is ACTIVE (R29). -/
def claimEffects (e : ReplicaEngine) (x : Station) (r : Resource) (m : Mode) (c : ClaimClass) (y : Bool) : Effects :=
  if e.members[x] = .active then
    let a := e.claim x r m c y
    { Effects.none a.1 with outcome := some a.2 }
  else Effects.none e

/-- The effects of a DROP (R35, R36), a no-op unless its sender is ACTIVE (R29) and for a resource above 63. -/
def dropEffects (e : ReplicaEngine) (x : Station) (r : Byte) : Effects :=
  if e.members[x] = .active then
    if h : r.toNat < 64 then
      let a := e.drop x ⟨r.toNat, h⟩
      { Effects.none a.1 with finding := some a.2, freed := a.2 != .nothing }
    else { Effects.none e with finding := some .nothing }
  else { Effects.none e with finding := some .nothing }

/-- The effects of a PRESENCE (R37): a synced one promotes a JOINING sender. -/
def presenceEffects (e : ReplicaEngine) (x : Station) (synced : Bool) : Effects :=
  if synced && e.members[x] == .joining then
    { Effects.none (e.setMember x .active) with member := some (x, .active) }
  else Effects.none e

/-- The effects of an EXPEL (R38), a no-op unless its sender is ACTIVE (R29) and its target JOINING or ACTIVE. -/
def expelEffects (e : ReplicaEngine) (x target : Station) (why : ExpelReason) : Effects :=
  if e.members[x] = .active ∧ e.members[target] ≠ .absent then
    { removal e target .absent with expelled := some (target, why) }
  else Effects.none e

/-- The effects of a JOIN (R39): a JOINING or ACTIVE sender is removed first; the sender becomes JOINING. -/
def joinEffects (e : ReplicaEngine) (x : Station) : Effects :=
  if e.members[x] = .absent then
    { Effects.none (e.setMember x .joining) with member := some (x, .joining) }
  else removal e x .joining

/-- The effects of a LEAVE (R41), a no-op from an ABSENT sender. -/
def leaveEffects (e : ReplicaEngine) (x : Station) : Effects :=
  if e.members[x] = .absent then Effects.none e else removal e x .absent

/-- The effects of a frame's kind on a valid replica (R29 to R42). -/
def effectsOf (e : ReplicaEngine) (f : Frame) : Effects :=
  match f.body with
  | .claim r m c y => claimEffects e f.sender r m c y
  | .drop r => dropEffects e f.sender r
  | .presence synced _ => presenceEffects e f.sender synced
  | .expel t why => expelEffects e f.sender t why
  | .join => joinEffects e f.sender
  | .leave => leaveEffects e f.sender
  | .snapshot _ => Effects.none e

/-! ### The batch (R50) -/

/-- The entry that opens the batch of an own CLAIM or DROP (R34, R36). -/
def ownEntry (me : Station) (f : Frame) (x : Effects) : List BatchEntry :=
  match f.body with
  | .claim r _ _ _ =>
    match x.outcome with
    | some o => [.claimOutcome r o (x.replica.records[r].standing me)]
    | none => []
  | .drop r =>
    match x.finding with
    | some d => if h : r.toNat < 64 then [.dropApplied ⟨r.toNat, h⟩ d] else []
    | none => []
  | .presence _ _ | .expel _ _ | .join | .leave | .snapshot _ => []

/-- The resource of an own CLAIM, whose immediate grant is reported by its outcome (R50). -/
def ownClaimOn (own : Bool) (f : Frame) (r : Resource) : Bool :=
  own &&
    match f.body with
    | .claim r' _ _ _ => r' == r
    | .drop _ | .presence _ _ | .expel _ _ | .join | .leave | .snapshot _ => false

/-- The entry that one record's change gives this station (R43, R50): GRANTED when the grant pass made it a holder,
YIELD when the demand changed on a resource it holds and keeps, REMOVED where its own expulsion found it. -/
def standingEntry (me : Station) (expelledMe byOutcome : Bool) (r : Resource) (before after : Record) :
    List BatchEntry :=
  if expelledMe then (if before.has me then [.removed r] else [])
  else
    match after.holderOf me with
    | none => []
    | some h =>
      if before.holds me then
        (if before.yieldDemand = after.yieldDemand then [] else [.yield r after.yieldReport])
      else if byOutcome then []
      else [.granted r after.holding.mode h.yieldable after.yieldReport]

/-- The batch of a frame (R50): the own frame's entry, the changes of standing in resource order, FREED last. -/
def batchOf (me : Station) (own : Bool) (f : Frame) (before : ReplicaEngine) (x : Effects) : List BatchEntry :=
  let expelledMe := (x.expelled.map (·.1)) == some me
  (if own then ownEntry me f x else []) ++
    (allResources.flatMap fun r =>
      standingEntry me expelledMe (ownClaimOn own f r) r before.records[r] x.replica.records[r]) ++
    (if x.freed then [.freed] else [])

/-! ### The checks before the effects (sections 2.6 and 2.7) -/

/-- Whether the foreign-table test catches a frame that is not own (R48). -/
def caughtForeign (e : ReplicaEngine) (f : Frame) : Bool := f.active && e.members[f.sender] != .active

/-- Whether a frame is a PRESENCE with synced flag 1. -/
def Frame.syncedPresence (f : Frame) : Bool :=
  match f.body with
  | .presence synced _ => synced
  | .claim _ _ _ _ | .drop _ | .expel _ _ | .join | .leave | .snapshot _ => false

/-- Whether the reference compares a frame's count (R44). -/
def countCompared (e : ReplicaEngine) (f : Frame) : Bool :=
  (f.active && e.members[f.sender] == .active) || (f.syncedPresence && e.members[f.sender] == .joining)

/-- Whether a frame's digest disagrees at the reference (R44): compared on a synced PRESENCE of a JOINING or ACTIVE
sender. -/
def digestDiffers (e : ReplicaEngine) (f : Frame) : Bool :=
  match f.body with
  | .presence synced d => synced && e.members[f.sender] != .absent && d != e.digest
  | .claim _ _ _ _ | .drop _ | .expel _ _ | .join | .leave | .snapshot _ => false

/-- The reference check (R44, R45): a count that differs is counted, and any disagreement asks for the EXPEL of the
sender. -/
def referenceCheck (f : Frame) (s : State) : State :=
  let countDiffers := countCompared s.re f && f.count != s.re.count
  let s := if countDiffers then countUp .countMismatch s else s
  if countDiffers || digestDiffers s.re f then askExpel f.sender .disagree s else s

/-- The count comparison of an ACTIVE station that is not the reference (R46). -/
def countComparison (f : Frame) (s : State) : State :=
  if f.active && s.re.members[f.sender] == .active && f.count != s.re.count then countUp .countMismatch s else s

/-- Step 4 of R27 on a frame that is not own. -/
def checkFrame (f : Frame) (s : State) : State :=
  if s.re.reference = some s.me then referenceCheck f s
  else if s.sc.state = .active then countComparison f s
  else s

/-! ### Reports to the station controller (R51) -/

/-- The membership reports of a frame (R51): MEMBER for another station, CONFIRMED for this station's promotion, SELF
EXPELLED for its own expulsion. -/
def membershipReports (me : Station) (before : ReplicaEngine) (x : Effects) (s : State) : State :=
  let s := match x.member with
    | none => s
    | some (y, m) =>
      if y ≠ me then memberReport y m s
      else if before.members[me] = .joining ∧ m = .active then confirmedReport s
      else s
  match x.expelled with
  | none => s
  | some (y, why) => if y = me then selfExpelled why s else s

/-! ### The application (R27) -/

/-- Whether a frame is a JOIN whose effects were taken. -/
def Frame.isJoin (f : Frame) : Bool := f.body == .join

/-- Step 7 of R27: a JOIN of another station arms the snapshot job where this station is then the reference (R40), and
a reference role lost clears an armed job (R47). -/
def referenceDerived (f : Frame) (wasReference : Bool) (s : State) : State :=
  let isReference := s.re.reference == some s.me
  if f.isJoin && isReference && f.sender != s.me then s.withTq s.tq.arm
  else if wasReference && !isReference then s.withTq s.tq.roleLost
  else s

/-- CLAIMS REFUSED counted for an own CLAIM refused (R34). -/
def countRefusal (own : Bool) (x : Effects) (s : State) : State :=
  if own && x.outcome == some .refused then countUp .claimsRefused s else s

/-- Steps 4 to 8 of R27 on a frame that the foreign-table test did not catch. -/
def applyFully (own : Bool) (f : Frame) (s : State) : State :=
  let s := if own then s else checkFrame f s
  let before := s.re
  let x := effectsOf before f
  let s := countUp .framesApplied (s.withRe x.replica.advance)
  let s := countRefusal own x s
  let s := referenceDerived f (before.reference == some s.me) s
  let s := takeBatch (batchOf s.me own f before x) s
  membershipReports s.me before x s

/-- The application of an accepted frame that is no twin (R26, R27, R48, R49): an INVALID replica takes nothing; a frame
caught by the foreign-table test makes the station abandon its replica when its count is equal or greater, and is a
no-op with the count increment when it is less. -/
def applyFrame (own : Bool) (f : Frame) (s : State) : State :=
  if s.re.valid then
    if !own && caughtForeign s.re f then
      if s.re.count.toNat ≤ f.count.toNat then foreignReport s
      else countUp .framesApplied (s.withRe s.re.advance)
    else applyFully own f s
  else s

end Sys2Proof.Machine
end

