-- ==== Sys2Proof/Machine/Exchange.lean ====
section
/-! DEFINITION. The exchange interface (Chapter 5): the receiver, damage and reject, the result of a window, the acceptance and the drop of an own frame, and the streaks. -/

namespace Sys2Proof.Machine

/-! ### Receiving (R104, R105, R110) -/

/-- Whether this station's own attempt has its bytes on the pair (R103). -/
def ExchangeInterface.sending (x : ExchangeInterface) : Bool := x.attempt.map Attempt.phase == some .sending

/-- A start mark of another station's frame seen with the receiver on (R104): the frame is taken. While this station's
own bytes are on the pair it takes no other frame (R104, R121), log entry 9. The spec gives no start mark while the window
of another frame is open; the model then lets the new frame take that one's place, and a reject end, log entry 28. -/
def startMark (s : State) : State :=
  if s.sc.state.receiverOn && !s.xi.sending then s.withXi { s.xi with rx := .taking } else s

/-- A reject signalled (R105, R110): REJECTS SIGNALLED and the reject streak advance, and the streak reaching its limit
returns to 0 and is reported. -/
def signalReject (s : State) : State :=
  let s := countUp .rejectsSignalled (s.withXi { s.xi with rx := .damaged })
  if s.xi.rejectStreak + 1 < Config.rejectLimit then
    s.withXi { s.xi with rejectStreak := s.xi.rejectStreak + 1 }
  else isolate .rejectLimit (s.withXi { s.xi with rejectStreak := 0 })

/-- The closing mark of the frame being taken (R104): received whole, or damaged and then rejected. -/
def closingMark (bytes : List Byte) (s : State) : State :=
  match s.xi.rx with
  | .taking =>
    match decodeFrame bytes with
    | some f => s.withXi { s.xi with rx := .whole f }
    | none => signalReject s
  | .none | .whole _ | .damaged => s

/-- The pair found idle with no closing mark (R105): the bytes received are discarded, and nothing is counted. -/
def truncation (s : State) : State :=
  match s.xi.rx with
  | .taking => s.withXi { s.xi with rx := .none }
  | .none | .whole _ | .damaged => s

/-! ### The window of another station's frame (R106, R113) -/

/-- Whether a frame of another station bears this station's number (R113): this station did not send it. -/
def State.isTwin (s : State) (f : Frame) : Bool := s.xi.number == some f.sender

/-- An accepted frame of another station handed over (R106): first to the replica engine, which takes no effect from a
twin frame (R28), then to the station controller. -/
def handOver (f : Frame) (s : State) : State :=
  if s.isTwin f then twinReport s else otherFrameAccepted f (applyFrame false f s)

/-- The window of a frame received whole closes (R106, R110): the reject streak returns to 0, HEARD is reported, and in
a clean window the frame is accepted. -/
def wholeWindow (f : Frame) (rejected : Bool) (s : State) : State :=
  let s := s.withXi { s.xi with rx := .none, rejectStreak := 0 }
  let s := heardReport f s
  if rejected then s else handOver f s

/-- The window of another station's frame closes (R106). The window of a frame found damaged here is rejected by this
station itself. -/
def windowCloses (rejected : Bool) (s : State) : State :=
  match s.xi.rx with
  | .whole f => wholeWindow f rejected s
  | .damaged => s.withXi { s.xi with rx := .none }
  | .none | .taking => s

/-! ### The window of an own attempt (R107 to R112) -/

/-- The notice FRAME_DROPPED of a frame (R109): its kind code and its argument. -/
def droppedNotice : Sent → Notice
  | .entry (.claim r _ _ _) => .frameDropped 1 (byte r.val)
  | .entry (.drop r) => .frameDropped 2 (byte r.val)
  | .entry .presence => .frameDropped 3 0
  | .entry (.expel t _) => .frameDropped 4 (byte t.val)
  | .entry .join => .frameDropped 5 0
  | .entry .leave => .frameDropped 6 0
  | .part k => .frameDropped 7 (byte k.val)

/-- The pinned flag after the outcome of a frame (R129): clear unless the run still goes on. -/
def runEnded (s : State) : State :=
  match s.tq.job with
  | .running _ _ => s
  | .clear => s.withTc { s.tc with pinned := false }
  | .armed => s.withTc { s.tc with pinned := false }

/-- An own frame accepted (R108, R112): the queue takes its report unless the entry was discarded, the frame is applied
and taken by the station controller, the drop streak returns to 0 and OWN FRAMES APPLIED counts it, and the tenure
controller takes the report. -/
def ownAccepted (a : Attempt) (s : State) : State :=
  let s := if a.discarded then s else runEnded (s.withTq (s.tq.accepted a.sent))
  let s := ownFrameAccepted a.frame (applyFrame true a.frame s)
  let s := countUp .ownFramesApplied (s.withXi { s.xi with dropStreak := 0 })
  attemptReport false s

/-- The drop of a CLAIM or DROP reported to the binding unit (R109 step 2). -/
def reportDropped (what : Sent) (s : State) : State :=
  match what with
  | .entry (.claim r _ _ _) => claimDropped r s
  | .entry (.drop r) => dropDropped r s
  | .entry (.expel _ _) => s
  | .entry .join => s
  | .entry .leave => leaveEnds .leaveDropped s
  | .entry .presence => s
  | .part _ => s

/-- The drop streak advanced (R111): reaching its limit it returns to 0 and isolates the station. -/
def advanceDropStreak (s : State) : State :=
  if s.xi.dropStreak + 1 < Config.dropLimit then s.withXi { s.xi with dropStreak := s.xi.dropStreak + 1 }
  else isolate .dropLimit (s.withXi { s.xi with dropStreak := 0 })

/-- An own frame dropped (R109): reported to the queue, to the binding unit or the station controller, counted and
posted, the drop streak advanced, and the frame reported complete. The holding decision on that report knows whether the
drop has abandoned and re-armed a run (R95, R129). -/
def ownDropped (a : Attempt) (s : State) : State :=
  let q := s.tq.dropped a.sent
  let rearmed := q.rearmedFrom s.tq
  let s := runEnded (s.withTq q)
  let s := reportDropped a.sent s
  let s := postNotice (droppedNotice a.sent) (countUp .framesDropped s)
  attemptReport rearmed (advanceDropStreak s)

/-- The window of an own attempt closes (R107, R112): accepted when clean; when rejected, complete without a further
attempt where its entry was discarded, failed while attempts are left, and dropped after the last. An attempt whose
window outlived the tenure is reported to no block. -/
def ownWindowCloses (rejected : Bool) (s : State) : State :=
  match s.xi.attempt with
  | none => s
  | some a =>
    match a.phase with
    | .sending => s
    | .window =>
      let s := s.withXi { s.xi with attempt := none }
      if a.unreported then s
      else if !rejected then ownAccepted a s
      else if a.discarded then attemptReport false s
      else if s.tq.attemptsInFlight < Config.maxAttempts then attemptReport false s
      else ownDropped a s

/-- The closing mark of an own attempt sent (R103): its window begins. -/
def closingMarkSent (s : State) : State :=
  s.withXi
    { s.xi with
      attempt := s.xi.attempt.map fun a => match a.phase with
        | .sending => { a with phase := .window }
        | .window => a }

end Sys2Proof.Machine
end

