-- ==== Sys2Proof/Machine/Loader.lean ====
section
/-! DEFINITION. The configuration loader (Chapter 9): the image's fields, the seven checks, the freeze, configuration faults, and the reads of the memory. -/

namespace Sys2Proof.Machine

/-! ### The image (R176) -/

/-- Byte A of binding n: enabled and resource (R176). -/
def byteA (img : Vector Byte 30) (n : BindingNo) : Byte := img[4 + 2 * n.val]

/-- Byte B of binding n: mode, class, yieldable and trigger (R176). -/
def byteB (img : Vector Byte 30) (n : BindingNo) : Byte := img[5 + 2 * n.val]

/-- The configured fields of binding n (R52, R176); bit 6 of byte A is not examined. -/
def bindingOf (img : Vector Byte 30) (n : BindingNo) : BindingConfig :=
  let a := byteA img n
  let b := byteB img n
  { enabled := a.getLsbD 7
    resource := ⟨a.toNat % 64, Nat.mod_lt _ (by decide)⟩
    mode := if b.getLsbD 0 then .exclusive else .shared
    cls := if b.getLsbD 1 then .urgent else .ordinary
    yieldable := b.getLsbD 2
    trigger := if b.getLsbD 3 then .latched else .level }

/-- The twelve binding records of an image (R176). -/
def bindingsOf (img : Vector Byte 30) : Vector BindingConfig 12 := tableOf 12 (bindingOf img)

/-! ### Validation (R180) -/

/-- The result of validation: valid, refused by one of checks 1 to 6 with the binding at fault where the check has one,
or refused by the image check. -/
inductive Verdict where
  | valid
  | invalid (check : Nat) (binding : Option BindingNo)
  | badCheck
  deriving DecidableEq, Repr

/-- The lowest-numbered binding with a reserved bit of byte B set (R180 check 5). -/
def reservedFault (img : Vector Byte 30) : Option BindingNo :=
  allBindings.find? fun n => decide (16 ≤ (byteB img n).toNat)

/-- Whether two bindings agree in mode, class and yieldable flag (R180 check 6); trigger is not compared. -/
def BindingConfig.agrees (a b : BindingConfig) : Bool :=
  a.mode == b.mode && a.cls == b.cls && a.yieldable == b.yieldable

/-- Whether binding n differs from the lowest-numbered enabled binding on its resource (R180 check 6). -/
def disagrees (bs : Vector BindingConfig 12) (n : BindingNo) : Bool :=
  bs[n].enabled &&
    match enabledOn bs bs[n].resource with
    | [] => false
    | m :: _ => !bs[m].agrees bs[n]

/-- The first binding found to differ, in ascending order (R180 check 6). -/
def agreementFault (bs : Vector BindingConfig 12) : Option BindingNo := allBindings.find? (disagrees bs)

/-- The seven checks in their order; the first that fails decides (R180). -/
def validate (img : Vector Byte 30) : Verdict :=
  if 7 < img[0].toNat then .invalid 1 none
  else if img[1].toNat < 3 ∨ 15 < img[1].toNat then .invalid 2 none
  else if img[2].toNat = 0 ∨ 8 < img[2].toNat then .invalid 3 none
  else if 1 < img[3].toNat then .invalid 4 none
  else
    match reservedFault img with
    | some n => .invalid 5 (some n)
    | none =>
      match agreementFault (bindingsOf img) with
      | some n => .invalid 6 (some n)
      | none => if checkOf (img.toList.take 28) = half img[28] img[29] then .valid else .badCheck

/-! ### The freeze and the faults (R181, R182) -/

/-- The station controller's frozen values (R181). -/
def paramsOf (img : Vector Byte 30) : StationParams :=
  { periodMs := Config.presencePeriodMs img[0].toNat
    limit := img[1].toNat
    autoRejoin := img[3].getLsbD 0 }

/-- A valid image frozen (R181): the loader is FROZEN, each value goes to its block, and the station enters LISTENING. -/
def freeze (img : Vector Byte 30) (s : State) : State :=
  let s := s.withCl { s.cl with state := .frozen }
  let s := s.withSc { s.sc with params := some (paramsOf img) }
  let s := s.withTc { s.tc with q := some img[2].toNat }
  let s := s.withBu (s.bu.freeze (bindingsOf img))
  enterState .listening .configured s

/-- A configuration fault (R182): the loader returns to EMPTY, with no image held and the detail kept, and the station
enters FAULT with the reason, which the station controller alone holds, log entry 31. How the last failed read of the
memory ended stays as it was (R178). The binding unit is not touched: it keeps the line levels that the filter has taken
since the release of RESET (R54), although R53 says that a refused configuration leaves it in its reset form, log entry 13. -/
def configurationFault (reason : FaultReason) (cause : Cause) (detail : FaultDetail) (s : State) : State :=
  enterFault reason cause
    (s.withCl { ConfigLoader.reset with detail := detail, failedAt := s.cl.failedAt })

/-- An image validated (R180 to R182): frozen, or refused with the fault found. -/
def takeImage (img : Vector Byte 30) (s : State) : State :=
  match validate img with
  | .valid => freeze img s
  | .invalid check binding => configurationFault .configInvalid .configInvalid { check := check, binding := binding } s
  | .badCheck => configurationFault .imageCheck .imageCheck FaultDetail.none s

/-! ### The configuration memory (R178) -/

/-- A read that answered: its bytes are validated (R178). Outside READING no read is in progress. -/
def memoryAnswered (img : Vector Byte 30) (s : State) : State :=
  match s.cl.state with
  | .reading => takeImage img s
  | .empty | .staging | .frozen => s

/-- The read in progress ended with a stop condition at its point of failure (R178), which is a free value, log
entry 30. -/
def endFailedRead (s : State) : State :=
  (s.withCl
    { s.cl with
      failedReads := s.cl.failedReads + 1
      failedAt := some (Config.memoryFailure s.unanswered) }).withUnanswered (s.unanswered + 1)

/-- A read that did not answer (R178): it ends at its point of failure, and a new read begins, or after the third the
station enters FAULT MEMORY_ABSENT. -/
def memoryNotAnswered (s : State) : State :=
  match s.cl.state with
  | .reading =>
    let s := endFailedRead s
    if s.cl.failedReads < Config.memoryReads then s
    else configurationFault .memoryAbsent .memoryAbsent FaultDetail.none s
  | .empty | .staging | .frozen => s

/-! ### Release of RESET (R136, R175, R177) -/

/-- RESET released (R136, R175, R177): the station number is read, and with CFGSRC high the station enters CONFIG and the
loader STAGING, with CFGSRC low LOADING and READING. -/
def releaseReset (sid : Station) (cfgsrc : Bool) (s : State) : State :=
  match s.sc.state with
  | .reset =>
    let s := s.withXi { s.xi with number := some sid }
    if cfgsrc then enterState .config .resetReleased (s.withCl { s.cl with state := .staging })
    else enterState .loading .resetReleased (s.withCl { s.cl with state := .reading })
  | .loading | .config | .fault | .listening | .joinPending | .awaitSnapshot | .confirming | .active | .leaving | .isolated
  | .detached => s

end Sys2Proof.Machine
end

