-- ==== Sys2Proof/Machine/Operands.lean ====
section
/-! DEFINITION. The operands and answers of the management commands: command codes, range checks, status codes, the codes of states and notices, and the response layouts (R185 to R192). -/

namespace Sys2Proof.Machine

/-! ### Codes (R185) -/

/-- The status of a command (R185, R186). -/
inductive Status where
  | ok
  | wrongState
  | badArgument
  | noTable
  | empty
  deriving DecidableEq, Repr

def Status.code : Status → Byte
  | .ok => 0
  | .wrongState => 1
  | .badArgument => 2
  | .noTable => 3
  | .empty => 4

/-- The station state codes (R185); the table gives RESET none, since no command is taken there, and the model writes 0
in its place, log entry 17. -/
def StationState.code : StationState → Byte
  | .reset => 0
  | .loading => 1
  | .config => 2
  | .fault => 3
  | .listening => 4
  | .joinPending => 5
  | .awaitSnapshot => 6
  | .confirming => 7
  | .active => 8
  | .leaving => 9
  | .isolated => 10
  | .detached => 11

def TenureState.code : TenureState → Byte
  | .offline => 0
  | .idle => 1
  | .contending => 2
  | .deferred => 3
  | .holding => 4
  | .parked => 5
  | .served => 6

def FaultReason.code : FaultReason → Byte
  | .none => 0
  | .configInvalid => 1
  | .imageCheck => 2
  | .memoryAbsent => 3
  | .twin => 4

def ClaimState.code : ClaimState → Byte
  | .none => 0
  | .queued => 1
  | .sending => 2
  | .waiting => 3
  | .held => 4
  | .dropping => 5
  | .refused => 6

def LossReason.code : LossReason → Byte
  | .expelled => 1
  | .isolated => 2
  | .twin => 3
  | .foreign => 4
  | .left => 5

def Cause.code : Cause → Byte
  | .resetReleased => 1
  | .configured => 2
  | .expelledSilent => 3
  | .expelledDisagree => 4
  | .foreign => 5
  | .noTableHeard => 6
  | .holdOffEnded => 7
  | .rejoin => 8
  | .listenEnded => 9
  | .deadline => 10
  | .notJoining => 11
  | .joinApplied => 12
  | .snapshotLoaded => 13
  | .founded => 14
  | .confirmed => 15
  | .leaveCommand => 16
  | .rejectLimit => 17
  | .dropLimit => 18
  | .left => 19
  | .leaveDropped => 20
  | .configInvalid => 21
  | .imageCheck => 22
  | .memoryAbsent => 23
  | .twin => 24

/-- The high bits of a binding set: bits 3-0 for bindings 11 to 8 (R192). -/
def setHigh (set : BitVec 12) : Byte := byte (set.toNat / 256)

/-- The low bits of a binding set: bits 7-0 for bindings 7 to 0 (R192). -/
def setLow (set : BitVec 12) : Byte := byte (set.toNat % 256)

/-- A notice as a response carries it: its kind and four argument bytes (R185, R192). -/
def Notice.bytes : Notice → List Byte
  | .holdLost set r why => [1, setHigh set, setLow set, byte r.val, why.code]
  | .claimRefused r => [2, byte r.val, 0, 0, 0]
  | .yieldAsked r => [3, byte r.val, 0, 0, 0]
  | .frameDropped kind arg => [4, kind, arg, 0, 0]
  | .stateChanged st cause => [5, st.code, cause.code, 0, 0]
  | .expelSent t why => [6, byte t.val, byte why.code, 0, 0]

/-! ### Range checks (R186) -/

/-- The resource an argument byte names, unless it is above 63. -/
def resourceArg (r : Byte) : Option Resource := if h : r.toNat < 64 then some ⟨r.toNat, h⟩ else none

/-- The binding an argument byte names, unless it is above 11. -/
def bindingArg (b : Byte) : Option BindingNo := if h : b.toNat < 12 then some ⟨b.toNat, h⟩ else none

/-- Whether a run of n bytes from an offset stays inside the image (R179, R186). -/
def runInImage (offset number : Byte) : Bool :=
  decide (offset.toNat ≤ 29) && decide (offset.toNat + number.toNat ≤ 30)

/-! ### Response bytes -/

/-- A counter, reference or binding that may be absent, shown as 255 where it is (R188). -/
def orNone (n : Option Nat) : Byte := byte (n.getD 255)

/-- The ten bytes of READ STATUS (R185, R188). -/
def State.statusBytes (s : State) : List Byte :=
  [byte s.me.val, s.sc.state.code, if s.sc.state = .fault then s.sc.fault.code else 0, byte s.cl.detail.check,
    orNone (s.cl.detail.binding.map (·.val)), s.tc.state.code] ++
    halfBytes (if s.re.valid then s.re.count else 0) ++
    [orNone (s.re.reference.map (·.val)), byte s.mp.notices.length]

/-- The bytes of READ RESOURCE: the record in its snapshot encoding, then its yield demand (R189). -/
def Record.readBytes (r : Record) : List Byte := r.toWire.bytes ++ [byte (bit r.yieldDemand)]

/-- The sixteen bytes of READ COUNTERS, in the order of R195. -/
def Counters.bytes (c : Counters) : List Byte :=
  [c.ownFramesApplied, c.framesDropped, c.rejectsSignalled, c.framesApplied, c.countMismatch, c.claimsRefused,
    c.noticesLost, c.expelsQueued].flatMap halfBytes

/-- Byte A of a binding as READ BINDING gives it: bit 7 enabled, bit 6 clear, bits 5-0 resource (R190). -/
def BindingConfig.byteA (c : BindingConfig) : Byte := byte (128 * bit c.enabled + c.resource.val)

/-- Byte B of a binding (R176, R190). -/
def BindingConfig.byteB (c : BindingConfig) : Byte :=
  byte (claimBits c.mode c.cls c.yieldable + 8 * bit (c.trigger == .latched))

/-- The local claim that READ BINDING shows (R83): that of an enabled binding's resource. -/
def BindingUnit.shownClaim (b : BindingUnit) (c : BindingConfig) : Option LocalClaim :=
  if c.enabled then b.claimFor c.resource else none

/-- The line byte of READ BINDING (R190). -/
def State.lineByte (s : State) (n : BindingNo) (c : BindingConfig) : Byte :=
  byte
    (bit s.bu.lines[n] + 2 * bit (s.bu.request n) + 4 * bit s.bu.latches[n] + 8 * bit s.pins.gnt[n] +
      16 * bit s.pins.yld[n] + 32 * bit (((s.bu.shownClaim c).map s.bu.demand).getD false))

/-- The local claim's state and flag bytes of READ BINDING (R190); NONE and clear where none is shown (R83). -/
def claimBytes : Option LocalClaim → List Byte
  | none => [ClaimState.none.code, 0]
  | some l => [l.state.code, byte (bit l.cancel + 2 * bit l.reclaim + 4 * bit l.yieldSeen)]

/-- The five bytes of READ BINDING (R83, R190). -/
def State.bindingBytes (s : State) (n : BindingNo) (c : BindingConfig) : List Byte :=
  [c.byteA, c.byteB, s.lineByte n c] ++ claimBytes (s.bu.shownClaim c)

/-- Bytes written into the staging image from an offset on (R179). -/
def writeRun (img : Vector Byte 30) (offset : Nat) : List Byte → Vector Byte 30
  | [] => img
  | b :: bs => writeRun (img.setIfInBounds offset b) (offset + 1) bs

/-! ### The byte on MSO (R184, R185) -/

/-- What MSO carries in byte i of a transaction, counted from 0 at the command byte (R184): 0 through the bytes received
up to the taking of the command, then the response, status first, and 0 after its end. -/
def Transaction.msoByte (t : Transaction) (i : Nat) : Byte :=
  if i < t.received.length then 0 else (t.response.getD []).getD (i - t.received.length) 0

/-- The byte that MSO is driven with in byte i of the transaction; none where MSO is undriven (R184). -/
def ManagementPort.msoByte (p : ManagementPort) (i : Nat) : Option Byte :=
  if p.msoDriven then p.transaction.map (·.msoByte i) else none

/-! ### A command taken (R184, R186) -/

/-- A command's answer: its status and the bytes that follow an OK status. -/
structure Answer where
  status : Status
  bytes : List Byte
  deriving DecidableEq, Repr

/-- A status alone. -/
def Answer.only (st : Status) : Answer := { status := st, bytes := [] }

/-- OK with the bytes that follow. -/
def Answer.ok (bs : List Byte) : Answer := { status := .ok, bytes := bs }

/-- The response bytes of an answer, status first (R184). -/
def Answer.response (a : Answer) : List Byte := a.status.code :: a.bytes

/-- Whether the port can take a command now (R184): a transaction is in progress and has carried no byte yet, since one
transaction carries one command. -/
def ManagementPort.ready (p : ManagementPort) : Bool :=
  match p.transaction with
  | none => false
  | some t => t.received.isEmpty

/-- A command taken with its bytes and its answer settled (R184). -/
def settleAnswer (received : List Byte) (a : Answer) (s : State) : State :=
  s.withMp { s.mp with transaction := some { received := received, response := some a.response } }

/-- A read: it is answered from the state and changes nothing else (R187). -/
def takeRead (received : List Byte) (a : State → Answer) (s : State) : State :=
  if s.mp.ready then settleAnswer received (a s) s else s

/-- A command that may change the station (R191): the answer is settled with the command's own event. -/
def takeCommand (received : List Byte) (run : State → State × Answer) (s : State) : State :=
  if s.mp.ready then
    let r := run s
    settleAnswer received r.2 r.1
  else s

end Sys2Proof.Machine
end

