-- ==== Sys2Proof/Machine/Events.lean ====
section
/-! DEFINITION. How a command becomes a step: the outcome of an event, of a line driven by other stations, of a read and of a management command. Every command of the table completes. -/

namespace Sys2Proof.Machine

/-- The outcome type of exec and step. -/
abbrev Result := Host.Outcome State Fault Refusal

/-- An event taken by the powered station, then the end of the event (log entry 1). Without supply the station takes
nothing (R115). -/
def event (f : State → State) (s : State) : Result := .next (settle (if s.powered then f s else s))

/-- A change of XTEN or XWANT made by other stations: the line changes whether or not this station watches it (R115). -/
def lineEvent (f : State → State) (s : State) : Result := .next (settle (f s))

/-- A management read (R187): the response is settled and nothing else changes. -/
def readEvent (received : List Byte) (a : State → Answer) (s : State) : Result := .next (takeRead received a s)

/-- A management command that may change the station (R191), then the end of its event. -/
def commandEvent (received : List Byte) (run : State → State × Answer) (s : State) : Result :=
  if s.mp.ready then .next (settle (takeCommand received run s)) else .next s

end Sys2Proof.Machine
end

