-- ==== Sys2Proof/Machine/FrameCommands.lean ====
section
/-! DEFINITION. The commands of the data pair: the marks, truncation, and the windows of other stations' frames and of own attempts. -/

namespace Sys2Proof.Machine

/-- START_MARK_SEEN (R104). -/
def execStartMarkSeen (s : State) : Result := event startMark s

/-- CLOSING_MARK_SEEN (R104, R105, R110). -/
def execClosingMarkSeen (bytes : List Byte) (s : State) : Result := event (closingMark bytes) s

/-- TRUNCATION_SEEN (R105). -/
def execTruncationSeen (s : State) : Result := event truncation s

/-- WINDOW_CLOSE (R106, R113). -/
def execWindowClose (rejected : Bool) (s : State) : Result := event (windowCloses rejected) s

/-- CLOSING_MARK_SENT (R103). -/
def execClosingMarkSent (s : State) : Result := event closingMarkSent s

/-- OWN_WINDOW_CLOSE (R107 to R112). -/
def execOwnWindowClose (rejected : Bool) (s : State) : Result := event (ownWindowCloses rejected) s

end Sys2Proof.Machine
end

