-- ==== Sys2Proof/Machine/LineCommands.lean ====
section
/-! DEFINITION. The commands of the claim lines: RISE and FALL. -/

namespace Sys2Proof.Machine

/-- RISE (R54, R55): taken from the release of RESET on, on a line whose level is low. -/
def execRise (n : BindingNo) (s : State) : Result :=
  event (fun s => if s.sc.state = .reset ∨ s.bu.lines[n] = true then s else lineRise n s) s

/-- FALL (R54, R55): taken from the release of RESET on, on a line whose level is high. -/
def execFall (n : BindingNo) (s : State) : Result :=
  event (fun s => if s.sc.state = .reset ∨ s.bu.lines[n] = false then s else lineFall n s) s

end Sys2Proof.Machine
end

