-- ==== Sys2Proof/Machine/MemoryCommands.lean ====
section
/-! DEFINITION. The commands of the configuration memory. -/

namespace Sys2Proof.Machine

/-- MEMORY_READ_ANSWERED (R178, R180 to R182). -/
def execMemoryReadAnswered (image : Vector Byte 30) (s : State) : Result := event (memoryAnswered image) s

/-- MEMORY_READ_NOT_ANSWERED (R178, R182). -/
def execMemoryReadNotAnswered (s : State) : Result := event memoryNotAnswered s

end Sys2Proof.Machine
end

