-- ==== Sys2Proof/Machine/PortCommands.lean ====
section
/-! DEFINITION. The management commands that change something: CLEAR COUNTERS, POP NOTICE and its completion, WRITE CONFIG, START, LEAVE, REJOIN, RELEASE LATCH, and the answer to an unknown command. -/

namespace Sys2Proof.Machine

/-- CLEAR COUNTERS (R195): always OK. -/
def execClearCounters (s : State) : Result :=
  commandEvent [6] (fun s => (s.withMp { s.mp with counters := Counters.zero }, Answer.ok [])) s

/-- POP NOTICE (R193): EMPTY, or the oldest notice as the pending pop; it stays at the head of the queue. -/
def execPopNotice (s : State) : Result :=
  commandEvent [7] (fun s =>
    match s.mp.notices with
    | [] => (s, Answer.only .empty)
    | n :: _ => (s.withMp { s.mp with pendingPop := some n }, Answer.ok n.bytes)) s

/-- The notice of a pending pop removed (R193, R194): ATTN falls when it was the last. -/
def ManagementPort.completePop (p : ManagementPort) : ManagementPort :=
  match p.pendingPop with
  | none => p
  | some _ => { p with pendingPop := none, notices := p.notices.tail, attn := !p.notices.tail.isEmpty }

/-- POP_COMPLETE (R193): the last of the five response bytes of a pending pop has been clocked out. -/
def execPopComplete (s : State) : Result := .next (s.withMp s.mp.completePop)

/-- The bytes of a WRITE CONFIG taken by the loader (R179, R186): the range is checked first. -/
def writeStaging (offset number : Byte) (data : List Byte) (s : State) : State × Answer :=
  if number.toNat ≤ 30 ∧ runInImage offset number = true then
    if s.sc.state = .config then
      (s.withCl { s.cl with staging := writeRun s.cl.staging offset.toNat (data.take number.toNat) }, Answer.ok [])
    else (s, Answer.only .wrongState)
  else (s, Answer.only .badArgument)

/-- WRITE CONFIG (R179, R185): taken after as many data bytes as its number byte calls for, or at the number byte when
that is above 30. With fewer data bytes it is not taken yet, and the bytes are those received so far (R184). -/
def execWriteConfig (offset number : Byte) (data : List Byte) (s : State) : Result :=
  if data.length < writeConfigDataBytes number then
    .next
      (if s.mp.ready then
        s.withMp { s.mp with transaction := some { received := [16, offset, number] ++ data, response := none } }
      else s)
  else
    commandEvent ([16, offset, number] ++ data.take (writeConfigDataBytes number)) (writeStaging offset number data) s

/-- START (R179, R180 to R182): in CONFIG the staging image is validated, and the command is answered OK. -/
def execStart (s : State) : Result :=
  commandEvent [17] (fun s =>
    if s.sc.state = .config then (takeImage s.cl.staging s, Answer.ok []) else (s, Answer.only .wrongState)) s

/-- LEAVE (R157): in CONFIRMING or ACTIVE the teardown runs and LEAVING is entered. -/
def execLeave (s : State) : Result :=
  commandEvent [18] (fun s =>
    if s.sc.state.inTable then (leaveTable s, Answer.ok []) else (s, Answer.only .wrongState)) s

/-- REJOIN (R159): a DETACHED station enters LISTENING. -/
def execRejoin (s : State) : Result :=
  commandEvent [19] (fun s =>
    if s.sc.state = .detached then (enterState .listening .rejoin s, Answer.ok [])
    else (s, Answer.only .wrongState)) s

/-- RELEASE LATCH (R56, R186): the range of b is checked first; the latch of an enabled LATCHED binding is cleared. -/
def execReleaseLatch (b : Byte) (s : State) : Result :=
  commandEvent [20, b] (fun s =>
    match bindingArg b with
    | none => (s, Answer.only .badArgument)
    | some n =>
      if s.bu.bindings.isNone then (s, Answer.only .wrongState)
      else if s.bu.isLatched n then (clearLatch n s, Answer.ok [])
      else (s, Answer.only .badArgument)) s

/-- UNKNOWN_COMMAND (R185): an unrecognised command code is taken at the command byte and answered BAD_ARGUMENT. A code
that the port recognises makes no such event, log entry 4. -/
def execUnknownCommand (code : Byte) (s : State) : Result :=
  if recognisedCodes.contains code then .next s
  else readEvent [code] (fun _ => Answer.only .badArgument) s

end Sys2Proof.Machine
end

