-- ==== Sys2Proof/Machine/PortReads.lean ====
section
/-! DEFINITION. The transaction's own events and the management commands that read: READ STATUS, READ MEMBERS, READ RESOURCE, READ BINDING, READ COUNTERS and READ CONFIG. -/

namespace Sys2Proof.Machine

/-- MCS_ASSERTED (R183, R184): a transaction begins, in every state after the release of RESET. -/
def execMcsAsserted (s : State) : Result :=
  .next
    (if s.powered && s.sc.state != .reset && s.mp.transaction.isNone then
      s.withMp { s.mp with transaction := some { received := [], response := none }, msoDriven := true }
    else s)

/-- MCS_RELEASED (R184, R193): the transaction ends; a command not yet taken is abandoned and a pending pop cleared. -/
def execMcsReleased (s : State) : Result :=
  .next (s.withMp { s.mp with transaction := none, pendingPop := none, msoDriven := false })

/-- READ STATUS (R188): always OK. -/
def execReadStatus (s : State) : Result := readEvent [1] (fun s => Answer.ok s.statusBytes) s

/-- READ MEMBERS (R25, R189). -/
def execReadMembers (s : State) : Result :=
  readEvent [2] (fun s => if s.re.valid then Answer.ok (memberBytes s.re.members) else Answer.only .noTable) s

/-- READ RESOURCE (R25, R186, R189): the range of r is checked first. -/
def execReadResource (r : Byte) (s : State) : Result :=
  readEvent [3, r] (fun s =>
    match resourceArg r with
    | none => Answer.only .badArgument
    | some k => if s.re.valid then Answer.ok s.re.records[k].readBytes else Answer.only .noTable) s

/-- READ BINDING (R83, R186, R190): the range of b is checked first. -/
def execReadBinding (b : Byte) (s : State) : Result :=
  readEvent [4, b] (fun s =>
    match bindingArg b with
    | none => Answer.only .badArgument
    | some n =>
      match s.bu.config n with
      | none => Answer.only .wrongState
      | some c => Answer.ok (s.bindingBytes n c)) s

/-- READ COUNTERS (R195): always OK. -/
def execReadCounters (s : State) : Result := readEvent [5] (fun s => Answer.ok s.mp.counters.bytes) s

/-- READ CONFIG (R186, R190): the range of the run is checked first. -/
def execReadConfig (offset number : Byte) (s : State) : Result :=
  readEvent [8, offset, number] (fun s =>
    if runInImage offset number then
      if s.sc.state = .config then
        Answer.ok ((s.cl.staging.toList.drop offset.toNat).take number.toNat)
      else Answer.only .wrongState
    else Answer.only .badArgument) s

end Sys2Proof.Machine
end

