-- ==== Sys2Proof/Machine/PowerCommands.lean ====
section
/-! DEFINITION. The commands of supply and reset: POWER_ON, POWER_LOST, RESET_ASSERTED, RESET_RELEASED. -/

namespace Sys2Proof.Machine

/-- POWER_ON (R136): every block takes its reset values, with RESET asserted. -/
def execPowerOn (s : State) : Result := .next { s.blocksReset with powered := true }

/-- POWER_LOST (R112, R115): an attempt on the wire is truncated and none of the four bus lines is driven. The rest of
the station is shown in its reset form, as POWER_ON will make it, log entry 7. -/
def execPowerLost (s : State) : Result := .next { s.blocksReset with powered := false }

/-- RESET_ASSERTED (R136): from any state, at once, every block takes its reset values, with no teardown and no
notice. -/
def execResetAsserted (s : State) : Result := .next (if s.powered then s.blocksReset else s)

/-- RESET_RELEASED (R136, R175): the straps are sampled, and LOADING or CONFIG is entered. -/
def execResetReleased (sid : Station) (cfgsrc : Bool) (s : State) : Result := event (releaseReset sid cfgsrc) s

end Sys2Proof.Machine
end

