-- ==== Sys2Proof/Machine/TenureCommands.lean ====
section
/-! DEFINITION. The commands of the lines XTEN and XWANT and of the contention. -/

namespace Sys2Proof.Machine

/-- XTEN_ASSERTED (R119, R123). -/
def execXtenAsserted (s : State) : Result := lineEvent xtenAsserted s

/-- CONTENTION_CLOSES (R119, R121, R122). -/
def execContentionCloses (lowestOther : Option Station) (s : State) : Result := lineEvent (contentionCloses lowestOther) s

/-- XTEN_RELEASED (R119, R123). -/
def execXtenReleased (s : State) : Result := lineEvent xtenReleased s

/-- BUS_QUIET_EXPIRED (R119). -/
def execBusQuietExpired (s : State) : Result := event busQuiet s

/-- XWANT_ASSERTED (R130). -/
def execXwantAsserted (s : State) : Result := lineEvent xwantAsserted s

/-- XWANT_RELEASED (R132). -/
def execXwantReleased (s : State) : Result := lineEvent xwantReleased s

end Sys2Proof.Machine
end

