-- ==== Sys2Proof/Machine/TimerCommands.lean ====
section
/-! DEFINITION. The commands of the station controller's timers. -/

namespace Sys2Proof.Machine

/-- LISTEN_TIMER_EXPIRED (R140). -/
def execListenTimerExpired (s : State) : Result := event listenEnds s

/-- SNAPSHOT_DEADLINE_EXPIRED (R146, R148). -/
def execSnapshotDeadlineExpired (s : State) : Result := event deadlineExpires s

/-- HOLD_OFF_EXPIRED (R156). -/
def execHoldOffExpired (s : State) : Result := event holdOffExpires s

/-- PERIOD_END (R163, R165, R169). -/
def execPeriodEnd (s : State) : Result := event periodEnds s

end Sys2Proof.Machine
end

