-- ==== Sys2Proof/Machine/Dispatch.lean ====
section
/-! DEFINITION. Which meaning each command of spec/opcode_table.json has. -/

namespace Sys2Proof.Machine

/-- The effect of a command on everything but the queue. -/
def exec (i : Instr) (s : State) : Host.Outcome State Fault Refusal :=
  match i with
  | .powerOn => Sys2Proof.Machine.execPowerOn s
  | .resetAsserted => Sys2Proof.Machine.execResetAsserted s
  | .resetReleased sid cfgsrc => Sys2Proof.Machine.execResetReleased sid cfgsrc s
  | .rise n => Sys2Proof.Machine.execRise n s
  | .fall n => Sys2Proof.Machine.execFall n s
  | .closingMarkSeen bytes => Sys2Proof.Machine.execClosingMarkSeen bytes s
  | .truncationSeen => Sys2Proof.Machine.execTruncationSeen s
  | .windowClose rejected => Sys2Proof.Machine.execWindowClose rejected s
  | .ownWindowClose rejected => Sys2Proof.Machine.execOwnWindowClose rejected s
  | .xtenAsserted => Sys2Proof.Machine.execXtenAsserted s
  | .contentionCloses lowestOther => Sys2Proof.Machine.execContentionCloses lowestOther s
  | .xtenReleased => Sys2Proof.Machine.execXtenReleased s
  | .busQuietExpired => Sys2Proof.Machine.execBusQuietExpired s
  | .xwantAsserted => Sys2Proof.Machine.execXwantAsserted s
  | .xwantReleased => Sys2Proof.Machine.execXwantReleased s
  | .listenTimerExpired => Sys2Proof.Machine.execListenTimerExpired s
  | .snapshotDeadlineExpired => Sys2Proof.Machine.execSnapshotDeadlineExpired s
  | .holdOffExpired => Sys2Proof.Machine.execHoldOffExpired s
  | .periodEnd => Sys2Proof.Machine.execPeriodEnd s
  | .memoryReadAnswered image => Sys2Proof.Machine.execMemoryReadAnswered image s
  | .memoryReadNotAnswered => Sys2Proof.Machine.execMemoryReadNotAnswered s
  | .readStatus => Sys2Proof.Machine.execReadStatus s
  | .readMembers => Sys2Proof.Machine.execReadMembers s
  | .readResource r => Sys2Proof.Machine.execReadResource r s
  | .readBinding b => Sys2Proof.Machine.execReadBinding b s
  | .readCounters => Sys2Proof.Machine.execReadCounters s
  | .clearCounters => Sys2Proof.Machine.execClearCounters s
  | .popNotice => Sys2Proof.Machine.execPopNotice s
  | .popComplete => Sys2Proof.Machine.execPopComplete s
  | .readConfig offset number => Sys2Proof.Machine.execReadConfig offset number s
  | .writeConfig offset number data => Sys2Proof.Machine.execWriteConfig offset number data s
  | .start => Sys2Proof.Machine.execStart s
  | .leave => Sys2Proof.Machine.execLeave s
  | .rejoin => Sys2Proof.Machine.execRejoin s
  | .releaseLatch b => Sys2Proof.Machine.execReleaseLatch b s
  | .unknownCommand code => Sys2Proof.Machine.execUnknownCommand code s
  | .mcsReleased => Sys2Proof.Machine.execMcsReleased s
  | .powerLost => Sys2Proof.Machine.execPowerLost s
  | .startMarkSeen => Sys2Proof.Machine.execStartMarkSeen s
  | .closingMarkSent => Sys2Proof.Machine.execClosingMarkSent s
  | .mcsAsserted => Sys2Proof.Machine.execMcsAsserted s

end Sys2Proof.Machine
end

