-- ==== Sys2Proof/Safety.lean ====
section
/-! DEFINITION. What is claimed of the CX16 at the end of every event: the settled outputs, the laws of the management port, of the claim table, of the station's parts, and of the drive of the bus. -/

namespace Sys2Proof.Safety


open Sys2Proof.Machine

/-! ### The end of an event -/

/-- The state as an event leaves it: the tenure controller has been told the present has-work (R87), and the output pins
are those that the blocks' states call for (R76, R77, R133). -/
abbrev Settled (s : State) : Prop := s.tc.hasWork = s.tq.hasWork ∧ s.pins = s.drivenPins

/-! ### The management port (R183, R192 to R194) -/

/-- At most 32 notices; ATTN high exactly while one is held; a pending pop carries the oldest notice and belongs to a
transaction; MSO driven exactly during a transaction. -/
abbrev PortLawful (p : ManagementPort) : Prop :=
  p.notices.length ≤ Config.noticeCapacity ∧
  p.attn = !p.notices.isEmpty ∧
  (p.pendingPop = none ∨ p.pendingPop = p.notices.head?) ∧
  (p.pendingPop = none ∨ p.transaction.isSome = true) ∧
  p.msoDriven = p.transaction.isSome

/-! ### The claim table (laws L1 to L7 of Chapter 1) -/

/-- Stations in strictly rising order: the one form of a set of stations. -/
abbrev Ascending (ss : List Station) : Prop := ss.Pairwise (· < ·)

/-- The stations of a record, holders first. -/
def stationsOf (r : Record) : List Station :=
  r.holding.holders.map (·.station) ++ r.waits.map (·.entry.station)

/-- A record under laws L1, L2, L3, L6 and L7 and the class order of L5, in a table with the given member states: a SHARED record has a holder
and its holders are a set; no station stands twice; the head is incompatible with the state; URGENT entries come first;
yield demand is as derived; and every station in the record is an ACTIVE member. -/
abbrev RecordLawful (ms : Vector MemberState 16) (r : Record) : Prop :=
  r.holding ≠ .shared [] ∧
  Ascending (r.holding.holders.map (·.station)) ∧
  (stationsOf r).Nodup ∧
  (∀ w ∈ r.waits.head?, r.holding.compatible w.entry.mode = false) ∧
  classOrdered (r.waits.map (·.entry)) = true ∧
  r.yieldDemand = r.demandedYield ∧
  (∀ x ∈ stationsOf r, ms[x] = .active)

/-- The pool entry numbers that the wait lists hold, in resource order and list order. -/
def slotsOf (e : ReplicaEngine) : List Nat := e.records.toList.flatMap Record.slots

/-- Law L4 with its cause: each wait entry holds a pool entry of its own, and just those entries are in use. -/
abbrev PoolLawful (e : ReplicaEngine) : Prop :=
  (slotsOf e).Nodup ∧
  (∀ n ∈ slotsOf e, n < Config.poolSize) ∧
  (∀ i : Fin 96, e.pool[i] = (slotsOf e).contains i.val)

/-- A load image as far as it has been loaded (R23): eight lawful records for each part after part 0. -/
abbrev ImageLawful (i : LoadImage) : Prop :=
  1 ≤ i.nextPart ∧ i.nextPart ≤ 8 ∧
  i.records.length = 8 * (i.nextPart - 1) ∧
  (∀ w ∈ i.records, w.wellFormed = true ∧ w.lawful i.members = true) ∧
  waitTotal i.records ≤ Config.poolSize

/-- The replica and the load image under the laws of the table. An INVALID replica is in its empty form (R2, R24). -/
abbrev TableLawful (e : ReplicaEngine) : Prop :=
  (∀ r : Resource, RecordLawful e.members e.records[r]) ∧
  PoolLawful e ∧
  (e.valid = false →
    e.records = ReplicaEngine.empty.records ∧ e.pool = ReplicaEngine.empty.pool ∧
    e.members = ReplicaEngine.empty.members ∧ e.count = 0) ∧
  (∀ i ∈ e.load, ImageLawful i)

/-- The frames in the exchange interface are ones that the wire can carry (R98 to R100). -/
abbrev FramesLawful (x : ExchangeInterface) : Prop :=
  (∀ f ∈ x.rx.frame?, f.wellFormed = true) ∧ (∀ a ∈ x.attempt, a.frame.wellFormed = true)

/-! ### The station's parts (R1, R104, R117, R135, R163, R177) -/

/-- The parts that a station state turns on or off are as R135 has them, each timer runs in its own state alone, the
loader stands where the station state has it, a fault reason is held in FAULT alone, and the queue is empty where the
station keeps no frame to send. With the receiver off no frame is held. -/
abbrev PartsLawful (s : State) : Prop :=
  s.re.valid = s.sc.state.inTable ∧
  (s.tc.state = .offline ↔ s.sc.state.tenureOnline = false) ∧
  (s.sc.state.receiverOn = false → s.xi.rx = .none) ∧
  (s.sc.state.mayQueue = false → s.tq = TransmitQueue.empty) ∧
  s.sc.listenTimer = (s.sc.state == .listening) ∧
  (s.sc.deadline = .stopped ↔ s.sc.state ≠ .awaitSnapshot) ∧
  s.sc.holdOffTimer = (s.sc.state == .isolated) ∧
  s.sc.presenceTimer = s.sc.state.duty ∧
  (s.sc.tableHeard = true → s.sc.state = .awaitSnapshot) ∧
  (s.sc.satisfied = true → s.sc.state.duty = true) ∧
  (s.re.load.isSome = true → s.sc.state = .awaitSnapshot) ∧
  (s.sc.fault ≠ .none → s.sc.state = .fault) ∧
  (s.cl.state = .reading ↔ s.sc.state = .loading) ∧
  (s.cl.state = .staging ↔ s.sc.state = .config)

/-! ### The bus (law L12) -/

/-- Law L12 with its cause: an attempt's bytes are on the pair only in HOLDING, where XTEN is asserted. -/
abbrev SendsOnlyHolding (s : State) : Prop := s.xi.sending = true → s.tc.state = .holding

/-! ### Outputs to the board (law L8) -/

/-- Law L8: GNTn is asserted only while the station is ACTIVE, binding n is enabled with its request active, and the
replica shows the station as a holder of binding n's resource; YLDn only while GNTn is. -/
abbrev GrantsBacked (s : State) : Prop :=
  ∀ n : BindingNo,
    (s.pins.yld[n] = true → s.pins.gnt[n] = true) ∧
    (s.pins.gnt[n] = true →
      s.sc.state = .active ∧ s.re.valid = true ∧
      ∃ c ∈ s.bu.config n, c.enabled = true ∧ s.bu.request n = true ∧ s.re.records[c.resource].holds s.me = true)

/-! ### The local claims and the transmit queue (laws L10 and L9) -/

/-- What makes two entries of one queue the same: the resource of a CLAIM or DROP, the target of an EXPEL, a JOIN or
LEAVE, a PRESENCE. -/
inductive Key where
  | claimFamily (r : Resource)
  | expel (t : Station)
  | joinOrLeave
  | presence
  deriving DecidableEq, Repr

/-- The key of a queued frame. -/
def keyOf : Item → Key
  | .claim r _ _ _ => .claimFamily r
  | .drop r => .claimFamily r
  | .expel t _ => .expel t
  | .join => .joinOrLeave
  | .leave => .joinOrLeave
  | .presence => .presence

/-- The frames in flight: the entries IN FLIGHT, and the snapshot part in flight. -/
def inFlight (q : TransmitQueue) : List Sent :=
  ((q.entries.filter (·.inFlight)).map fun e => .entry e.item) ++
    match q.job with
    | .running k (some _) => [.part k]
    | .running _ none => []
    | .armed => []
    | .clear => []

/-- Law L10 (R57): at most one local claim per resource and at most 12 in all, each on a resource that an enabled
binding names. -/
abbrev ClaimsLawful (b : BindingUnit) : Prop :=
  (b.claims.map (·.resource)).Nodup ∧
  b.claims.length ≤ 12 ∧
  (∀ c ∈ b.claims, ∃ n : BindingNo, ∃ k ∈ b.config n, k.enabled = true ∧ k.resource = c.resource)

/-- Law L9 with its cause: no two entries have one key (R88, R91, R92), CLAIM and DROP entries are those of local claims,
there are at most 32 entries (R97), at most one entry or part is IN FLIGHT (R86), and an attempt whose entry was not
discarded is an attempt of the frame in flight. -/
abbrev QueueLawful (s : State) : Prop :=
  ClaimsLawful s.bu ∧
  (s.tq.entries.map fun e => keyOf e.item).Nodup ∧
  (∀ e ∈ s.tq.entries, ∀ r ∈ e.item.resource?, r ∈ s.bu.claims.map (·.resource)) ∧
  s.tq.entries.length ≤ Config.queueCapacity ∧
  (inFlight s.tq).length ≤ 1 ∧
  (∀ a ∈ s.xi.attempt, a.discarded = false → inFlight s.tq = [a.sent])

/-! ### What backs a hold (law L8, step by step) -/

/-- Whether a frame's body is what an attempt of an entry or part encodes, but for the values that are taken when the
attempt begins (R84, R102). -/
def encodes : Sent → Body → Bool
  | .entry (.claim r m c y), b => b == .claim r m c y
  | .entry (.drop r), b => b == .drop (byte r.val)
  | .entry (.expel t why), b => b == .expel t why
  | .entry .join, b => b == .join
  | .entry .leave, b => b == .leave
  | .entry .presence, b => b.kindCode == 3
  | .part _, b => b.kindCode == 7

/-- The station states from the own JOIN's acceptance to the loss of the table. -/
abbrev Joined (st : StationState) : Prop := st = .awaitSnapshot ∨ st = .confirming ∨ st = .active

/-- A local claim in HELD is backed by a hold in a valid replica. Its cause goes with it: the number is known once RESET
is released; an attempt is of the frame it says; an attempt whose entry was discarded, and a JOIN or LEAVE in the queue,
do not go on into a table; and no CLAIM or DROP stands in the queue for a local claim in WAITING or HELD. -/
abbrev ClaimsBacked (s : State) : Prop :=
  (s.xi.number = none → s.sc.state = .reset) ∧
  (∀ a ∈ s.xi.attempt,
    encodes a.sent a.frame.body = true ∧
      (a.discarded = true →
        inFlight s.tq = [] ∧ ¬ Joined s.sc.state ∧
          (a.unreported = true ∨ (a.sent ≠ .entry .join ∧ a.sent ≠ .entry .leave)))) ∧
  (Joined s.sc.state → ∀ e ∈ s.tq.entries, e.item.isJoinOrLeave = false) ∧
  (∀ c ∈ s.bu.claims, c.state = .waiting ∨ c.state = .held → s.tq.entryFor c.resource = none) ∧
  (∀ c ∈ s.bu.claims, c.state = .held → s.re.valid = true ∧ s.re.records[c.resource].holds s.me = true)

/-! ### Shared clauses of the claims -/

/-- What no event but those of supply, reset and configuration touches: the supply, the count of unanswered reads, the
outside lines, the loader. -/
abbrev OutsideKept (s t : State) : Prop :=
  t.pending = s.pending ∧ t.powered = s.powered ∧ t.unanswered = s.unanswered ∧ t.lines = s.lines ∧ t.cl = s.cl

/-- The binding unit but for its local claims. -/
abbrev BoardKept (s t : State) : Prop :=
  t.bu.lines = s.bu.lines ∧ t.bu.latches = s.bu.latches ∧ t.bu.bindings = s.bu.bindings

/-- A frame of another station stands received whole in its window, at station m, which stands in a table with a valid
replica. -/
abbrev HoldsWhole (s : State) (f : Frame) (m : Station) : Prop :=
  s.powered = true ∧ Settled s ∧ s.xi.rx = .whole f ∧ s.xi.number = some m ∧ m ≠ f.sender ∧ s.re.valid = true ∧
    s.sc.state.inTable = true

/-- An own attempt stands in its window, with its entry in the queue and its report awaited. -/
abbrev AwaitsOwnWindow (s : State) (a : Attempt) : Prop :=
  s.powered = true ∧ Settled s ∧ s.xi.attempt = some a ∧ a.phase = .window ∧ a.unreported = false

/-- A frame of another station stands received whole in its window, at station m, which has no valid replica. -/
abbrev HearsWhole (s : State) (f : Frame) (m : Station) : Prop :=
  s.powered = true ∧ Settled s ∧ s.xi.rx = .whole f ∧ s.xi.number = some m ∧ m ≠ f.sender ∧ s.re.valid = false

/-- The frames of a queue, in the order they were added. -/
abbrev itemsOf (q : TransmitQueue) : List Item := q.entries.map (·.item)

/-- The frames of a queue but for the one in flight. -/
abbrev itemsBeside (q : TransmitQueue) : List Item := (q.entries.filter fun e => !e.inFlight).map (·.item)

/-- The queue without its claim-family entry for a resource. -/
abbrev withoutEntryFor (q : TransmitQueue) (r : Resource) : TransmitQueue :=
  { q with entries := q.entries.filter fun e => e.item.resource? != some r }

/-- The CLAIM of a local claim (R59). -/
abbrev claimOf (c : LocalClaim) : Item := .claim c.resource c.mode c.cls c.yieldable

/-- A local claim stands with a fresh CLAIM: in QUEUED, or in SENDING where the queue has handed it at once (R59, R61). -/
abbrev ClaimedAfresh (t : State) (c : LocalClaim) : Prop :=
  ∃ e ∈ t.tq.entries, e.item = claimOf c ∧
    t.bu.claimFor c.resource = some (c.to (if e.inFlight then .sending else .queued))

/-- A wire record that obeys the laws of the table, among members of the given states (R23). -/
abbrev RecordLoads (ms : Vector MemberState 16) (w : WireRecord) : Prop :=
  w.code ≠ 3 ∧ (w.code = 2 → w.holders ≠ []) ∧ w.waits.length ≤ 15 ∧
  (w.holders.map (·.station) ++ w.waits.map (·.station)).Nodup ∧
  (w.waits.Pairwise fun a b => ¬ (a.cls = .ordinary ∧ b.cls = .urgent)) ∧
  (∀ v ∈ w.waits.head?, (w.code = 1 ∨ w.code = 2) ∧ (w.code = 2 → v.mode = .exclusive)) ∧
  (∀ h ∈ w.holders, ms[h.station] = .active) ∧ (∀ v ∈ w.waits, ms[v.station] = .active)

/-- A part k after part 0 that goes on with a load image (R23): in order, with the running count, and with lawful records
that leave the pool large enough. -/
abbrev PartFollows (i : LoadImage) (count : Half) (k : Fin 8) (recs : List WireRecord) : Prop :=
  i.nextPart = k.val + 1 ∧ count = i.count ∧ (∀ w ∈ recs, RecordLoads i.members w) ∧
    ((i.records ++ recs).map fun w => w.waits.length).sum ≤ 96

/-- The replica that a load image with its last part becomes (R23): each record as its wire form gives it, the pool taken
in resource order and list order from entry 0, yield demand recomputed, and the running count. -/
abbrev LoadedFrom (e : ReplicaEngine) (i : LoadImage) (recs : List WireRecord) : Prop :=
  e.valid = true ∧ e.members = i.members ∧ e.count = i.count + 1 ∧ e.load = none ∧
  (∀ r : Resource,
    (i.records ++ recs)[r.val]? = some e.records[r].toWire ∧ e.records[r].yieldDemand = e.records[r].demandedYield) ∧
  slotsOf e = List.range ((i.records ++ recs).map fun w => w.waits.length).sum ∧
  (∀ n : Fin 96, e.pool[n] = decide (n.val < ((i.records ++ recs).map fun w => w.waits.length).sum))

/-- The return-to-DETACHED mark that isolation sets, by the state left (R155). -/
abbrev returnMark (s : State) : Bool :=
  if s.sc.state = .leaving ∨ s.sc.state = .detached then true else !s.autoRejoin

/-- Whether no wait entry of equal or higher class waits (R31). -/
abbrev NoneAhead (c : ClaimClass) (ws : List Wait) : Prop := ∀ w ∈ ws, c = .urgent ∧ w.entry.cls = .ordinary

/-- A transaction is in progress and has carried no byte, so that the port can take a command (R184). -/
abbrev PortReady (s : State) : Prop :=
  s.mp.transaction = some { received := [], response := none }

/-- The transaction with a command taken and its response settled (R184). -/
abbrev taken (s : State) (received response : List Byte) : ManagementPort :=
  { s.mp with transaction := some { received := received, response := some response } }

end Sys2Proof.Safety
end

