-- ==== Sys2Proof/Certificates/Slice0/Obligations.lean ====
section
/-! DEFINITION. The statements put to the provers: what the rules of the spec say each command does, the frame of each, and the laws that every step keeps. -/

open Sys2Proof Sys2Proof.Machine Sys2Proof.Safety

/-! ### The step and the queue of commands -/

/-- A step runs the command at the front of the queue on the state with the queue's rest; on an empty queue the block
idles (the model's choice, log entry 5). -/
def Obligations.StepRunsTheFrontCommand : Prop :=
  (∀ (c : Instr) (s : State) (rest : List Instr),
    step { s with pending := c :: rest } = exec c { s with pending := rest }) ∧
  (∀ s : State, s.pending = [] → step s = .next s)

/-- Every command completes in every state, and none touches the queue of commands that wait. That it completes, with no
effect, also where its event cannot occur and for operands that no event carries is the model's choice, log entries 3
and 4. -/
def Obligations.EveryCommandCompletes : Prop :=
  ∀ (c : Instr) (s : State), ∃ t, exec c s = .next t ∧ t.pending = s.pending

/-! ### Supply and reset -/

/-- POWER_ON in any state, and RESET_ASSERTED at a powered station in any state, leave every block at its reset values;
only what lies outside the part is kept, and the model's count of unanswered reads (R136; log entry 30). POWER_LOST truncates an attempt on the wire and leaves the four bus lines
undriven (R112, R115); that the rest of the part then shows its reset form is the model's choice, log entry 7. -/
def Obligations.SupplyAndResetEvents : Prop :=
  ∀ s : State,
    exec .powerOn s = .next { State.reset with pending := s.pending, unanswered := s.unanswered, lines := s.lines } ∧
    (s.powered = true →
      exec .resetAsserted s = .next { State.reset with pending := s.pending, unanswered := s.unanswered, lines := s.lines }) ∧
    ∃ t, exec .powerLost s = .next t ∧
      t.powered = false ∧ t.xi.attempt = none ∧
      t.pins.xten = .released ∧ t.pins.xwant = false ∧ t.pins.pair = .undriven ∧
      t = { State.reset with pending := s.pending, unanswered := s.unanswered, lines := s.lines, powered := false }

/-- The values that the rules give for power-on and reset, block by block (R2, R53, R85, R114, R117, R136, R162, R166,
R177, R183). -/
def Obligations.ResetValuesOfTheRules : Prop :=
  let s := State.reset
  (∀ r : Resource, s.re.records[r] = { holding := .free, waits := [], yieldDemand := false }) ∧
  (∀ i : Fin 96, s.re.pool[i] = false) ∧ (∀ x : Station, s.re.members[x] = .absent) ∧
  s.re.count = 0 ∧ s.re.valid = false ∧ s.re.load = none ∧
  s.bu.bindings = none ∧ s.bu.claims = [] ∧
  (∀ n : BindingNo, s.bu.lines[n] = false ∧ s.bu.latches[n] = false ∧ s.pins.gnt[n] = false ∧ s.pins.yld[n] = false) ∧
  s.tq.entries = [] ∧ s.tq.job = .clear ∧ s.tq.reArm = false ∧
  s.xi.number = none ∧ s.xi.attempt = none ∧ s.xi.rejectStreak = 0 ∧ s.xi.dropStreak = 0 ∧ s.pins.pair = .undriven ∧
  s.tc.state = .offline ∧ s.tc.quota = 0 ∧ s.tc.pinned = false ∧ s.tc.cameFromDeferred = false ∧
  s.tc.hasWork = false ∧ s.tc.q = none ∧ s.pins.xten = .released ∧ s.pins.xwant = false ∧
  s.sc.state = .reset ∧ s.sc.fault = .none ∧ s.sc.foundedSeen = false ∧ s.sc.tableHeard = false ∧
  s.sc.returnDetached = false ∧ s.sc.listenTimer = false ∧ s.sc.deadline = .stopped ∧ s.sc.holdOffTimer = false ∧
  s.sc.presenceTimer = false ∧ s.sc.satisfied = false ∧
  (∀ x : Station, s.sc.silence[x] = { watched := false, count := 0 }) ∧
  s.cl.state = .empty ∧ (∀ i : Fin 30, s.cl.staging[i] = 0) ∧ s.cl.detail = { check := 0, binding := none } ∧ s.cl.failedAt = none ∧
  s.pins.cfg = .rest ∧ s.pins.cfgRead = [] ∧ s.pins.cfgEnded = [] ∧
  s.mp.transaction = none ∧ s.mp.pendingPop = none ∧ s.mp.notices = [] ∧ s.mp.attn = false ∧ s.mp.msoDriven = false ∧
  s.mp.counters.bytes = List.replicate 16 0

/-- RESET_RELEASED: the number is read once, CFGSRC high leads to CONFIG and STAGING, low to LOADING and READING with the
whole read of R178 on the configuration lines, and STATE_CHANGED is posted with cause RESET_RELEASED (R136, R137, R175,
R177, R178). From the reset values nothing else changes. -/
def Obligations.ReleaseOfResetSamplesTheStraps : Prop :=
  ∀ (sid : Station) (cfgsrc : Bool) (s : State), s.powered = true → s.sc.state = .reset →
    ∃ t, exec (.resetReleased sid cfgsrc) s = .next t ∧
      t.xi.number = some sid ∧
      t.sc.state = (if cfgsrc then .config else .loading) ∧
      t.cl = { s.cl with state := if cfgsrc then .staging else .reading } ∧
      t.pins.cfg = (if cfgsrc then .rest else .reading) ∧
      t.pins.cfgRead =
        (if cfgsrc then []
        else
          [.clocks 9, .stop, .start, .send 116, .send 0, .repeatedStart, .send 117] ++
            List.replicate 29 (.receive true) ++ [.receive false, .stop]) ∧
      t.mp = s.mp.post (.stateChanged (if cfgsrc then .config else .loading) .resetReleased) ∧
      t.tc.state = .offline ∧ t.tq = s.tq ∧ t.bu = s.bu ∧ t.re = s.re.discardLoad ∧
      t.pending = s.pending ∧ t.powered = true ∧ t.unanswered = s.unanswered ∧ t.lines = s.lines ∧
      (s = { State.reset with pending := s.pending, unanswered := s.unanswered, lines := s.lines } →
        t.sc = { s.sc with state := t.sc.state } ∧ t.xi = { s.xi with number := some sid } ∧ t.tc = s.tc ∧
          t.re = s.re ∧ t.pins = { s.pins with cfg := t.pins.cfg, cfgRead := t.pins.cfgRead })

/-! ### The claim lines and the local claims -/

/-- RISE and FALL take the new line level of one line, in every state after the release of RESET; a rise sets the latch of
an enabled LATCHED binding while the station is ACTIVE, and a fall clears none (R54, R55). The replica, the station
controller, the loader and the other lines are as they were. -/
def Obligations.LineChangesAreTaken : Prop :=
  ∀ (n : BindingNo) (s : State), s.powered = true → s.sc.state ≠ .reset →
    (s.bu.lines[n] = false →
      ∃ t, exec (.rise n) s = .next t ∧
        t.bu.lines = s.bu.lines.set n true ∧
        t.bu.latches =
          (if s.bu.isLatched n = true ∧ s.sc.state = .active then s.bu.latches.set n true else s.bu.latches) ∧
        t.bu.bindings = s.bu.bindings ∧ t.re = s.re ∧ t.sc = s.sc ∧ OutsideKept s t) ∧
    (s.bu.lines[n] = true →
      ∃ t, exec (.fall n) s = .next t ∧
        t.bu.lines = s.bu.lines.set n false ∧ t.bu.latches = s.bu.latches ∧
        t.bu.bindings = s.bu.bindings ∧ t.re = s.re ∧ t.sc = s.sc ∧ OutsideKept s t)

/-- A demand rise while ACTIVE, by the state of the local claim. In NONE: QUEUED, with its CLAIM handed to the transmit
queue (R55, R58, R59). In SENDING: the cancel flag is cleared and the CLAIM on the wire is not touched (R62). In DROPPING
with the reclaim flag clear: an UNTAKEN DROP is withdrawn and the state taken from the replica, HELD with GNT high at once
and YIELD_ASKED posted where yield demand is set, WAITING, or QUEUED with a fresh CLAIM; a DROP in flight or gone sets the
reclaim flag (R25, R70, R90). With the reclaim flag set nothing changes (R71). A parked station takes a CLAIM at once, which
the premise on the tenure state sets aside. -/
def Obligations.DemandRiseHandsAClaim : Prop :=
  ∀ (n : BindingNo) (s : State) (b : BindingConfig) (c : LocalClaim),
    s.powered = true → s.sc.state = .active → s.tc.state ≠ .parked →
    s.bu.lines[n] = false → s.bu.config n = some b → b.enabled = true →
    s.bu.claimFor b.resource = some c → n ∈ c.bindings → s.bu.demand c = false →
    ∃ t, exec (.rise n) s = .next t ∧ t.re = s.re ∧ t.sc = s.sc ∧
      (c.state = .none →
        t.bu.claimFor b.resource = some (c.to .queued) ∧
          t.tq = s.tq.addClaim c.resource c.mode c.cls c.yieldable ∧ t.pins.gnt[n] = false ∧ t.mp = s.mp) ∧
      (c.state = .sending →
        t.bu.claimFor b.resource = some { c with cancel := false } ∧ t.tq = s.tq ∧ t.pins.gnt[n] = false ∧ t.mp = s.mp) ∧
      (∀ (m : Station) (e : Entry), c.state = .dropping → c.reclaim = false → QueueLawful s → s.xi.number = some m →
        s.re.valid = true → s.tq.entryFor b.resource = some e → e.inFlight = false →
        let record := s.re.records[b.resource]
        if record.holds m = true then
          t.bu.claimFor b.resource = some { c.to .held with yieldSeen := record.yieldDemand } ∧
            t.tq = withoutEntryFor s.tq b.resource ∧ t.pins.gnt[n] = true ∧
            t.pins.yld[n] = (c.yieldable && record.yieldDemand) ∧
            t.mp = if record.yieldDemand then s.mp.post (.yieldAsked b.resource) else s.mp
        else if record.waitsFor m = true then
          t.bu.claimFor b.resource = some (c.to .waiting) ∧ t.tq = withoutEntryFor s.tq b.resource ∧
            t.pins.gnt[n] = false ∧ t.mp = s.mp
        else
          t.bu.claimFor b.resource = some (c.to .queued) ∧
            t.tq = (withoutEntryFor s.tq b.resource).append (claimOf c) ∧ t.pins.gnt[n] = false ∧ t.mp = s.mp) ∧
      (c.state = .dropping → c.reclaim = false → (∀ e ∈ s.tq.entryFor b.resource, e.inFlight = true) →
        t.bu.claimFor b.resource = some { c with reclaim := true } ∧ t.tq = s.tq ∧ t.pins.gnt[n] = false ∧ t.mp = s.mp) ∧
      (c.state = .dropping → c.reclaim = true →
        t.bu.claimFor b.resource = some c ∧ t.tq = s.tq ∧ t.pins.gnt[n] = false ∧ t.mp = s.mp)

/-- A demand fall while ACTIVE, by the state of the local claim, with GNT and YLD low at once in every state. In WAITING or
HELD: DROPPING, with a DROP handed to the queue while the replica still shows the hold (R69, R76). In QUEUED: an UNTAKEN
CLAIM is cancelled and the record returns to NONE, and one in flight leaves SENDING with the cancel flag set (R60, R89). In
SENDING: the cancel flag is set (R62). In DROPPING: the reclaim flag is cleared (R71). In REFUSED: NONE, with no frame
(R75). -/
def Obligations.DemandFallHandsADrop : Prop :=
  ∀ (n : BindingNo) (s : State) (b : BindingConfig) (c : LocalClaim),
    s.powered = true → s.sc.state = .active → s.tc.state ≠ .parked →
    s.bu.lines[n] = true → s.bu.config n = some b → b.enabled = true → b.trigger = .level →
    s.bu.claimFor b.resource = some c → n ∈ c.bindings → (∀ k ∈ c.bindings, k ≠ n → s.bu.request k = false) →
    ∃ t, exec (.fall n) s = .next t ∧
      t.pins.gnt[n] = false ∧ t.pins.yld[n] = false ∧ t.re = s.re ∧ t.sc = s.sc ∧ t.mp = s.mp ∧
      ((c.state = .waiting ∨ c.state = .held) → s.tq.entryFor b.resource = none →
        t.bu.claimFor b.resource =
          some { c with
            state := .dropping, cancel := false, reclaim := false, yieldSeen := c.yieldSeen && c.state == .held } ∧
        t.tq = s.tq.append (.drop b.resource)) ∧
      (∀ e, c.state = .queued → QueueLawful s → s.tq.entryFor b.resource = some e → e.item.isClaim = true →
        if e.inFlight = true then
          t.bu.claimFor b.resource = some { c.to .sending with cancel := true } ∧ t.tq = s.tq
        else t.bu.claimFor b.resource = some (c.to .none) ∧ t.tq = withoutEntryFor s.tq b.resource) ∧
      (c.state = .sending → t.bu.claimFor b.resource = some { c with cancel := true } ∧ t.tq = s.tq) ∧
      (c.state = .dropping → t.bu.claimFor b.resource = some { c with reclaim := false } ∧ t.tq = s.tq) ∧
      (c.state = .refused → t.bu.claimFor b.resource = some (c.to .none) ∧ t.tq = s.tq)

/-- After every command GNTn is high just where the station is ACTIVE, binding n is enabled with its request active and
the local claim of its resource is HELD; YLDn just where GNTn is high and that claim is yieldable with yield seen set
(R76, R77). -/
def Obligations.OutputsFollowTheLocalClaims : Prop :=
  ∀ (c : Instr) (s t : State), Settled s → exec c s = .next t → ∀ n : BindingNo,
    (t.pins.gnt[n] = true ↔
      t.sc.state = .active ∧ ∃ b, t.bu.config n = some b ∧ b.enabled = true ∧ t.bu.request n = true ∧
        ∃ l, t.bu.claimFor b.resource = some l ∧ l.state = .held) ∧
    (t.pins.yld[n] = true ↔
      t.pins.gnt[n] = true ∧ ∃ b, t.bu.config n = some b ∧
        ∃ l, t.bu.claimFor b.resource = some l ∧ l.yieldSeen = true ∧ l.yieldable = true)

/-! ### The claim table -/

/-- The table of R13, and its use by the immediate-grant test and by the grant pass. -/
def Obligations.CompatibilityOfModes : Prop :=
  (∀ h : Holding, h.compatible .exclusive = true ↔ h = .free) ∧
  (∀ h : Holding, h.compatible .shared = true ↔ h = .free ∨ ∃ hs, h = .shared hs) ∧
  (∀ (r : Record) (m : Mode) (c : ClaimClass), r.grantsAtOnce m c = true → r.holding.compatible m = true) ∧
  (∀ (h : Holding) (w : Wait) (ws : List Wait),
    (h.compatible w.entry.mode = false → grantHeads h (w :: ws) = (h, w :: ws)) ∧
    (h.compatible w.entry.mode = true →
      grantHeads h (w :: ws) =
        grantHeads (h.add w.entry.mode { station := w.entry.station, yieldable := w.entry.yieldable }) ws))

/-! ### The data pair: marks, damage and windows -/

/-- START_MARK_SEEN begins the taking of a frame, TRUNCATION_SEEN discards what was taken, and CLOSING_MARK_SENT ends an
own attempt's drive of the pair and begins its window; nothing else changes (R103 to R105). That a start mark begins a new
frame also where the window of another is open, and ends a reject, is the model's choice, log entry 28. -/
def Obligations.MarksOnThePair : Prop :=
  ∀ s : State, s.powered = true → Settled s →
    (s.sc.state.receiverOn = true → s.xi.sending = false →
      exec .startMarkSeen s =
        .next { s with xi := { s.xi with rx := .taking }, pins := { s.pins with pair := .undriven } }) ∧
    (s.xi.rx = .taking → exec .truncationSeen s = .next { s with xi := { s.xi with rx := .none } }) ∧
    (∀ a, s.xi.attempt = some a → a.phase = .sending → s.xi.rx ≠ .damaged →
      exec .closingMarkSent s =
        .next
          { s with
            xi := { s.xi with attempt := some { a with phase := .window } }
            pins := { s.pins with pair := .undriven } })

/-- CLOSING_MARK_SEEN with bytes that pass every test of R104: the frame is held for its window, and nothing is driven. -/
def Obligations.FrameReceivedWholeIsHeld : Prop :=
  ∀ (s : State) (bytes : List Byte) (f : Frame),
    s.powered = true → Settled s → s.xi.rx = .taking → decodeFrame bytes = some f →
    exec (.closingMarkSeen bytes) s = .next { s with xi := { s.xi with rx := .whole f } }

/-- CLOSING_MARK_SEEN with bytes found damaged, below the limit: the pair is driven to its reject level, REJECTS SIGNALLED
and the reject streak advance by one, and nothing else changes (R105, R110, R195). -/
def Obligations.DamagedFrameIsRejected : Prop :=
  ∀ (s : State) (bytes : List Byte),
    s.powered = true → Settled s → s.xi.rx = .taking → s.xi.sending = false → decodeFrame bytes = none →
    s.xi.rejectStreak < 7 →
    exec (.closingMarkSeen bytes) s =
      .next
        { s with
          xi := { s.xi with rx := .damaged, rejectStreak := s.xi.rejectStreak + 1 }
          mp :=
            { s.mp with
              counters := { s.mp.counters with rejectsSignalled := bump s.mp.counters.rejectsSignalled } }
          pins := { s.pins with pair := .reject } }

/-- The eighth reject in a row takes the station to ISOLATED in the same event, with the streak returned to 0: no hold, no
frame queued, no tenure, no table, the hold-off running, the return mark by the state left (R110, R155). With the receiver
off the station then drives no reject and holds no frame (R104, R156), so that this reject is not driven for its whole
window: the model's choice between these rules and R105, log entry 10. -/
def Obligations.EighthRejectIsolates : Prop :=
  ∀ (s : State) (bytes : List Byte),
    s.powered = true → s.sc.state.receiverOn = true → s.xi.rx = .taking → decodeFrame bytes = none →
    s.xi.rejectStreak = 7 →
    ∃ t, exec (.closingMarkSeen bytes) s = .next t ∧
      t.sc.state = .isolated ∧ t.sc.holdOffTimer = true ∧ t.sc.returnDetached = returnMark s ∧
      t.xi.rejectStreak = 0 ∧ t.xi.rx = .none ∧ (s.xi.sending = false → t.pins.pair = .undriven) ∧
      t.mp.counters.rejectsSignalled = bump s.mp.counters.rejectsSignalled ∧
      t.tc.state = .offline ∧ t.pins.xten = .released ∧ t.pins.xwant = false ∧ t.tq = TransmitQueue.empty ∧
      (s.sc.state.inTable = true →
        t.re = ReplicaEngine.empty ∧ (∀ c ∈ t.bu.claims, c.state = .none) ∧
        (∀ n : BindingNo, t.bu.latches[n] = false)) ∧
      (∀ n : BindingNo, t.pins.gnt[n] = false ∧ t.pins.yld[n] = false) ∧
      t.bu.lines = s.bu.lines ∧ t.bu.bindings = s.bu.bindings ∧ OutsideKept s t

/-- WINDOW_CLOSE without acceptance: a frame received whole is discarded in a rejected window with the reject streak
returned to 0 and HEARD taken for the marks of LISTENING, JOIN_PENDING and AWAIT_SNAPSHOT; the window of a frame found
damaged ends the reject level. No block takes an effect (R105, R106, R139, R145). -/
def Obligations.DiscardedFrameHasNoEffect : Prop :=
  ∀ s : State, s.powered = true → Settled s →
    (∀ f, s.xi.rx = .whole f →
      exec (.windowClose true) s =
        .next
          { s with
            xi := { s.xi with rx := .none, rejectStreak := 0 }
            sc :=
              { s.sc with
                foundedSeen := s.sc.foundedSeen ||
                  (f.active && (s.sc.state == .listening || s.sc.state == .joinPending))
                tableHeard := s.sc.tableHeard || (f.active && s.sc.state == .awaitSnapshot) } }) ∧
    (∀ rejected, s.xi.rx = .damaged → s.xi.sending = false →
      exec (.windowClose rejected) s =
        .next { s with xi := { s.xi with rx := .none }, pins := { s.pins with pair := .undriven } })

/-! ### Accepted frames of other stations -/

/-- A CLAIM that R31 grants at once: its sender becomes a holder with its mode and yieldable flag; the wait list, the
pool, the other records and the members are as they were, and the count advances by one. -/
def Obligations.ClaimGrantedAtOnce : Prop :=
  ∀ (s : State) (f : Frame) (m : Station) (r : Resource) (md : Mode) (c : ClaimClass) (y : Bool),
    HoldsWhole s f m → f.body = .claim r md c y → s.re.members[f.sender] = .active →
    RecordLawful s.re.members s.re.records[r] → s.re.records[r].has f.sender = false →
    s.re.records[r].holding.compatible md = true → NoneAhead c s.re.records[r].waits →
    ∃ t, exec (.windowClose false) s = .next t ∧
      t.re =
        { s.re with
          records :=
            s.re.records.set r
              { holding := s.re.records[r].holding.add md { station := f.sender, yieldable := y }
                waits := s.re.records[r].waits, yieldDemand := false }
          count := s.re.count + 1 } ∧
      t.mp.counters.framesApplied = bump s.mp.counters.framesApplied ∧
      t.sc.state = s.sc.state ∧ BoardKept s t ∧ OutsideKept s t

/-- A CLAIM that is not granted at once while the pool has a free entry: the new entry, with the lowest free pool entry,
stands behind every entry of its class or a higher one and before the others, whose order is kept; holders, other records
and members are as they were (R7, R8, R16, R32). Where that sets the yield demand of a resource that this station holds, its
local claim in HELD has yield seen set, YIELD_ASKED is posted when it was clear, and YLD rises with the grants of a
yieldable claim; otherwise the claim is as it was (R43, R68, R77). -/
def Obligations.ClaimWaits : Prop :=
  ∀ (s : State) (f : Frame) (m : Station) (r : Resource) (md : Mode) (c : ClaimClass) (y : Bool) (i : Fin 96),
    HoldsWhole s f m → f.body = .claim r md c y → s.re.members[f.sender] = .active →
    RecordLawful s.re.members s.re.records[r] → s.re.records[r].has f.sender = false →
    ¬ (s.re.records[r].holding.compatible md = true ∧ NoneAhead c s.re.records[r].waits) →
    s.re.pool[i] = false → (∀ j : Fin 96, j < i → s.re.pool[j] = true) →
    ∃ t, exec (.windowClose false) s = .next t ∧
      (∃ ahead behind : List Wait,
        s.re.records[r].waits = ahead ++ behind ∧
        (∀ v ∈ ahead, c = .ordinary ∨ v.entry.cls = .urgent) ∧
        (∀ v ∈ behind, c = .urgent ∧ v.entry.cls = .ordinary) ∧
        (let ws :=
          ahead ++ { slot := i.val, entry := { station := f.sender, mode := md, cls := c, yieldable := y } } :: behind
        t.re =
          { s.re with
            records :=
              s.re.records.set r
                { holding := s.re.records[r].holding, waits := ws
                  yieldDemand := ws.head?.map (·.entry.cls) == some .urgent }
            pool := s.re.pool.set i true
            count := s.re.count + 1 })) ∧
      (∀ l, s.sc.state = .active → s.re.records[r].holds m = true → s.bu.claimFor r = some l → l.state = .held →
        let asked := !s.re.records[r].yieldDemand && t.re.records[r].yieldDemand
        t.bu.claimFor r = some { l with yieldSeen := l.yieldSeen || asked } ∧
        t.mp.notices = (if asked && !l.yieldSeen then s.mp.post (.yieldAsked r) else s.mp).notices ∧
        (∀ (n : BindingNo) (b : BindingConfig), s.bu.config n = some b → b.enabled = true → b.resource = r →
          t.pins.gnt[n] = s.bu.request n ∧
          t.pins.yld[n] = (s.bu.request n && l.yieldable && (l.yieldSeen || asked)))) ∧
      t.mp.counters.framesApplied = bump s.mp.counters.framesApplied ∧
      t.sc.state = s.sc.state ∧ BoardKept s t ∧ OutsideKept s t

/-- A CLAIM from a station already in the record is answered ALREADY, one that would wait with the pool exhausted is
REFUSED, and one whose sender is not ACTIVE is a no-op: the table is as it was but for the count (R9, R29, R30, R33). -/
def Obligations.ClaimLeavesTheTable : Prop :=
  ∀ (s : State) (f : Frame) (m : Station) (r : Resource) (md : Mode) (c : ClaimClass) (y : Bool),
    HoldsWhole s f m → caughtForeign s.re f = false → f.body = .claim r md c y →
    (s.re.members[f.sender] ≠ .active ∨ s.re.records[r].has f.sender = true ∨
      (¬ (s.re.records[r].holding.compatible md = true ∧ NoneAhead c s.re.records[r].waits) ∧
        ∀ i : Fin 96, s.re.pool[i] = true)) →
    ∃ t, exec (.windowClose false) s = .next t ∧
      t.re = { s.re with count := s.re.count + 1 } ∧
      t.mp.counters.framesApplied = bump s.mp.counters.framesApplied ∧
      t.sc.state = s.sc.state ∧ BoardKept s t ∧ OutsideKept s t

/-- A DROP takes its ACTIVE sender out of one record, as holder or as waiter, and the grant pass follows; the other
records and the members are as they were, and the pool entries freed are those that left the wait list. A resource above
63 and a sender that is not ACTIVE change no record (R14, R29, R35). -/
def Obligations.DropTakesItsSenderOut : Prop :=
  ∀ (s : State) (f : Frame) (m : Station) (b : Byte),
    HoldsWhole s f m → caughtForeign s.re f = false → f.body = .drop b →
    (∀ r : Resource, b.toNat = r.val → s.re.members[f.sender] = .active →
      RecordLawful s.re.members s.re.records[r] →
      ∃ t, exec (.windowClose false) s = .next t ∧
        (let after := s.re.records[r].takeOut f.sender
        t.re.records = s.re.records.set r after ∧ after.has f.sender = false ∧
          (∀ i : Fin 96, t.re.pool[i] = (s.re.pool[i] && !(slotsLeft s.re.records[r] after).contains i.val))) ∧
        t.re.members = s.re.members ∧ t.re.count = s.re.count + 1 ∧ t.re.valid = true ∧
        t.mp.counters.framesApplied = bump s.mp.counters.framesApplied ∧
        t.sc.state = s.sc.state ∧ BoardKept s t ∧ OutsideKept s t) ∧
    (64 ≤ b.toNat ∨ s.re.members[f.sender] ≠ .active →
      ∃ t, exec (.windowClose false) s = .next t ∧ t.re = { s.re with count := s.re.count + 1 } ∧
        t.sc.state = s.sc.state ∧ BoardKept s t ∧ OutsideKept s t)

/-- EXPEL of another member by an ACTIVE sender, LEAVE of a member, and JOIN of any sender: the station concerned is taken
out of every record with a grant pass at each, its member record becomes ABSENT (JOINING for a JOIN), its silence record
stops (restarts watched at 0 for a JOIN), and the other members are as they were. EXPEL of an absent target or by a sender
that is not ACTIVE, and LEAVE of an absent sender, are no-ops but for the count (R17, R29, R38, R39, R41, R167). A JOIN arms
the snapshot job where this station is then the reference, and leaves it as it is elsewhere; a parked station hands part 0
at once and is pinned (R40, R86, R95, R129, R130). -/
def Obligations.MembershipFrames : Prop :=
  ∀ (s : State) (f : Frame) (m : Station),
    HoldsWhole s f m → caughtForeign s.re f = false →
    (∀ (x : Station) (st : MemberState), TableLawful s.re → x ≠ m →
      ((∃ why, f.body = .expel x why ∧ s.re.members[f.sender] = .active ∧ s.re.members[x] ≠ .absent ∧ st = .absent) ∨
        (f.body = .leave ∧ x = f.sender ∧ s.re.members[x] ≠ .absent ∧ st = .absent) ∨
        (f.body = .join ∧ x = f.sender ∧ st = .joining)) →
      ∃ t, exec (.windowClose false) s = .next t ∧
        (∀ r : Resource,
          t.re.records[r] = s.re.records[r].takeOut x ∧ t.re.records[r].has x = false) ∧
        t.re.members = s.re.members.set x st ∧ t.re.count = s.re.count + 1 ∧ t.re.valid = true ∧
        t.sc.silence[x] = { watched := st == .joining, count := 0 } ∧
        t.mp.counters.framesApplied = bump s.mp.counters.framesApplied ∧
        t.sc.state = s.sc.state ∧ BoardKept s t ∧ OutsideKept s t) ∧
    ((∃ x why, f.body = .expel x why ∧ (s.re.members[f.sender] ≠ .active ∨ s.re.members[x] = .absent)) ∨
        (f.body = .leave ∧ s.re.members[f.sender] = .absent) →
      ∃ t, exec (.windowClose false) s = .next t ∧ t.re = { s.re with count := s.re.count + 1 } ∧
        t.sc.state = s.sc.state ∧ BoardKept s t ∧ OutsideKept s t) ∧
    (f.body = .join →
      ∃ t, exec (.windowClose false) s = .next t ∧
        (s.tc.state ≠ .parked → t.re.reference = some m →
          ((s.tq.job = .clear ∨ s.tq.job = .armed) → t.tq.job = .armed ∧ t.tq.reArm = false) ∧
            (∀ k n, s.tq.job = .running k n → t.tq.job = .running k n ∧ t.tq.reArm = s.tq.reArm)) ∧
        (s.tc.state ≠ .parked → t.re.reference ≠ some m →
          t.tq.job = s.tq.job ∧ t.tq.reArm = s.tq.reArm) ∧
        (s.tc.state = .parked → s.tq = TransmitQueue.empty → t.re.reference = some m →
          t.tc.state = .holding ∧ t.tc.pinned = true ∧ t.tq.job = .running 0 (some 1) ∧ t.pins.xten = .asserted ∧
            ∃ a, t.xi.attempt = some a ∧ a.sent = .part 0 ∧ a.phase = .sending ∧ a.frame.count = t.re.count ∧
              a.frame.body = .snapshot (.members t.re.members)))

/-- A PRESENCE with synced flag 1 makes its JOINING sender ACTIVE; every other PRESENCE, and every SNAPSHOT part, changes
no record, no member and no local claim. The count advances by one, and the sender's silence count returns to 0 (R37,
R42, R168). Where the member so made ACTIVE has a lower number than this station, the reference until then, the role passes
to it and an armed snapshot job is cleared with its re-arm mark; every other snapshot job is as it was (R11, R47, R95). A
parked station may take a frame that the reference check has just queued, so the clause on the local claims is for the
other tenure states. -/
def Obligations.PresenceAndSnapshotParts : Prop :=
  ∀ (s : State) (f : Frame) (m : Station),
    HoldsWhole s f m → caughtForeign s.re f = false →
    ((∃ synced d, f.body = .presence synced d) ∨ ∃ p, f.body = .snapshot p) →
    ∃ t, exec (.windowClose false) s = .next t ∧
      t.re =
        { s.re with
          members :=
            if f.syncedPresence = true ∧ s.re.members[f.sender] = .joining then s.re.members.set f.sender .active
            else s.re.members
          count := s.re.count + 1 } ∧
      (s.sc.silence[f.sender].watched = true → t.sc.silence[f.sender] = { watched := true, count := 0 }) ∧
      t.mp.counters.framesApplied = bump s.mp.counters.framesApplied ∧
      (s.tc.state ≠ .parked → t.bu = s.bu) ∧
      (let lost :=
        f.syncedPresence = true ∧ s.re.members[f.sender] = .joining ∧ f.sender < m ∧ s.re.reference = some m
      (lost → t.re.reference = some f.sender) ∧
        (lost → s.tq.job = .armed → t.tq.job = .clear ∧ t.tq.reArm = false) ∧
        (¬ (lost ∧ s.tq.job = .armed) → t.tq.job = s.tq.job ∧ t.tq.reArm = s.tq.reArm)) ∧
      t.sc.state = s.sc.state ∧ BoardKept s t ∧ OutsideKept s t

/-- A frame caught by the foreign-table test: with a count equal or greater the station abandons its replica, with every
hold, claim, latch and queued frame gone, and listens; with a lesser count the replica keeps everything and counts the
frame (R48, R49, R151, R153). -/
def Obligations.ForeignTableRule : Prop :=
  ∀ (s : State) (f : Frame) (m : Station), HoldsWhole s f m → caughtForeign s.re f = true →
    (s.re.count.toNat ≤ f.count.toNat →
      ∃ t, exec (.windowClose false) s = .next t ∧
        t.sc.state = .listening ∧ t.sc.listenTimer = true ∧ t.re = ReplicaEngine.empty ∧
        (∀ c ∈ t.bu.claims, c.state = .none) ∧ (∀ n : BindingNo, t.bu.latches[n] = false) ∧
        (∀ n : BindingNo, t.pins.gnt[n] = false ∧ t.pins.yld[n] = false) ∧
        t.tq = TransmitQueue.empty ∧ (∀ x : Station, t.sc.silence[x] = { watched := false, count := 0 }) ∧
        t.mp.counters.framesApplied = s.mp.counters.framesApplied ∧
        t.bu.lines = s.bu.lines ∧ t.bu.bindings = s.bu.bindings ∧ OutsideKept s t) ∧
    (f.count.toNat < s.re.count.toNat →
      ∃ t, exec (.windowClose false) s = .next t ∧
        t.re = { s.re with count := s.re.count + 1 } ∧
        t.mp =
          { s.mp with counters := { s.mp.counters with framesApplied := bump s.mp.counters.framesApplied } } ∧
        t.bu = s.bu ∧ t.tq = s.tq ∧ t.tc = s.tc ∧ t.pins = s.pins ∧ t.sc.state = s.sc.state ∧ OutsideKept s t)

/-- An accepted frame that bears this station's number and that it did not send takes the station to FAULT with reason
TWIN, with no effect of the frame taken: off the bus, its queue emptied, every grant low (R28, R113, R154). -/
def Obligations.TwinFrameFaults : Prop :=
  ∀ (s : State) (f : Frame),
    s.powered = true → s.xi.rx = .whole f → s.xi.number = some f.sender → s.sc.state.receiverOn = true →
    ∃ t, exec (.windowClose false) s = .next t ∧
      t.sc.state = .fault ∧ t.sc.fault = .twin ∧ t.tc.state = .offline ∧ t.xi.rx = .none ∧
      t.tq = TransmitQueue.empty ∧ t.pins.xten = .released ∧ t.pins.xwant = false ∧
      t.re = (if s.sc.state.inTable then ReplicaEngine.empty else s.re.discardLoad) ∧
      (s.sc.state.inTable = true → ∀ c ∈ t.bu.claims, c.state = .none) ∧
      (∀ n : BindingNo, t.pins.gnt[n] = false ∧ t.pins.yld[n] = false) ∧
      t.mp.counters.framesApplied = s.mp.counters.framesApplied ∧
      t.bu.lines = s.bu.lines ∧ t.bu.bindings = s.bu.bindings ∧ OutsideKept s t

/-- The reference check and the count comparison, on a PRESENCE. At the reference a count or, on a synced PRESENCE, a digest
that differs has EXPEL(sender, DISAGREE) queued and counted once, and the count that differs is counted as a mismatch; an
EXPEL already held is kept as it is and none is added; a JOINING sender's synced PRESENCE is compared as well, and its
sender becomes ACTIVE all the same; agreement queues nothing. At another ACTIVE station a count that differs is counted
and no more (R37, R44 to R46, R91). -/
def Obligations.ReferenceCheckExpels : Prop :=
  ∀ (s : State) (f : Frame) (m : Station) (synced : Bool) (d : Half),
    HoldsWhole s f m → f.body = .presence synced d →
    (s.re.members[f.sender] = .active → f.active = true → s.re.reference = some m → s.tq.holdsExpel f.sender = false →
      (f.count ≠ s.re.count →
        ∃ t, exec (.windowClose false) s = .next t ∧
          (∃ e ∈ t.tq.entries, e.item = .expel f.sender .disagree) ∧
          t.mp =
            { s.mp with
              counters :=
                { s.mp.counters with
                  countMismatch := bump s.mp.counters.countMismatch
                  expelsQueued := bump s.mp.counters.expelsQueued
                  framesApplied := bump s.mp.counters.framesApplied } } ∧
          t.re = { s.re with count := s.re.count + 1 }) ∧
      (f.count = s.re.count → synced = true → d ≠ s.re.digest →
        ∃ t, exec (.windowClose false) s = .next t ∧
          (∃ e ∈ t.tq.entries, e.item = .expel f.sender .disagree) ∧
          t.mp =
            { s.mp with
              counters :=
                { s.mp.counters with
                  expelsQueued := bump s.mp.counters.expelsQueued
                  framesApplied := bump s.mp.counters.framesApplied } } ∧
          t.re = { s.re with count := s.re.count + 1 })) ∧
    (s.re.members[f.sender] = .active → f.active = true → s.re.reference = some m → s.tq.holdsExpel f.sender = true →
      (f.count ≠ s.re.count ∨ (synced = true ∧ d ≠ s.re.digest)) →
      ∃ t, exec (.windowClose false) s = .next t ∧
        t.tq.entries.map (·.item) = s.tq.entries.map (·.item) ∧
        t.mp =
          { s.mp with
            counters :=
              { s.mp.counters with
                countMismatch :=
                  if f.count = s.re.count then s.mp.counters.countMismatch else bump s.mp.counters.countMismatch
                framesApplied := bump s.mp.counters.framesApplied } }) ∧
    (s.re.members[f.sender] = .joining → f.active = false → synced = true → s.re.reference = some m →
      s.tq.holdsExpel f.sender = false → (f.count ≠ s.re.count ∨ d ≠ s.re.digest) →
      ∃ t, exec (.windowClose false) s = .next t ∧
        (∃ e ∈ t.tq.entries, e.item = .expel f.sender .disagree) ∧
        t.mp =
          { s.mp with
            counters :=
              { s.mp.counters with
                countMismatch :=
                  if f.count = s.re.count then s.mp.counters.countMismatch else bump s.mp.counters.countMismatch
                expelsQueued := bump s.mp.counters.expelsQueued
                framesApplied := bump s.mp.counters.framesApplied } } ∧
        t.re = { s.re with members := s.re.members.set f.sender .active, count := s.re.count + 1 }) ∧
    (s.re.members[f.sender] = .active → f.active = true → s.re.reference = some m → f.count = s.re.count →
      (synced = true → d = s.re.digest) →
      ∃ t, exec (.windowClose false) s = .next t ∧ t.tq = s.tq ∧
        t.mp =
          { s.mp with counters := { s.mp.counters with framesApplied := bump s.mp.counters.framesApplied } }) ∧
    (s.re.members[f.sender] = .active → f.active = true → s.re.reference ≠ some m → s.sc.state = .active →
      f.count ≠ s.re.count →
      ∃ t, exec (.windowClose false) s = .next t ∧ t.tq = s.tq ∧
        t.mp =
          { s.mp with
            counters :=
              { s.mp.counters with
                countMismatch := bump s.mp.counters.countMismatch
                framesApplied := bump s.mp.counters.framesApplied } })

/-- This station's own expulsion: the teardown leaves no hold, no latch, no queued frame and no table, and auto-rejoin
decides between LISTENING and DETACHED (R38, R79, R151, R152). -/
def Obligations.OwnExpulsionLeavesTheTable : Prop :=
  ∀ (s : State) (f : Frame) (m : Station) (why : ExpelReason),
    HoldsWhole s f m → f.body = .expel m why → s.re.members[f.sender] = .active → s.re.members[m] ≠ .absent →
    ∃ t, exec (.windowClose false) s = .next t ∧
      t.sc.state = (if s.autoRejoin then .listening else .detached) ∧
      t.re = ReplicaEngine.empty ∧ (∀ c ∈ t.bu.claims, c.state = .none) ∧
      (∀ n : BindingNo, t.bu.latches[n] = false ∧ t.pins.gnt[n] = false ∧ t.pins.yld[n] = false) ∧
      t.tq = TransmitQueue.empty ∧ (∀ x : Station, t.sc.silence[x] = { watched := false, count := 0 }) ∧
      t.mp.counters.framesApplied = bump s.mp.counters.framesApplied ∧
      t.bu.lines = s.bu.lines ∧ t.bu.bindings = s.bu.bindings ∧ OutsideKept s t

/-- A DROP of the exclusive holder with this station at the head of the wait list: the replica makes this station a
holder, its local claim goes from WAITING to HELD with yield seen from the record, and GNT rises for each binding of the
resource whose request is active (R14, R67, R76). -/
def Obligations.GrantByAnotherStationsDrop : Prop :=
  ∀ (s : State) (f : Frame) (m : Station) (r : Resource) (y : Bool) (w : Wait) (ws : List Wait) (c : LocalClaim),
    HoldsWhole s f m → s.sc.state = .active → f.body = .drop (byte r.val) → s.re.members[f.sender] = .active →
    s.re.records[r].holding = .exclusive { station := f.sender, yieldable := y } →
    s.re.records[r].waits = w :: ws → w.entry.station = m → (∀ v ∈ ws, v.entry.station ≠ m) →
    (∀ v ∈ w :: ws, v.entry.station ≠ f.sender) →
    s.bu.claimFor r = some c → c.state = .waiting →
    ∃ t, exec (.windowClose false) s = .next t ∧
      t.re.records[r].holds m = true ∧
      t.bu.claimFor r = some { c.to .held with yieldSeen := t.re.records[r].yieldDemand } ∧
      (∀ (n : BindingNo) (b : BindingConfig), s.bu.config n = some b → b.enabled = true → b.resource = r →
        t.pins.gnt[n] = s.bu.request n) ∧
      t.re.members = s.re.members ∧ t.sc.state = .active ∧ BoardKept s t ∧ OutsideKept s t

/-! ### The windows of own attempts -/

/-- A rejected attempt below the third: the frame stays IN FLIGHT; the holder surrenders where it is not pinned, another
station asserts XWANT and the quota is spent, and otherwise begins the next attempt of the same frame, encoded afresh
(R107, R126 to R128). The parts of a snapshot run: while it is pinned the holder continues whatever XWANT and the quota
count say, with the same part after a failed attempt and the next part after an accepted one; part 8 accepted ends the
run; a part dropped abandons it, re-armed once, and the holding decision finds it no longer pinned (R95, R129). The
holder of a run so re-armed surrenders if XWANT is asserted and otherwise continues with part 0 of the new run; that it
surrenders also with its quota not spent is R129's sentence taken before the table of R126, log entry 25. -/
def Obligations.FailedAttemptIsRetried : Prop :=
  (∀ (s : State) (a : Attempt) (e : Entry),
    AwaitsOwnWindow s a → a.discarded = false → s.tc.state = .holding →
    s.tq.entries.find? (·.inFlight) = some e → e.attempts < 3 →
    ∃ t, exec (.ownWindowClose true) s = .next t ∧
      (if s.tc.pinned = false ∧ s.lines.xwant = true ∧ ∃ q, s.tc.q = some q ∧ q ≤ min 255 (s.tc.quota + 1) then
        t.tc.state = .served ∧ t.tc.quota = 0 ∧ t.pins.xten = .released ∧ t.xi.attempt = none ∧ t.tq = s.tq
      else
        t.tc.state = .holding ∧ t.tc.quota = min 255 (s.tc.quota + 1) ∧ t.pins.xten = .asserted ∧
        t.xi.attempt =
          some
            { frame := s.frameOf (.entry e.item), sent := .entry e.item, phase := .sending, discarded := false
              unreported := false } ∧
        t.tq = { s.tq with entries := updateFirst (·.inFlight) Entry.attempt s.tq.entries }) ∧
      t.re = s.re ∧ t.bu = s.bu ∧ t.sc = s.sc ∧ t.mp = s.mp ∧ OutsideKept s t) ∧
  (∀ (s : State) (a : Attempt) (k : Fin 9) (n : Nat),
    AwaitsOwnWindow s a → a.discarded = false → a.sent = .part k → s.tc.state = .holding →
    s.tq.entries.find? (·.inFlight) = none → s.tq.job = .running k (some n) →
    (n < 3 → s.tc.pinned = true →
      ∃ t, exec (.ownWindowClose true) s = .next t ∧
        t.tc.state = .holding ∧ t.tc.pinned = true ∧ t.tc.quota = min 255 (s.tc.quota + 1) ∧
        t.tq = { s.tq with job := .running k (some (n + 1)) } ∧
        t.xi.attempt =
          some
            { frame := s.frameOf (.part k), sent := .part k, phase := .sending, discarded := false
              unreported := false } ∧
        t.re = s.re ∧ t.bu = s.bu ∧ t.sc = s.sc ∧ t.mp = s.mp ∧ OutsideKept s t) ∧
    (n = 3 → s.xi.dropStreak < 3 →
      ∃ t, exec (.ownWindowClose true) s = .next t ∧
        (s.tq.reArm = true → t.tq.job = .clear ∧ t.tq.reArm = false ∧ t.tc.pinned = false) ∧
        (s.tq.reArm = false →
          t.tq.reArm = true ∧
            if s.lines.xwant = true then
              t.tc.state = .served ∧ t.tc.quota = 0 ∧ t.pins.xten = .released ∧ t.tq.job = .armed ∧
                t.tc.pinned = false ∧ t.xi.attempt = none
            else
              t.tc.state = .holding ∧ t.tq.job = .running 0 (some 1) ∧ t.tc.pinned = true ∧
                ∃ b, t.xi.attempt = some b ∧ b.sent = .part 0 ∧ b.phase = .sending) ∧
        t.mp.counters.framesDropped = bump s.mp.counters.framesDropped ∧ t.xi.dropStreak = s.xi.dropStreak + 1 ∧
        t.re = s.re ∧ t.bu.claims.length = s.bu.claims.length ∧ t.sc = s.sc ∧ BoardKept s t ∧ OutsideKept s t) ∧
    (s.sc.state = .active → s.re.valid = true → (∃ p, a.frame.body = .snapshot p) →
      ∃ t, exec (.ownWindowClose false) s = .next t ∧
        t.re = { s.re with count := s.re.count + 1 } ∧ t.xi.dropStreak = 0 ∧
        t.mp.counters.ownFramesApplied = bump s.mp.counters.ownFramesApplied ∧
        (∀ k' : Fin 9, k'.val = k.val + 1 → s.tc.pinned = true →
          t.tc.state = .holding ∧ t.tc.pinned = true ∧ t.tq.job = .running k' (some 1) ∧
            ∃ b, t.xi.attempt = some b ∧ b.sent = .part k' ∧ b.phase = .sending ∧
              b.frame.count = s.re.count + 1) ∧
        (k = 8 → t.tq.job = .clear ∧ t.tq.reArm = false ∧ t.tc.pinned = false) ∧
        t.sc.state = .active ∧ BoardKept s t ∧ OutsideKept s t))

/-- An own frame dropped after its third rejected attempt, below the drop limit: FRAMES DROPPED and the drop streak advance,
FRAME_DROPPED is posted, and the replica and the station state are as they were, but for a LEAVE (R109, R111). What the drop
leaves, by kind: an EXPEL and a JOIN are queued again at the tail, and a PRESENCE is not (R94); a CLAIM's record claims
afresh, or returns to NONE where it was cancelled (R66); a DROP is queued again, or, with the reclaim flag set, the record
takes its state from the replica: HELD with yield demand, WAITING, or QUEUED with a fresh CLAIM (R25, R70, R73). A LEAVE
dropped in LEAVING takes the station to DETACHED with cause LEAVE_DROPPED, before FRAME_DROPPED is posted (R137, R158). -/
def Obligations.OwnFrameDropped : Prop :=
  (∀ (s : State) (a : Attempt) (e : Entry),
    AwaitsOwnWindow s a → a.discarded = false → s.tq.entries.find? (·.inFlight) = some e → e.attempts = 3 →
    a.sent = .entry e.item → e.item ≠ .leave → s.xi.dropStreak < 3 →
    ∃ t, exec (.ownWindowClose true) s = .next t ∧
      t.xi.dropStreak = s.xi.dropStreak + 1 ∧
      t.mp.counters.framesDropped = bump s.mp.counters.framesDropped ∧
      t.mp.counters.expelsQueued = s.mp.counters.expelsQueued ∧
      (s.mp.notices.length < 31 → droppedNotice a.sent ∈ t.mp.notices) ∧
      t.re = s.re ∧ t.sc = s.sc ∧ BoardKept s t ∧ OutsideKept s t ∧
      (QueueLawful s →
        (∀ x why, e.item = .expel x why → itemsOf t.tq = itemsBeside s.tq ++ [.expel x why]) ∧
        (e.item = .join → itemsOf t.tq = itemsBeside s.tq ++ [.join]) ∧
        (e.item = .presence → itemsOf t.tq = itemsBeside s.tq) ∧
        (∀ r md cl y c, e.item = .claim r md cl y → s.bu.claimFor r = some c → c.state = .sending →
          if c.cancel = true then
            itemsOf t.tq = itemsBeside s.tq ∧ t.bu.claimFor r = some (c.to .none)
          else itemsOf t.tq = itemsBeside s.tq ++ [claimOf c] ∧ ClaimedAfresh t c) ∧
        (∀ r c m, e.item = .drop r → s.bu.claimFor r = some c → c.state = .dropping → s.xi.number = some m →
          if c.reclaim = false then
            itemsOf t.tq = itemsBeside s.tq ++ [.drop r] ∧ t.bu.claimFor r = some c
          else if s.re.valid = true ∧ s.re.records[r].holds m = true then
            itemsOf t.tq = itemsBeside s.tq ∧
              t.bu.claimFor r = some { c.to .held with yieldSeen := s.re.records[r].yieldDemand } ∧
              (s.re.records[r].yieldDemand = true → s.mp.notices.length < 31 → .yieldAsked r ∈ t.mp.notices)
          else if s.re.valid = true ∧ s.re.records[r].waitsFor m = true then
            itemsOf t.tq = itemsBeside s.tq ∧ t.bu.claimFor r = some (c.to .waiting)
          else itemsOf t.tq = itemsBeside s.tq ++ [claimOf c] ∧ ClaimedAfresh t c))) ∧
  (∀ (s : State) (a : Attempt) (e : Entry),
    AwaitsOwnWindow s a → a.discarded = false → s.tq.entries.find? (·.inFlight) = some e → e.attempts = 3 →
    a.sent = .entry .leave → s.xi.dropStreak < 3 → s.sc.state = .leaving →
    ∃ t, exec (.ownWindowClose true) s = .next t ∧
      t.sc.state = .detached ∧ t.tc.state = .offline ∧ t.tq = TransmitQueue.empty ∧ t.pins.xten = .released ∧
      t.mp.notices = ((s.mp.post (.stateChanged .detached .leaveDropped)).post (.frameDropped 6 0)).notices ∧
      t.mp.counters.framesDropped = bump s.mp.counters.framesDropped ∧ t.xi.dropStreak = s.xi.dropStreak + 1 ∧
      t.re = s.re.discardLoad ∧ t.bu = s.bu ∧ OutsideKept s t)

/-- The fourth own frame dropped in a row takes the station to ISOLATED in the same event, with the streak returned to 0,
the queue emptied, and the return mark by the state left (R109, R111, R155). -/
def Obligations.FourthDropIsolates : Prop :=
  ∀ (s : State) (a : Attempt) (e : Entry),
    AwaitsOwnWindow s a → a.discarded = false → s.tq.entries.find? (·.inFlight) = some e → e.attempts = 3 →
    s.xi.dropStreak = 3 → s.sc.state.receiverOn = true →
    ∃ t, exec (.ownWindowClose true) s = .next t ∧
      t.sc.state = .isolated ∧ t.sc.holdOffTimer = true ∧ t.sc.returnDetached = returnMark s ∧ t.xi.dropStreak = 0 ∧
      t.tq = TransmitQueue.empty ∧
      t.tc.state = .offline ∧ t.pins.xten = .released ∧
      t.mp.counters.framesDropped = bump s.mp.counters.framesDropped ∧
      (s.sc.state.inTable = true → t.re = ReplicaEngine.empty) ∧
      (∀ n : BindingNo, t.pins.gnt[n] = false ∧ t.pins.yld[n] = false) ∧
      t.bu.lines = s.bu.lines ∧ t.bu.bindings = s.bu.bindings ∧ OutsideKept s t

/-- An own CLAIM accepted on a FREE resource: the replica makes this station the holder, the local claim goes from SENDING
to HELD, GNT rises with the requests, and the counters and the drop streak follow (R31, R63, R76, R93, R108). The other
outcomes of an own CLAIM: WAITING, REFUSED and ALREADY, and each with the cancel flag set, which leaves a DROP to be sent
or, where refused, nothing (R63 to R65, R68). An own DROP accepted closes the local claim, or has it claim afresh where its
reclaim flag is set (R35, R72). -/
def Obligations.OwnClaimGranted : Prop :=
  (∀ (s : State) (a : Attempt) (m : Station) (r : Resource) (md : Mode) (cl : ClaimClass) (y : Bool) (c : LocalClaim),
    AwaitsOwnWindow s a → s.sc.state = .active → s.re.valid = true → s.xi.number = some m →
    a.frame.sender = m → a.frame.body = .claim r md cl y → s.re.members[m] = .active →
    s.re.records[r] = { holding := .free, waits := [], yieldDemand := false } →
    s.bu.claimFor r = some c → c.state = .sending → c.cancel = false →
    ∃ t, exec (.ownWindowClose false) s = .next t ∧
      t.re =
        { s.re with
          records :=
            s.re.records.set r
              { holding := Holding.free.add md { station := m, yieldable := y }, waits := [], yieldDemand := false }
          count := s.re.count + 1 } ∧
      t.bu.claimFor r = some { c.to .held with yieldSeen := false } ∧
      (∀ (n : BindingNo) (b : BindingConfig), s.bu.config n = some b → b.enabled = true → b.resource = r →
        t.pins.gnt[n] = s.bu.request n ∧ t.pins.yld[n] = false) ∧
      t.mp.counters.ownFramesApplied = bump s.mp.counters.ownFramesApplied ∧
      t.mp.counters.framesApplied = bump s.mp.counters.framesApplied ∧
      t.xi.dropStreak = 0 ∧ t.sc.state = .active ∧ BoardKept s t ∧ OutsideKept s t) ∧
  (∀ (s : State) (a : Attempt) (m : Station) (r : Resource) (md : Mode) (cl : ClaimClass) (y : Bool) (c : LocalClaim),
    AwaitsOwnWindow s a → QueueLawful s → a.discarded = false → s.sc.state = .active → s.re.valid = true →
    s.xi.number = some m → a.frame.sender = m → a.frame.body = .claim r md cl y → a.sent = .entry (.claim r md cl y) →
    s.re.members[m] = .active → RecordLawful s.re.members s.re.records[r] →
    s.bu.claimFor r = some c → c.state = .sending →
    (s.re.records[r].has m = false →
      ¬ (s.re.records[r].holding.compatible md = true ∧ NoneAhead cl s.re.records[r].waits) →
      (∃ i : Fin 96, s.re.pool[i] = false) →
      ∃ t, exec (.ownWindowClose false) s = .next t ∧
        t.re.records[r].waitsFor m = true ∧
        t.bu.claimFor r =
          some (if c.cancel then { c.to .dropping with yieldSeen := false } else c.to .waiting) ∧
        (c.cancel = true → ∃ e ∈ t.tq.entries, e.item = .drop r) ∧
        t.re.count = s.re.count + 1 ∧ t.sc.state = .active ∧ BoardKept s t ∧ OutsideKept s t) ∧
    (s.re.records[r].has m = false →
      ¬ (s.re.records[r].holding.compatible md = true ∧ NoneAhead cl s.re.records[r].waits) →
      (∀ i : Fin 96, s.re.pool[i] = true) →
      ∃ t, exec (.ownWindowClose false) s = .next t ∧
        t.re = { s.re with count := s.re.count + 1 } ∧
        t.bu.claimFor r = some (if c.cancel then c.to .none else c.to .refused) ∧
        t.mp.counters.claimsRefused = bump s.mp.counters.claimsRefused ∧
        (s.mp.notices.length < 32 →
          t.mp.notices = if c.cancel then s.mp.notices else s.mp.notices ++ [.claimRefused r]) ∧
        t.tq.entryFor r = none ∧ t.sc.state = .active ∧ BoardKept s t ∧ OutsideKept s t) ∧
    (s.re.records[r].has m = true →
      ∃ t, exec (.ownWindowClose false) s = .next t ∧
        t.re = { s.re with count := s.re.count + 1 } ∧
        t.bu.claimFor r =
          some
            (if s.re.records[r].holds m then
              { c.to (if c.cancel then .dropping else .held) with yieldSeen := s.re.records[r].yieldDemand }
            else if c.cancel then { c.to .dropping with yieldSeen := false }
            else c.to .waiting) ∧
        (c.cancel = true → ∃ e ∈ t.tq.entries, e.item = .drop r) ∧
        t.sc.state = .active ∧ BoardKept s t ∧ OutsideKept s t) ∧
    (s.re.records[r].has m = false → s.re.records[r].holding.compatible md = true →
      NoneAhead cl s.re.records[r].waits → c.cancel = true →
      ∃ t, exec (.ownWindowClose false) s = .next t ∧
        t.re.records[r].holds m = true ∧
        t.bu.claimFor r = some { c.to .dropping with yieldSeen := t.re.records[r].yieldDemand } ∧
        (∃ e ∈ t.tq.entries, e.item = .drop r) ∧
        t.re.count = s.re.count + 1 ∧ t.sc.state = .active ∧ BoardKept s t ∧ OutsideKept s t)) ∧
  (∀ (s : State) (a : Attempt) (m : Station) (r : Resource) (c : LocalClaim),
    AwaitsOwnWindow s a → QueueLawful s → a.discarded = false → s.sc.state = .active → s.re.valid = true →
    s.xi.number = some m → a.frame.sender = m → a.frame.body = .drop (byte r.val) → a.sent = .entry (.drop r) →
    s.re.members[m] = .active → s.bu.claimFor r = some c → c.state = .dropping →
    ∃ t, exec (.ownWindowClose false) s = .next t ∧
      t.re.records = s.re.records.set r (if s.re.records[r].has m then s.re.records[r].takeOut m else s.re.records[r]) ∧
      t.re.records[r].has m = false ∧ t.re.members = s.re.members ∧ t.re.count = s.re.count + 1 ∧
      (c.reclaim = false → t.bu.claimFor r = some (c.to .none) ∧ t.tq.entryFor r = none) ∧
      (c.reclaim = true →
        ∃ e ∈ t.tq.entries, e.item = .claim r c.mode c.cls c.yieldable ∧
          t.bu.claimFor r = some (c.to (if e.inFlight then .sending else .queued))) ∧
      t.sc.state = .active ∧ BoardKept s t ∧ OutsideKept s t)

/-- The station's own JOIN accepted in JOIN_PENDING founds a table when founded seen is clear and leads to AWAIT_SNAPSHOT
when it is set; its own LEAVE accepted in LEAVING leads to DETACHED (R21, R141, R142, R145, R158). Between them, at a
station without a valid replica, the accepted frames of others: in LISTENING and JOIN_PENDING a JOIN, or a frame with its
active flag set, sets founded seen (R139); in AWAIT_SNAPSHOT a SNAPSHOT part starts, continues, breaks or completes the
load, and any other frame ends one in progress, where a deadline held at its expiry then takes effect (R23, R145 to R149,
R167). In CONFIRMING its own synced PRESENCE accepted leads to ACTIVE with cause CONFIRMED: EXPEL SILENT is asked for every
watched member whose count stands at L, in ascending order, and every local claim with demand hands its CLAIM after them
(R51, R81, R93, R137, R150, R169). An own EXPEL accepted posts EXPEL_SENT, with its target taken out of the table unless it
was absent, and also where no replica is valid to apply it (R38, R171). -/
def Obligations.OwnJoinAndLeaveAccepted : Prop :=
  (∀ (s : State) (a : Attempt) (m : Station),
    AwaitsOwnWindow s a → s.re.valid = false → s.xi.number = some m →
    (a.frame.body = .join → s.sc.state = .joinPending → s.sc.foundedSeen = false →
      ∃ t, exec (.ownWindowClose false) s = .next t ∧
        t.sc.state = .active ∧ t.re = ReplicaEngine.founded m ∧
        (∀ x : Station, t.sc.silence[x] = { watched := false, count := 0 }) ∧
        t.mp.counters.ownFramesApplied = bump s.mp.counters.ownFramesApplied ∧
        t.mp.counters.framesApplied = s.mp.counters.framesApplied ∧
        t.xi.dropStreak = 0 ∧ BoardKept s t ∧ OutsideKept s t) ∧
    (a.frame.body = .join → s.sc.state = .joinPending → s.sc.foundedSeen = true →
      ∃ t, exec (.ownWindowClose false) s = .next t ∧
        t.sc.state = .awaitSnapshot ∧ t.sc.deadline = .running ∧ t.sc.tableHeard = false ∧
        t.sc.foundedSeen = true ∧ t.re = s.re.discardLoad ∧
        t.mp.counters.ownFramesApplied = bump s.mp.counters.ownFramesApplied ∧
        t.xi.dropStreak = 0 ∧ BoardKept s t ∧ OutsideKept s t) ∧
    (a.frame.body = .leave → s.sc.state = .leaving →
      ∃ t, exec (.ownWindowClose false) s = .next t ∧
        t.sc.state = .detached ∧ t.tc.state = .offline ∧ t.tq = TransmitQueue.empty ∧
        t.mp.counters.ownFramesApplied = bump s.mp.counters.ownFramesApplied ∧
        t.xi.dropStreak = 0 ∧ BoardKept s t ∧ OutsideKept s t)) ∧
  (∀ (s : State) (f : Frame) (m : Station), HearsWhole s f m →
    ((s.sc.state = .listening ∨ s.sc.state = .joinPending) → s.sc.silence[f.sender].watched = false →
      exec (.windowClose false) s =
        .next
          { s with
            xi := { s.xi with rx := .none, rejectStreak := 0 }
            sc := { s.sc with foundedSeen := s.sc.foundedSeen || f.active || f.body == .join } }) ∧
    (s.sc.state = .awaitSnapshot →
      (∀ ms, f.body = .snapshot (.members ms) →
        ∃ t, exec (.windowClose false) s = .next t ∧
          t.re = { s.re with load := some { members := ms, records := [], nextPart := 1, count := f.count + 1 } } ∧
          t.sc.state = .awaitSnapshot ∧ t.sc.deadline = s.sc.deadline ∧
          t.sc.tableHeard = (s.sc.tableHeard || f.active) ∧ t.tq = s.tq ∧ t.mp = s.mp ∧ t.bu = s.bu ∧
          OutsideKept s t) ∧
      (∀ k recs i, f.wellFormed = true → f.body = .snapshot (.records k recs) → s.re.load = some i →
        PartFollows i f.count k recs → k.val < 7 →
        ∃ t, exec (.windowClose false) s = .next t ∧
          t.re =
            { s.re with
              load :=
                some { i with records := i.records ++ recs, nextPart := i.nextPart + 1, count := i.count + 1 } } ∧
          t.sc.state = .awaitSnapshot ∧ t.sc.deadline = s.sc.deadline ∧
          t.sc.tableHeard = (s.sc.tableHeard || f.active) ∧ t.tq = s.tq ∧ t.mp = s.mp ∧ t.bu = s.bu ∧
          OutsideKept s t) ∧
      (∀ recs i, f.wellFormed = true → ImageLawful i → f.body = .snapshot (.records 7 recs) → s.re.load = some i →
        PartFollows i f.count 7 recs →
        ∃ t, exec (.windowClose false) s = .next t ∧
          (i.members[m] = .joining →
            t.sc.state = .confirming ∧ LoadedFrom t.re i recs ∧ (∃ e ∈ t.tq.entries, e.item = .presence) ∧
              ∀ x : Station,
                t.sc.silence[x] = { watched := decide (i.members[x] ≠ .absent ∧ x ≠ m), count := 0 }) ∧
          (i.members[m] ≠ .joining → (∀ e ∈ s.tq.entries, e.item.isJoinOrLeave = false) →
            t.sc.state = .joinPending ∧ t.re = ReplicaEngine.empty ∧ t.tq.entries.map (·.item) = [.join] ∧
              t.sc.foundedSeen = s.sc.foundedSeen ∧ ∀ c ∈ t.bu.claims, c.state = .none) ∧
          t.bu.lines = s.bu.lines ∧ t.bu.bindings = s.bu.bindings ∧ OutsideKept s t) ∧
      (((∃ k recs, f.wellFormed = true ∧ f.body = .snapshot (.records k recs) ∧
            ∀ i ∈ s.re.load, ¬ PartFollows i f.count k recs) ∨
          ((∀ p, f.body ≠ .snapshot p) ∧ s.re.load.isSome = true)) →
        ∃ t, exec (.windowClose false) s = .next t ∧ t.re = { s.re with load := none } ∧
          (s.sc.deadline ≠ .held →
            t.sc.state = .awaitSnapshot ∧ t.sc.deadline = s.sc.deadline ∧ t.tq = s.tq ∧ t.mp = s.mp) ∧
          (s.sc.deadline = .held → s.sc.tableHeard = true ∨ f.active = true →
            t.sc.state = .joinPending ∧ t.sc.foundedSeen = s.sc.foundedSeen ∧
              ((∀ e ∈ s.tq.entries, e.item.isJoinOrLeave = false) →
                t.tq.entries.map (·.item) = s.tq.entries.map (·.item) ++ [.join])) ∧
          (s.sc.deadline = .held → s.sc.tableHeard = false → f.active = false →
            t.sc.state = .listening ∧ t.sc.foundedSeen = false ∧ t.tq = TransmitQueue.empty) ∧
          BoardKept s t ∧ OutsideKept s t) ∧
      ((∀ p, f.body ≠ .snapshot p) → s.re.load = none →
        ∃ t, exec (.windowClose false) s = .next t ∧ t.re = s.re ∧ t.sc.state = .awaitSnapshot ∧
          t.sc.deadline = s.sc.deadline ∧ t.sc.tableHeard = (s.sc.tableHeard || f.active) ∧ t.tq = s.tq ∧
          t.mp = s.mp ∧ t.bu = s.bu ∧ OutsideKept s t))) ∧
  (∀ (s : State) (a : Attempt) (m : Station) (p : StationParams) (d : Half),
    AwaitsOwnWindow s a → QueueLawful s → a.discarded = false → a.sent = .entry .presence →
    s.sc.state = .confirming → s.re.valid = true → s.xi.number = some m → a.frame.sender = m →
    a.frame.body = .presence true d → s.re.members[m] = .joining → s.sc.params = some p →
    (∀ c ∈ s.bu.claims, c.state = .none ∧ s.tq.entryFor c.resource = none) →
    let due :=
      allStations.filter fun x =>
        s.sc.silence[x].watched && s.sc.silence[x].count == p.limit && !s.tq.holdsExpel x
    ∃ t, exec (.ownWindowClose false) s = .next t ∧
      t.sc.state = .active ∧
      t.re = { s.re with members := s.re.members.set m .active, count := s.re.count + 1, load := none } ∧
      itemsOf t.tq =
        itemsBeside s.tq ++ due.map (Item.expel · .silent) ++ (s.bu.claims.filter s.bu.demand).map claimOf ∧
      (∀ c ∈ s.bu.claims,
        if s.bu.demand c = true then ClaimedAfresh t c else t.bu.claimFor c.resource = some c) ∧
      t.sc.silence = s.sc.silence ∧ t.sc.satisfied = true ∧
      t.mp.notices = (s.mp.post (.stateChanged .active .confirmed)).notices ∧
      t.mp.counters.expelsQueued = bump^[due.length] s.mp.counters.expelsQueued ∧
      t.mp.counters.ownFramesApplied = bump s.mp.counters.ownFramesApplied ∧
      t.mp.counters.framesApplied = bump s.mp.counters.framesApplied ∧
      t.xi.dropStreak = 0 ∧ BoardKept s t ∧ OutsideKept s t) ∧
  (∀ (s : State) (a : Attempt) (m x : Station) (why : ExpelReason),
    AwaitsOwnWindow s a → s.xi.number = some m → a.frame.sender = m → a.frame.body = .expel x why → x ≠ m →
    (s.sc.state = .active → s.re.valid = true → s.re.members[m] = .active →
      ∃ t, exec (.ownWindowClose false) s = .next t ∧
        (t.mp.notices.getLast? = some (.expelSent x why) ∨ 32 ≤ t.mp.notices.length) ∧
        (s.re.members[x] ≠ .absent →
          (∀ r : Resource, t.re.records[r] = s.re.records[r].takeOut x) ∧
            t.re.members = s.re.members.set x .absent ∧ t.re.count = s.re.count + 1 ∧
            t.sc.silence[x] = { watched := false, count := 0 }) ∧
        (s.re.members[x] = .absent → t.re = { s.re with count := s.re.count + 1 }) ∧
        (QueueLawful s → a.discarded = false → a.sent = .entry (.expel x why) → t.tq.holdsExpel x = false) ∧
        t.mp.counters.ownFramesApplied = bump s.mp.counters.ownFramesApplied ∧
        t.xi.dropStreak = 0 ∧ t.sc.state = .active ∧ BoardKept s t ∧ OutsideKept s t) ∧
    (s.re.valid = false → (s.sc.state = .awaitSnapshot → s.re.load = none) →
      ∃ t, exec (.ownWindowClose false) s = .next t ∧
        t.mp.notices = (s.mp.post (.expelSent x why)).notices ∧ t.re = s.re ∧ t.sc.state = s.sc.state ∧
        t.mp.counters.ownFramesApplied = bump s.mp.counters.ownFramesApplied ∧
        t.xi.dropStreak = 0 ∧ BoardKept s t ∧ OutsideKept s t))

/-! ### Tenure -/

/-- CONTENTION_CLOSES at a contender: no lower contender makes it the winner, which holds with quota 0, or parks or
surrenders at once where it has no work; a lower contender makes it DEFERRED with XWANT asserted where it has work, and
IDLE where it has none. At an IDLE station that did not contend the bus is TAKEN or FREE with the line (R119, R121,
R122, R126). The operand, and XTEN as the others drive it after the close, asserted by a lower contender and by a twin
with the same number, which wins as well, are the model's reading of R121, R122 and R133, log entry 15. -/
def Obligations.ContentionCloses : Prop :=
  ∀ (s : State) (m : Station) (other : Option Station),
    Settled s → s.xi.number = some m → s.tc.bus = some .contention →
    (s.tc.state = .contending → (∀ o, other = some o → m ≤ o) →
      ∃ t, exec (.contentionCloses other) s = .next t ∧
        (s.tc.hasWork = true → t.tc.state = .holding ∧ t.pins.xten = .asserted) ∧
        (s.tc.hasWork = false → s.tc.pinned = false →
          t.tc.state = if s.lines.xwant then .served else .parked) ∧
        t.tc.quota = 0 ∧ t.tc.cameFromDeferred = false ∧ t.pins.xwant = false ∧
        t.lines = { s.lines with xten := decide (other = some m) } ∧
        t.re = s.re ∧ t.sc = s.sc ∧ t.mp = s.mp ∧ t.cl = s.cl ∧ BoardKept s t) ∧
    (∀ o, s.tc.state = .contending → other = some o → o < m →
      ∃ t, exec (.contentionCloses other) s = .next t ∧
        t.tc =
          { s.tc with
            state := if s.tc.hasWork then .deferred else .idle, cameFromDeferred := false, bus := some .taken } ∧
        t.pins.xten = .released ∧ t.pins.xwant = s.tc.hasWork ∧ t.lines.xten = true ∧
        t.tq = s.tq ∧ t.re = s.re ∧ t.sc = s.sc ∧ t.mp = s.mp ∧ t.cl = s.cl ∧ t.bu = s.bu) ∧
    (s.tc.state = .idle →
      exec (.contentionCloses other) s =
        .next
          { s with
            lines := { s.lines with xten := other.isSome }
            tc :=
              { s.tc with
                bus := if other.isSome then some .taken else some .free
                quietWatch := s.tc.quietWatch && other.isSome } })

/-- XTEN as other stations drive it: at an IDLE station an assertion on a FREE bus opens a contention and a release of a
TAKEN bus makes it FREE; a station that came online reading TAKEN reads FREE only after a long release; and a DEFERRED
station contends when the bus becomes FREE, with XWANT kept asserted (R118, R119, R123, R133). -/
def Obligations.TenureLineIsRead : Prop :=
  ∀ s : State, Settled s →
    (s.tc.state = .idle → s.tc.bus = some .free →
      exec .xtenAsserted s =
        .next { s with lines := { s.lines with xten := true }, tc := { s.tc with bus := some .contention } }) ∧
    (s.tc.state = .idle → s.tc.bus = some .taken →
      exec .xtenReleased s =
        .next
          { s with
            lines := { s.lines with xten := false }
            tc := if s.tc.quietWatch then s.tc else { s.tc with bus := some .free, quietWatch := false } }) ∧
    (s.tc.state = .deferred → s.tc.bus = some .taken → s.tc.quietWatch = false →
      exec .xtenReleased s =
        .next
          { s with
            lines := { s.lines with xten := false }
            tc :=
              { s.tc with
                state := .contending, cameFromDeferred := true, bus := some .contention, quietWatch := false }
            pins := { s.pins with xten := .rankMarks, xwant := true } }) ∧
    (s.powered = true → s.tc.state = .idle → s.tc.bus = some .taken → s.tc.quietWatch = true →
      s.lines.xten = false →
      exec .busQuietExpired s = .next { s with tc := { s.tc with bus := some .free, quietWatch := false } })

/-- XWANT as other stations drive it: an assertion makes a PARKED holder surrender, a release takes a SERVED station to
IDLE and, where it has work, on to what IDLE does; in the other tenure states the line alone changes (R130 to R132). -/
def Obligations.DemandLineIsRead : Prop :=
  ∀ s : State, Settled s →
    (s.tc.state = .parked →
      exec .xwantAsserted s =
        .next
          { s with
            lines := { s.lines with xwant := true }
            tc :=
              { s.tc with state := .served, quota := 0, bus := if s.lines.xten then some .taken else some .free }
            pins := { s.pins with xten := .released, xwant := false } }) ∧
    (s.tc.state ≠ .parked →
      exec .xwantAsserted s = .next { s with lines := { s.lines with xwant := true } }) ∧
    (s.tc.state = .served → s.tc.hasWork = false →
      exec .xwantReleased s =
        .next { s with lines := { s.lines with xwant := false }, tc := { s.tc with state := .idle } }) ∧
    (s.tc.state = .served → s.tc.hasWork = true → s.tc.bus = some .taken →
      exec .xwantReleased s =
        .next
          { s with
            lines := { s.lines with xwant := false }, tc := { s.tc with state := .deferred }
            pins := { s.pins with xwant := true } }) ∧
    (s.tc.state = .served → s.tc.hasWork = true → s.tc.bus = some .free →
      exec .xwantReleased s =
        .next
          { s with
            lines := { s.lines with xwant := false }
            tc := { s.tc with state := .contending, cameFromDeferred := false, bus := some .contention }
            pins := { s.pins with xten := .rankMarks } }) ∧
    (s.tc.state ≠ .served →
      exec .xwantReleased s = .next { s with lines := { s.lines with xwant := false } })

/-- The holding decision of R126, made on the report of an attempt whose entry had been discarded (R112): the quota count
advances, staying at 255, and the holder continues, parks or surrenders by the table. That the table alone decides after a
run that a purge has ended, also with the count below Q, is the model's choice between R126 and R129, log entry 25. -/
def Obligations.HoldingDecisionTable : Prop :=
  ∀ (s : State) (a : Attempt),
    AwaitsOwnWindow s a → a.discarded = true → s.tc.state = .holding →
    ∃ t, exec (.ownWindowClose true) s = .next t ∧
      t.tc.state =
        (if s.tc.pinned = true then .holding
        else if s.tq.hasWork = true then
          if s.lines.xwant = true ∧ ∃ q, s.tc.q = some q ∧ q ≤ min 255 (s.tc.quota + 1) then .served else .holding
        else if s.lines.xwant = true then .served else .parked) ∧
      t.tc.quota = (if t.tc.state = .served then 0 else min 255 (s.tc.quota + 1)) ∧
      t.pins.xten = (if t.tc.state = .served then .released else .asserted) ∧ t.pins.xwant = false ∧
      t.xi.dropStreak = s.xi.dropStreak ∧ t.re = s.re ∧ t.sc = s.sc ∧ t.mp = s.mp ∧ BoardKept s t ∧ OutsideKept s t

/-! ### Timers -/

/-- LISTEN_TIMER_EXPIRED: the timer stops, a JOIN is queued, JOIN_PENDING is entered with the presence duty begun and
founded seen kept, and the IDLE tenure controller contends, or defers where the bus is TAKEN (R140, R163). -/
def Obligations.ListenTimerLeadsToJoin : Prop :=
  ∀ s : State, s.powered = true → Settled s → s.sc.state = .listening → s.sc.listenTimer = true →
    s.tq = TransmitQueue.empty → s.tc.state = .idle → s.tc.bus ≠ none →
    ∃ t, exec .listenTimerExpired s = .next t ∧
      t.sc.state = .joinPending ∧ t.sc.listenTimer = false ∧ t.sc.foundedSeen = s.sc.foundedSeen ∧
      t.sc.presenceTimer = true ∧ t.sc.satisfied = false ∧
      t.tq = TransmitQueue.empty.append .join ∧
      t.tc.state = (if s.tc.bus = some .taken then .deferred else .contending) ∧
      t.mp = s.mp.post (.stateChanged .joinPending .listenEnded) ∧
      t.re = s.re.discardLoad ∧ t.bu = s.bu ∧ OutsideKept s t

/-- SNAPSHOT_DEADLINE_EXPIRED: held while a load is in progress; otherwise, where the table was heard, JOIN_PENDING with a
new JOIN behind the frames held (where a JOIN or LEAVE is held already, which no run has in this state, none is added, R92),
and where it was not, LISTENING with the queue emptied and founded seen clear (R138, R146, R148). -/
def Obligations.SnapshotDeadlineTakesEffect : Prop :=
  ∀ s : State, s.powered = true → Settled s → s.sc.state = .awaitSnapshot → s.sc.deadline = .running →
    (s.re.load.isSome = true →
      exec .snapshotDeadlineExpired s = .next { s with sc := { s.sc with deadline := .held } }) ∧
    (s.re.load = none → s.sc.tableHeard = true →
      ∃ t, exec .snapshotDeadlineExpired s = .next t ∧
        t.sc.state = .joinPending ∧ t.sc.deadline = .stopped ∧ t.sc.tableHeard = false ∧
        t.sc.foundedSeen = s.sc.foundedSeen ∧ (∃ e ∈ t.tq.entries, e.item.isJoinOrLeave = true) ∧
        ((∀ e ∈ s.tq.entries, e.item.isJoinOrLeave = false) →
          t.tq.entries.map (·.item) = s.tq.entries.map (·.item) ++ [.join]) ∧
        t.mp = s.mp.post (.stateChanged .joinPending .deadline) ∧ t.re = s.re ∧ BoardKept s t ∧ OutsideKept s t) ∧
    (s.re.load = none → s.sc.tableHeard = false →
      ∃ t, exec .snapshotDeadlineExpired s = .next t ∧
        t.sc.state = .listening ∧ t.sc.listenTimer = true ∧ t.sc.foundedSeen = false ∧ t.sc.deadline = .stopped ∧
        t.sc.presenceTimer = false ∧ t.tq = TransmitQueue.empty ∧
        t.mp = s.mp.post (.stateChanged .listening .noTableHeard) ∧ t.re = s.re ∧ t.bu = s.bu ∧ OutsideKept s t)

/-- HOLD_OFF_EXPIRED: to DETACHED where the return mark is set, else to LISTENING with the tenure controller online in
IDLE and the bus read from XTEN; the mark is cleared (R117, R118, R156). That the level of XTEN alone decides, also in a gap
between the rank marks of an open contention, is the model's choice, log entry 26. Until then the station in ISOLATED
drives nothing on the bus, receives nothing, and holds its binding outputs low (R104, R156), in the states that the laws of
its parts and of the bus leave. -/
def Obligations.HoldOffEnds : Prop :=
  (∀ s : State, Settled s → PartsLawful s → SendsOnlyHolding s → s.sc.state = .isolated →
    s.pins.pair = .undriven ∧ s.pins.xten = .released ∧ s.pins.xwant = false ∧ s.xi.rx = .none ∧
      exec .startMarkSeen s = .next s ∧
      (∀ n : BindingNo, s.pins.gnt[n] = false ∧ s.pins.yld[n] = false)) ∧
  ∀ s : State, s.powered = true → s.sc.state = .isolated → s.sc.holdOffTimer = true → s.tc.state = .offline →
    ∃ t, exec .holdOffExpired s = .next t ∧
      t.sc.state = (if s.sc.returnDetached then .detached else .listening) ∧
      t.sc.returnDetached = false ∧ t.sc.holdOffTimer = false ∧ t.tq = TransmitQueue.empty ∧
      t.sc.listenTimer = !s.sc.returnDetached ∧
      (s.sc.returnDetached = true → t.tc.state = .offline) ∧
      (s.sc.returnDetached = false →
        t.tc.state = .idle ∧ t.tc.bus = (if s.lines.xten then some .taken else some .free)) ∧
      t.mp =
        s.mp.post (.stateChanged (if s.sc.returnDetached then .detached else .listening) .holdOffEnded) ∧
      t.xi.rejectStreak = s.xi.rejectStreak ∧ t.xi.dropStreak = s.xi.dropStreak ∧
      t.re = s.re.discardLoad ∧ t.bu = s.bu ∧ OutsideKept s t

/-- PERIOD_END: where the presence-satisfied mark is clear a PRESENCE is held afterwards, added unless one was held; where
it is set none is added; the mark is cleared. In CONFIRMING and ACTIVE every watched count below the limit advances by
one; in ACTIVE each that reaches it has an EXPEL held, and no other EXPEL is added (R91, R92, R164, R165, R169). -/
def Obligations.PeriodEndDuties : Prop :=
  ∀ (s : State) (l : Nat), s.powered = true → s.sc.presenceTimer = true → s.limit = some l →
    ∃ t, exec .periodEnd s = .next t ∧
      t.sc.satisfied = false ∧ t.sc.presenceTimer = true ∧ t.sc.state = s.sc.state ∧
      (s.sc.satisfied = false → ∃ e ∈ t.tq.entries, e.item = .presence) ∧
      (t.tq.entries.map (·.item)).filter (· == .presence) =
        (s.tq.entries.map (·.item)).filter (· == .presence) ++
          (if s.sc.satisfied = true ∨ ∃ e ∈ s.tq.entries, e.item = .presence then [] else [.presence]) ∧
      (s.sc.state ≠ .active →
        t.tq.entries.map (·.item) =
          s.tq.entries.map (·.item) ++
            (if s.sc.satisfied = true ∨ ∃ e ∈ s.tq.entries, e.item = .presence then [] else [.presence])) ∧
      (s.sc.state = .active → ∀ x : Station,
        t.tq.holdsExpel x =
          (s.tq.holdsExpel x || (s.sc.silence[x].watched && decide (s.sc.silence[x].count + 1 = l)))) ∧
      (∀ x : Station,
        t.sc.silence[x] =
          if s.sc.state.inTable = true ∧ s.sc.silence[x].watched = true ∧ s.sc.silence[x].count < l then
            { watched := true, count := s.sc.silence[x].count + 1 }
          else s.sc.silence[x]) ∧
      (s.sc.state = .active → ∀ x : Station,
        s.sc.silence[x].watched = true → s.sc.silence[x].count + 1 = l → t.tq.holdsExpel x = true) ∧
      t.re = s.re ∧ BoardKept s t ∧ OutsideKept s t

/-! ### Configuration -/

/-- The seven checks of R180 together: an image is valid exactly when every field is in range, no reserved bit of a byte B
is set, enabled bindings on one resource agree, and the image check holds. -/
def Obligations.ImageValidity : Prop :=
  ∀ img : Vector Byte 30,
    validate img = .valid ↔
      img[0].toNat ≤ 7 ∧ (3 ≤ img[1].toNat ∧ img[1].toNat ≤ 15) ∧ (1 ≤ img[2].toNat ∧ img[2].toNat ≤ 8) ∧
      img[3].toNat ≤ 1 ∧ (∀ n : BindingNo, (byteB img n).toNat < 16) ∧
      (∀ n k : BindingNo, (bindingOf img n).enabled = true → (bindingOf img k).enabled = true →
        (bindingOf img n).resource = (bindingOf img k).resource →
        (bindingOf img n).mode = (bindingOf img k).mode ∧ (bindingOf img n).cls = (bindingOf img k).cls ∧
          (bindingOf img n).yieldable = (bindingOf img k).yieldable) ∧
      checkOf (img.toList.take 28) = half img[28] img[29]

/-- A valid image, answered by the memory in READING or validated by START in CONFIG, is frozen: each value goes to its
block, the Local Claim Table is built, the live fields are kept, and the station listens (R53, R57, R179, R181). That the
image read is not written into the staging image, and that the count of failed reads stands, is the model's reading, log
entry 19. -/
def Obligations.ValidImageIsFrozen : Prop :=
  ∀ (s : State) (img : Vector Byte 30), s.powered = true → validate img = .valid →
    (s.cl.state = .reading →
      ∃ t, exec (.memoryReadAnswered img) s = .next t ∧
        t.cl = { s.cl with state := .frozen } ∧
        t.sc.state = .listening ∧ t.sc.listenTimer = true ∧ t.sc.params = some (paramsOf img) ∧
        t.tc.q = some img[2].toNat ∧
        t.bu = { s.bu with bindings := some (bindingsOf img), claims := localClaims (bindingsOf img) } ∧
        t.tq = TransmitQueue.empty ∧ t.re = s.re.discardLoad ∧
        t.mp = s.mp.post (.stateChanged .listening .configured) ∧ t.pins.cfg = .rest ∧ t.lines = s.lines) ∧
    (s.sc.state = .config → s.cl.staging = img → PortReady s →
      ∃ t, exec .start s = .next t ∧
        t.cl = { s.cl with state := .frozen } ∧
        t.sc.state = .listening ∧ t.sc.listenTimer = true ∧ t.sc.params = some (paramsOf img) ∧
        t.tc.q = some img[2].toNat ∧
        t.bu = { s.bu with bindings := some (bindingsOf img), claims := localClaims (bindingsOf img) } ∧
        t.tq = TransmitQueue.empty ∧ t.re = s.re.discardLoad ∧
        t.mp.transaction = some { received := [17], response := some [0] } ∧ t.lines = s.lines)

/-- A refused image, read from the memory or started in CONFIG, leaves the station in FAULT with the reason, the loader EMPTY
and the detail kept; nothing is handed to the binding unit, and START is answered OK (R179, R180, R182). That the loader's
staging image and its count of failed reads are then 0 is the model's reading, log entry 19; that the binding unit keeps
its line levels is the model's choice between R53 and R54, log entry 13; that the reason stands in the station controller
and not in the loader is its choice between R135 and R180, log entry 31. -/
def Obligations.RefusedImageFaults : Prop :=
  ∀ (s : State) (img : Vector Byte 30), s.powered = true →
    (s.cl.state = .reading →
      (∀ check binding, validate img = .invalid check binding →
        ∃ t, exec (.memoryReadAnswered img) s = .next t ∧
          t.sc.state = .fault ∧ t.sc.fault = .configInvalid ∧
          t.cl =
            { ConfigLoader.reset with
              detail := { check := check, binding := binding }, failedAt := s.cl.failedAt } ∧
          t.mp = s.mp.post (.stateChanged .fault .configInvalid) ∧
          t.bu = s.bu ∧ t.tc.state = .offline ∧ t.pins.cfg = .rest ∧ t.lines = s.lines) ∧
      (validate img = .badCheck →
        ∃ t, exec (.memoryReadAnswered img) s = .next t ∧
          t.sc.state = .fault ∧ t.sc.fault = .imageCheck ∧
            t.cl = { ConfigLoader.reset with failedAt := s.cl.failedAt } ∧
          t.mp = s.mp.post (.stateChanged .fault .imageCheck) ∧
          t.bu = s.bu ∧ t.tc.state = .offline ∧ t.pins.cfg = .rest ∧ t.lines = s.lines)) ∧
    (s.sc.state = .config → s.cl.staging = img → PortReady s →
      (∀ check binding, validate img = .invalid check binding →
        ∃ t, exec .start s = .next t ∧
          t.sc.state = .fault ∧ t.sc.fault = .configInvalid ∧
          t.cl =
            { ConfigLoader.reset with
              detail := { check := check, binding := binding }, failedAt := s.cl.failedAt } ∧
          t.mp.transaction = some { received := [17], response := some [0] } ∧
          t.mp.notices = (s.mp.post (.stateChanged .fault .configInvalid)).notices ∧
          t.bu = s.bu ∧ t.tc.state = .offline ∧ t.lines = s.lines) ∧
      (validate img = .badCheck →
        ∃ t, exec .start s = .next t ∧
          t.sc.state = .fault ∧ t.sc.fault = .imageCheck ∧
            t.cl = { ConfigLoader.reset with failedAt := s.cl.failedAt } ∧
          t.mp.transaction = some { received := [17], response := some [0] } ∧
          t.mp.notices = (s.mp.post (.stateChanged .fault .imageCheck)).notices ∧
          t.bu = s.bu ∧ t.tc.state = .offline ∧ t.lines = s.lines))

/-- A read of the memory that does not answer ends with a stop condition at its point of failure and is made again, and
after the third the station is in FAULT with reason MEMORY_ABSENT (R178, R182). The point of failure is a free value that
the model's count picks, log entry 30; what the loader has put on its lines then is given for each point. The count of
failed reads, and the loader's values after the third, are the model's reading, log entry 19; that the binding unit keeps its line levels is the model's choice between R53 and R54, log entry 13. -/
def Obligations.UnansweredReads : Prop :=
  (∀ s : State, s.powered = true → Settled s → s.cl.state = .reading →
    let w := Config.memoryFailure s.unanswered
    (s.cl.failedReads < 2 →
      exec .memoryReadNotAnswered s =
        .next
          { s with
            unanswered := s.unanswered + 1
            cl := { s.cl with failedReads := s.cl.failedReads + 1, failedAt := some w }
            pins := { s.pins with cfgEnded := failedReadItems w } }) ∧
    (s.cl.failedReads = 2 →
      ∃ t, exec .memoryReadNotAnswered s = .next t ∧
        t.sc.state = .fault ∧ t.sc.fault = .memoryAbsent ∧ t.cl = { ConfigLoader.reset with failedAt := some w } ∧
        t.mp = s.mp.post (.stateChanged .fault .memoryAbsent) ∧ t.unanswered = s.unanswered + 1 ∧
        t.bu = s.bu ∧ t.tc.state = .offline ∧ t.pins.cfg = .rest ∧ t.pins.cfgRead = [] ∧
        t.pins.cfgEnded = failedReadItems w ∧ t.lines = s.lines)) ∧
  (failedReadItems .heldAtStart = [.clocks 9, .stop, .stop] ∧
    failedReadItems .writeSelection = [.clocks 9, .stop, .start, .send 116, .stop] ∧
    failedReadItems .wordAddress = [.clocks 9, .stop, .start, .send 116, .send 0, .stop] ∧
    failedReadItems .heldAtRepeatedStart = [.clocks 9, .stop, .start, .send 116, .send 0, .stop] ∧
    failedReadItems .readSelection =
      [.clocks 9, .stop, .start, .send 116, .send 0, .repeatedStart, .send 117, .stop])

/-! ### The management port -/

/-- MCS_ASSERTED begins a transaction with MSO driven, MCS_RELEASED ends it and clears a pending pop, POP NOTICE gives the
oldest notice and leaves it at the head (EMPTY when there is none), POP_COMPLETE removes it, and CLEAR COUNTERS clears all
eight; nothing outside the port changes (R183, R184, R193 to R195). Each management command is picked by its command byte
and taken with its last argument byte, whatever follows, and not before; MSO then carries 0 for the bytes received, the
response with its status first, and 0 after its end (R184, R185). -/
def Obligations.TransactionsAndNotices : Prop :=
  ∀ s : State, Settled s →
    (s.powered = true → s.sc.state ≠ .reset → s.mp.transaction = none →
      exec .mcsAsserted s =
        .next
          { s with
            mp := { s.mp with transaction := some { received := [], response := none }, msoDriven := true } }) ∧
    exec .mcsReleased s =
      .next { s with mp := { s.mp with transaction := none, pendingPop := none, msoDriven := false } } ∧
    (PortReady s → s.mp.notices = [] → exec .popNotice s = .next { s with mp := taken s [7] [4] }) ∧
    (∀ n ns, PortReady s → s.mp.notices = n :: ns →
      exec .popNotice s = .next { s with mp := { taken s [7] (0 :: n.bytes) with pendingPop := some n } }) ∧
    (∀ n ns, s.mp.pendingPop = some n → s.mp.notices = n :: ns →
      exec .popComplete s =
        .next { s with mp := { s.mp with pendingPop := none, notices := ns, attn := !ns.isEmpty } }) ∧
    (PortReady s →
      exec .clearCounters s = .next { s with mp := { taken s [6] [0] with counters := Counters.zero } }) ∧
    (∀ (c : Instr) (bytes : List Byte), PortReady s → s.mp.msoDriven = true → c.wellFormed = true →
      c.commandBytes = some bytes →
      (∀ more : List Byte, commandTaken (bytes ++ more) = some c) ∧
        (∀ k, k < bytes.length → commandTaken (bytes.take k) = none) ∧
        ∃ t response, exec c s = .next t ∧
          t.mp.transaction = some { received := bytes, response := some response } ∧
          ∀ i, t.mp.msoByte i = some (if i < bytes.length then 0 else response.getD (i - bytes.length) 0))

/-- The answers of the six reads where they are OK: the bytes of R185, R188 to R190 and R195, with nothing else changed
(R187); of READ BINDING each bit by itself, with the local claim of an enabled binding and zeros for another (R83). That READ STATUS gathers the parts of its four owners in one event is the model's choice, log entry 16. -/
def Obligations.ReadsAreAnswered : Prop :=
  ∀ s : State, PortReady s →
    (∀ m, s.xi.number = some m →
      exec .readStatus s =
        .next
          { s with
            mp :=
              taken s [1]
                [0, byte m.val, s.sc.state.code, if s.sc.state = .fault then s.sc.fault.code else 0,
                  byte s.cl.detail.check,
                  match s.cl.detail.binding with
                  | some b => byte b.val
                  | none => 255,
                  s.tc.state.code, hiByte (if s.re.valid then s.re.count else 0),
                  loByte (if s.re.valid then s.re.count else 0),
                  match s.re.reference with
                  | some x => byte x.val
                  | none => 255,
                  byte s.mp.notices.length] }) ∧
    (s.re.valid = true →
      exec .readMembers s = .next { s with mp := taken s [2] (0 :: memberBytes s.re.members) }) ∧
    (∀ (r : Resource) (b : Byte), b.toNat = r.val → s.re.valid = true →
      exec (.readResource b) s =
        .next
          { s with
            mp :=
              taken s [3, b]
                (0 :: (s.re.records[r].toWire.bytes ++ [if s.re.records[r].yieldDemand then 1 else 0])) }) ∧
    (∀ (n : BindingNo) (b : Byte) (c : BindingConfig), b.toNat = n.val → s.bu.config n = some c →
      let byteA := (if c.enabled then 128 else 0) + c.resource.val
      let byteB :=
        (if c.mode = .exclusive then 1 else 0) + (if c.cls = .urgent then 2 else 0) +
          (if c.yieldable then 4 else 0) + (if c.trigger = .latched then 8 else 0)
      let line :=
        (if s.bu.lines[n] then 1 else 0) + (if s.bu.request n then 2 else 0) + (if s.bu.latches[n] then 4 else 0) +
          (if s.pins.gnt[n] then 8 else 0) + (if s.pins.yld[n] then 16 else 0)
      (∀ l, c.enabled = true → s.bu.claimFor c.resource = some l →
        exec (.readBinding b) s =
          .next
            { s with
              mp :=
                taken s [4, b]
                  [0, byte byteA, byte byteB,
                    byte (line + if ∃ k ∈ l.bindings, s.bu.request k = true then 32 else 0),
                    match l.state with
                    | .none => 0
                    | .queued => 1
                    | .sending => 2
                    | .waiting => 3
                    | .held => 4
                    | .dropping => 5
                    | .refused => 6,
                    byte
                      ((if l.cancel then 1 else 0) + (if l.reclaim then 2 else 0) + if l.yieldSeen then 4 else 0)] }) ∧
        (c.enabled = false →
          exec (.readBinding b) s =
            .next { s with mp := taken s [4, b] [0, byte byteA, byte byteB, byte line, 0, 0] })) ∧
    exec .readCounters s = .next { s with mp := taken s [5] (0 :: s.mp.counters.bytes) } ∧
    (∀ offset number : Byte, s.sc.state = .config → offset.toNat ≤ 29 → offset.toNat + number.toNat ≤ 30 →
      exec (.readConfig offset number) s =
        .next
          { s with
            mp :=
              taken s [8, offset, number]
                (0 :: (s.cl.staging.toList.drop offset.toNat).take number.toNat) })

/-- The refusals of the reads: BAD_ARGUMENT for an argument out of range, decided before any state is looked at, NO_TABLE
without a valid replica, WRONG_STATE before the freeze and outside CONFIG; and BAD_ARGUMENT for an unknown command. The
status byte alone is answered and nothing changes (R25, R83, R185, R186). -/
def Obligations.ReadsAreRefused : Prop :=
  ∀ s : State, PortReady s →
    (s.re.valid = false → exec .readMembers s = .next { s with mp := taken s [2] [3] }) ∧
    (∀ b : Byte, 63 < b.toNat → exec (.readResource b) s = .next { s with mp := taken s [3, b] [2] }) ∧
    (∀ b : Byte, b.toNat ≤ 63 → s.re.valid = false →
      exec (.readResource b) s = .next { s with mp := taken s [3, b] [3] }) ∧
    (∀ b : Byte, 11 < b.toNat → exec (.readBinding b) s = .next { s with mp := taken s [4, b] [2] }) ∧
    (∀ b : Byte, b.toNat ≤ 11 → s.bu.bindings = none →
      exec (.readBinding b) s = .next { s with mp := taken s [4, b] [1] }) ∧
    (∀ offset number : Byte, 29 < offset.toNat ∨ 30 < offset.toNat + number.toNat →
      exec (.readConfig offset number) s = .next { s with mp := taken s [8, offset, number] [2] }) ∧
    (∀ offset number : Byte, offset.toNat ≤ 29 → offset.toNat + number.toNat ≤ 30 → s.sc.state ≠ .config →
      exec (.readConfig offset number) s = .next { s with mp := taken s [8, offset, number] [1] }) ∧
    (∀ code : Byte, (Instr.unknownCommand code).wellFormed = true →
      exec (.unknownCommand code) s = .next { s with mp := taken s [code] [2] })

/-- WRITE CONFIG in CONFIG writes its data bytes into the staging image from its offset and is answered OK; out of range it
is answered BAD_ARGUMENT and outside CONFIG WRONG_STATE, and writes nothing (R179, R186, R191). -/
def Obligations.WriteConfigFillsTheStagingImage : Prop :=
  ∀ (s : State) (offset number : Byte) (data : List Byte), Settled s → PortReady s →
    (Instr.writeConfig offset number data).wellFormed = true →
    (s.sc.state = .config → offset.toNat ≤ 29 → offset.toNat + number.toNat ≤ 30 →
      ∃ img : Vector Byte 30,
        exec (.writeConfig offset number data) s =
          .next
            { s with
              cl := { s.cl with staging := img }
              mp := taken s ([16, offset, number] ++ data) [0] } ∧
        ∀ i : Fin 30,
          img[i] =
            if offset.toNat ≤ i.val ∧ i.val < offset.toNat + number.toNat then data.getD (i.val - offset.toNat) 0
            else s.cl.staging[i]) ∧
    (29 < offset.toNat ∨ 30 < offset.toNat + number.toNat →
      exec (.writeConfig offset number data) s =
        .next { s with mp := taken s ([16, offset, number] ++ data) [2] }) ∧
    (s.sc.state ≠ .config → offset.toNat ≤ 29 → offset.toNat + number.toNat ≤ 30 →
      exec (.writeConfig offset number data) s =
        .next { s with mp := taken s ([16, offset, number] ++ data) [1] })

/-- LEAVE in CONFIRMING or ACTIVE is answered OK: the teardown posts HOLD_LOST with reason LEFT for each asserted claim and
STATE_CHANGED last, the replica is invalid, and the LEAVE is queued; REJOIN in DETACHED leads to LISTENING. Elsewhere
LEAVE and REJOIN, and START outside CONFIG, are answered WRONG_STATE and change nothing (R151, R157, R159, R179, R191,
R192). -/
def Obligations.LifeCycleCommands : Prop :=
  ∀ s : State, Settled s → PortReady s →
    (s.powered = true → s.sc.state.inTable = true →
      (∀ e ∈ s.tq.entries, e.item.isJoinOrLeave = false) →
      ∃ t, exec .leave s = .next t ∧
        t.sc.state = .leaving ∧ t.re = ReplicaEngine.empty ∧
        (∀ c ∈ t.bu.claims, c.state = .none) ∧
        (∀ n : BindingNo, t.bu.latches[n] = false ∧ t.pins.gnt[n] = false ∧ t.pins.yld[n] = false) ∧
        t.tq.entries.map (·.item) = [.leave] ∧ t.tq.job = .clear ∧
        (∀ x : Station, t.sc.silence[x] = { watched := false, count := 0 }) ∧ t.sc.presenceTimer = false ∧
        t.mp.transaction = some { received := [18], response := some [0] } ∧
        (s.mp.notices.length + s.bu.claims.length < 32 →
          t.mp.notices =
            s.mp.notices ++
              (s.bu.claims.filterMap fun c =>
                if assertedBindings c s = [] then none
                else some (.holdLost (bindingSet (assertedBindings c s)) c.resource .left)) ++
              [.stateChanged .leaving .leaveCommand]) ∧
        t.bu.lines = s.bu.lines ∧ t.bu.bindings = s.bu.bindings ∧ OutsideKept s t) ∧
    (s.powered = true → s.sc.state = .detached → s.tc.state = .offline →
      ∃ t, exec .rejoin s = .next t ∧
        t.sc.state = .listening ∧ t.sc.listenTimer = true ∧ t.sc.foundedSeen = false ∧ t.tc.state = .idle ∧
        t.tq = TransmitQueue.empty ∧ t.mp.transaction = some { received := [19], response := some [0] } ∧
        t.mp.notices = (s.mp.post (.stateChanged .listening .rejoin)).notices ∧
        t.re = s.re.discardLoad ∧ t.bu = s.bu ∧ OutsideKept s t) ∧
    (s.sc.state.inTable = false → exec .leave s = .next { s with mp := taken s [18] [1] }) ∧
    (s.sc.state ≠ .detached → exec .rejoin s = .next { s with mp := taken s [19] [1] }) ∧
    (s.sc.state ≠ .config → exec .start s = .next { s with mp := taken s [17] [1] })

/-- RELEASE LATCH: the latch of an enabled LATCHED binding is cleared and the command answered OK, and a local claim in
HELD that this leaves without demand goes to DROPPING; BAD_ARGUMENT for a binding above 11 or one that is LEVEL or not
enabled, WRONG_STATE before the freeze, with nothing changed (R56, R69, R186). -/
def Obligations.ReleaseLatchEndsTheRequest : Prop :=
  ∀ (s : State) (b : Byte), Settled s → PortReady s →
    (11 < b.toNat → exec (.releaseLatch b) s = .next { s with mp := taken s [20, b] [2] }) ∧
    (b.toNat ≤ 11 → s.bu.bindings = none →
      exec (.releaseLatch b) s = .next { s with mp := taken s [20, b] [1] }) ∧
    (∀ (n : BindingNo) (c : BindingConfig), b.toNat = n.val → s.bu.config n = some c →
      (c.enabled = false ∨ c.trigger = .level →
        exec (.releaseLatch b) s = .next { s with mp := taken s [20, b] [2] }) ∧
      (c.enabled = true → c.trigger = .latched →
        ∃ t, exec (.releaseLatch b) s = .next t ∧
          t.bu.latches = s.bu.latches.set n false ∧ t.bu.lines = s.bu.lines ∧ t.bu.bindings = s.bu.bindings ∧
          t.mp.transaction = some { received := [20, b], response := some [0] } ∧
          t.pins.gnt[n] = false ∧ t.re = s.re ∧ t.sc = s.sc ∧ OutsideKept s t ∧
          (∀ l, s.sc.state = .active → s.tc.state ≠ .parked → s.bu.latches[n] = true →
            s.bu.claimFor c.resource = some l → l.state = .held → l.bindings = [n] →
            s.tq.entryFor c.resource = none →
            t.bu.claimFor c.resource =
              some { l with state := .dropping, cancel := false, reclaim := false, yieldSeen := l.yieldSeen } ∧
            t.tq = s.tq.append (.drop c.resource))))

/-- ATTN and the notice queue, as R194 has them: kept equal by every command; a posting raises ATTN, and leaves it high
when it is discarded; the removal of the last notice lowers it; RESET lowers it; and the release of RESET, which posts
STATE_CHANGED with cause RESET_RELEASED, leaves it high. -/
def Obligations.AttnFollowsTheNotices : Prop :=
  (∀ (c : Instr) (s t : State), s.mp.attn = !s.mp.notices.isEmpty → exec c s = .next t →
    t.mp.attn = !t.mp.notices.isEmpty) ∧
  (∀ (n : Notice) (p : ManagementPort), p.attn = !p.notices.isEmpty → (p.post n).attn = true) ∧
  (∀ (s : State) (n : Notice), s.mp.pendingPop = some n → s.mp.notices = [n] →
    ∃ t, exec .popComplete s = .next t ∧ t.mp.notices = [] ∧ t.mp.attn = false) ∧
  (∀ s : State, s.powered = true → ∃ t, exec .resetAsserted s = .next t ∧ t.mp.attn = false) ∧
  (∀ (s : State) (sid : Station) (cfgsrc : Bool), s.powered = true → s.sc.state = .reset →
    s.mp = ManagementPort.reset →
    ∃ t, exec (.resetReleased sid cfgsrc) s = .next t ∧ t.mp.attn = true ∧
      t.mp.notices = [.stateChanged (if cfgsrc then .config else .loading) .resetReleased])

/-! ### Laws that every step keeps -/

/-- The laws of the end of an event, of the port, of the station's parts, of the claim table, of the frames in the
exchange interface, of the transmit queue and of the drive of the bus hold right after reset. -/
def Obligations.LawsHoldAtReset : Prop :=
  Settled State.reset ∧ PortLawful State.reset.mp ∧ PartsLawful State.reset ∧ TableLawful State.reset.re ∧
    FramesLawful State.reset.xi ∧ QueueLawful State.reset ∧ SendsOnlyHolding State.reset ∧ ClaimsBacked State.reset ∧
    GrantsBacked State.reset

/-- Every step leaves has-work told and the output pins as the states call for (R76, R77, R87, R133). -/
def Obligations.StepsSettle : Prop := ∀ s t : State, Settled s → step s = .next t → Settled t

/-- Every step keeps the laws of the management port (R183, R192 to R194). -/
def Obligations.StepsKeepThePort : Prop := ∀ s t : State, PortLawful s.mp → step s = .next t → PortLawful t.mp

/-- Every step keeps the agreement of the station's parts with the station state (R1, R104, R117, R135, R163, R177). -/
def Obligations.StepsKeepTheParts : Prop := ∀ s t : State, PartsLawful s → step s = .next t → PartsLawful t

/-- Law L12: every step keeps that an attempt's bytes are on the pair only in HOLDING, where XTEN is asserted (R103,
R133). -/
def Obligations.StepsSendOnlyHolding : Prop :=
  ∀ s t : State, SendsOnlyHolding s → step s = .next t →
    SendsOnlyHolding t ∧ (Settled s → t.pins.pair = .data → t.pins.xten = .asserted)

/-- Laws L9 and L10: every step keeps the local claims unique and those of enabled bindings, the transmit queue's entries
unique and at most 32, and the link of the attempt on the wire with the frame in flight (R57, R84, R86, R88 to R92,
R97). -/
def Obligations.StepsKeepTheQueue : Prop := ∀ s t : State, QueueLawful s → step s = .next t → QueueLawful t

/-- Laws L1 to L4, L6 and L7, and the class order of L5: every step keeps them for the claim table, with those of a load
in progress and of the frames that carry tables; and law L11 at a station that stays in its table: the count is kept or
advances by one. -/
def Obligations.StepsKeepTheTable : Prop :=
  ∀ s t : State, TableLawful s.re ∧ FramesLawful s.xi → step s = .next t →
    TableLawful t.re ∧ FramesLawful t.xi ∧
      (s.re.valid = true → s.sc.state.inTable = true → t.re.valid = true →
        t.re.count = s.re.count ∨ t.re.count = s.re.count + 1)

/-- Law L8, as an invariant of the step: with the agreement of the parts and of the queue, every step keeps that each local
claim in HELD is backed by a hold in a valid replica; where that holds at the end of an event, GNT is asserted only while
the station is ACTIVE, the board asks, and the replica shows the station as a holder, and YLD only while GNT is. So it is
in every run from reset, whatever commands are sent (R76, R77). -/
def Obligations.GrantsAreBackedInEveryRun : Prop :=
  (∀ s t : State, PartsLawful s → QueueLawful s → ClaimsBacked s → step s = .next t → ClaimsBacked t) ∧
  (∀ s : State, Settled s → ClaimsBacked s → GrantsBacked s) ∧
  (∀ (cs : List Instr) (k : Nat) (t : State),
    Host.Core.run Sys2Proof.core k { State.reset with pending := cs } = .next t → GrantsBacked t)

/-! ### Frames on the wire -/

/-- A frame that the wire can carry is read back whole from its bytes, whatever its kind and fields (R98 to R101,
R104). -/
def Obligations.FramesAreReadBack : Prop :=
  ∀ f : Frame, f.wellFormed = true → decodeFrame (encodeFrame f) = some f

/-- What the receiver finds whole is a frame that the wire can carry, with 7 bytes more than its payload, a sound check,
and its sender and kind in byte 0 (R98, R104). -/
def Obligations.ReceivedFramesAreWellFormed : Prop :=
  ∀ (bytes : List Byte) (f : Frame), decodeFrame bytes = some f →
    f.wellFormed = true ∧ bytes.length = 7 + f.body.payload.length ∧
    halfBytes (checkOf (bytes.take (bytes.length - 2))) = bytes.drop (bytes.length - 2) ∧
    bytes.head? = some (byte (16 * f.sender.val + f.body.kindCode))
end

