-- ==== Sys2Proof/Laws/State.lean ====
section
/-! SUPPORT. What each update of State does to each field, true by rfl, so that no proof unfolds a record update. -/

namespace Sys2Proof.Machine

variable (s : State)

/-! ### withSc -/

@[simp] theorem State.withSc_pending (b : StationController) : (s.withSc b).pending = s.pending := rfl
@[simp] theorem State.withSc_powered (b : StationController) : (s.withSc b).powered = s.powered := rfl
@[simp] theorem State.withSc_unanswered (b : StationController) : (s.withSc b).unanswered = s.unanswered := rfl
@[simp] theorem State.withSc_lines (b : StationController) : (s.withSc b).lines = s.lines := rfl
@[simp] theorem State.withSc_sc (b : StationController) : (s.withSc b).sc = b := rfl
@[simp] theorem State.withSc_xi (b : StationController) : (s.withSc b).xi = s.xi := rfl
@[simp] theorem State.withSc_tc (b : StationController) : (s.withSc b).tc = s.tc := rfl
@[simp] theorem State.withSc_tq (b : StationController) : (s.withSc b).tq = s.tq := rfl
@[simp] theorem State.withSc_re (b : StationController) : (s.withSc b).re = s.re := rfl
@[simp] theorem State.withSc_bu (b : StationController) : (s.withSc b).bu = s.bu := rfl
@[simp] theorem State.withSc_cl (b : StationController) : (s.withSc b).cl = s.cl := rfl
@[simp] theorem State.withSc_mp (b : StationController) : (s.withSc b).mp = s.mp := rfl
@[simp] theorem State.withSc_pins (b : StationController) : (s.withSc b).pins = s.pins := rfl

/-! ### withXi -/

@[simp] theorem State.withXi_pending (b : ExchangeInterface) : (s.withXi b).pending = s.pending := rfl
@[simp] theorem State.withXi_powered (b : ExchangeInterface) : (s.withXi b).powered = s.powered := rfl
@[simp] theorem State.withXi_unanswered (b : ExchangeInterface) : (s.withXi b).unanswered = s.unanswered := rfl
@[simp] theorem State.withXi_lines (b : ExchangeInterface) : (s.withXi b).lines = s.lines := rfl
@[simp] theorem State.withXi_sc (b : ExchangeInterface) : (s.withXi b).sc = s.sc := rfl
@[simp] theorem State.withXi_xi (b : ExchangeInterface) : (s.withXi b).xi = b := rfl
@[simp] theorem State.withXi_tc (b : ExchangeInterface) : (s.withXi b).tc = s.tc := rfl
@[simp] theorem State.withXi_tq (b : ExchangeInterface) : (s.withXi b).tq = s.tq := rfl
@[simp] theorem State.withXi_re (b : ExchangeInterface) : (s.withXi b).re = s.re := rfl
@[simp] theorem State.withXi_bu (b : ExchangeInterface) : (s.withXi b).bu = s.bu := rfl
@[simp] theorem State.withXi_cl (b : ExchangeInterface) : (s.withXi b).cl = s.cl := rfl
@[simp] theorem State.withXi_mp (b : ExchangeInterface) : (s.withXi b).mp = s.mp := rfl
@[simp] theorem State.withXi_pins (b : ExchangeInterface) : (s.withXi b).pins = s.pins := rfl

/-! ### withTc -/

@[simp] theorem State.withTc_pending (b : TenureController) : (s.withTc b).pending = s.pending := rfl
@[simp] theorem State.withTc_powered (b : TenureController) : (s.withTc b).powered = s.powered := rfl
@[simp] theorem State.withTc_unanswered (b : TenureController) : (s.withTc b).unanswered = s.unanswered := rfl
@[simp] theorem State.withTc_lines (b : TenureController) : (s.withTc b).lines = s.lines := rfl
@[simp] theorem State.withTc_sc (b : TenureController) : (s.withTc b).sc = s.sc := rfl
@[simp] theorem State.withTc_xi (b : TenureController) : (s.withTc b).xi = s.xi := rfl
@[simp] theorem State.withTc_tc (b : TenureController) : (s.withTc b).tc = b := rfl
@[simp] theorem State.withTc_tq (b : TenureController) : (s.withTc b).tq = s.tq := rfl
@[simp] theorem State.withTc_re (b : TenureController) : (s.withTc b).re = s.re := rfl
@[simp] theorem State.withTc_bu (b : TenureController) : (s.withTc b).bu = s.bu := rfl
@[simp] theorem State.withTc_cl (b : TenureController) : (s.withTc b).cl = s.cl := rfl
@[simp] theorem State.withTc_mp (b : TenureController) : (s.withTc b).mp = s.mp := rfl
@[simp] theorem State.withTc_pins (b : TenureController) : (s.withTc b).pins = s.pins := rfl

/-! ### withTq -/

@[simp] theorem State.withTq_pending (b : TransmitQueue) : (s.withTq b).pending = s.pending := rfl
@[simp] theorem State.withTq_powered (b : TransmitQueue) : (s.withTq b).powered = s.powered := rfl
@[simp] theorem State.withTq_unanswered (b : TransmitQueue) : (s.withTq b).unanswered = s.unanswered := rfl
@[simp] theorem State.withTq_lines (b : TransmitQueue) : (s.withTq b).lines = s.lines := rfl
@[simp] theorem State.withTq_sc (b : TransmitQueue) : (s.withTq b).sc = s.sc := rfl
@[simp] theorem State.withTq_xi (b : TransmitQueue) : (s.withTq b).xi = s.xi := rfl
@[simp] theorem State.withTq_tc (b : TransmitQueue) : (s.withTq b).tc = s.tc := rfl
@[simp] theorem State.withTq_tq (b : TransmitQueue) : (s.withTq b).tq = b := rfl
@[simp] theorem State.withTq_re (b : TransmitQueue) : (s.withTq b).re = s.re := rfl
@[simp] theorem State.withTq_bu (b : TransmitQueue) : (s.withTq b).bu = s.bu := rfl
@[simp] theorem State.withTq_cl (b : TransmitQueue) : (s.withTq b).cl = s.cl := rfl
@[simp] theorem State.withTq_mp (b : TransmitQueue) : (s.withTq b).mp = s.mp := rfl
@[simp] theorem State.withTq_pins (b : TransmitQueue) : (s.withTq b).pins = s.pins := rfl

/-! ### withRe -/

@[simp] theorem State.withRe_pending (b : ReplicaEngine) : (s.withRe b).pending = s.pending := rfl
@[simp] theorem State.withRe_powered (b : ReplicaEngine) : (s.withRe b).powered = s.powered := rfl
@[simp] theorem State.withRe_unanswered (b : ReplicaEngine) : (s.withRe b).unanswered = s.unanswered := rfl
@[simp] theorem State.withRe_lines (b : ReplicaEngine) : (s.withRe b).lines = s.lines := rfl
@[simp] theorem State.withRe_sc (b : ReplicaEngine) : (s.withRe b).sc = s.sc := rfl
@[simp] theorem State.withRe_xi (b : ReplicaEngine) : (s.withRe b).xi = s.xi := rfl
@[simp] theorem State.withRe_tc (b : ReplicaEngine) : (s.withRe b).tc = s.tc := rfl
@[simp] theorem State.withRe_tq (b : ReplicaEngine) : (s.withRe b).tq = s.tq := rfl
@[simp] theorem State.withRe_re (b : ReplicaEngine) : (s.withRe b).re = b := rfl
@[simp] theorem State.withRe_bu (b : ReplicaEngine) : (s.withRe b).bu = s.bu := rfl
@[simp] theorem State.withRe_cl (b : ReplicaEngine) : (s.withRe b).cl = s.cl := rfl
@[simp] theorem State.withRe_mp (b : ReplicaEngine) : (s.withRe b).mp = s.mp := rfl
@[simp] theorem State.withRe_pins (b : ReplicaEngine) : (s.withRe b).pins = s.pins := rfl

/-! ### withBu -/

@[simp] theorem State.withBu_pending (b : BindingUnit) : (s.withBu b).pending = s.pending := rfl
@[simp] theorem State.withBu_powered (b : BindingUnit) : (s.withBu b).powered = s.powered := rfl
@[simp] theorem State.withBu_unanswered (b : BindingUnit) : (s.withBu b).unanswered = s.unanswered := rfl
@[simp] theorem State.withBu_lines (b : BindingUnit) : (s.withBu b).lines = s.lines := rfl
@[simp] theorem State.withBu_sc (b : BindingUnit) : (s.withBu b).sc = s.sc := rfl
@[simp] theorem State.withBu_xi (b : BindingUnit) : (s.withBu b).xi = s.xi := rfl
@[simp] theorem State.withBu_tc (b : BindingUnit) : (s.withBu b).tc = s.tc := rfl
@[simp] theorem State.withBu_tq (b : BindingUnit) : (s.withBu b).tq = s.tq := rfl
@[simp] theorem State.withBu_re (b : BindingUnit) : (s.withBu b).re = s.re := rfl
@[simp] theorem State.withBu_bu (b : BindingUnit) : (s.withBu b).bu = b := rfl
@[simp] theorem State.withBu_cl (b : BindingUnit) : (s.withBu b).cl = s.cl := rfl
@[simp] theorem State.withBu_mp (b : BindingUnit) : (s.withBu b).mp = s.mp := rfl
@[simp] theorem State.withBu_pins (b : BindingUnit) : (s.withBu b).pins = s.pins := rfl

/-! ### withCl -/

@[simp] theorem State.withCl_pending (b : ConfigLoader) : (s.withCl b).pending = s.pending := rfl
@[simp] theorem State.withCl_powered (b : ConfigLoader) : (s.withCl b).powered = s.powered := rfl
@[simp] theorem State.withCl_unanswered (b : ConfigLoader) : (s.withCl b).unanswered = s.unanswered := rfl
@[simp] theorem State.withCl_lines (b : ConfigLoader) : (s.withCl b).lines = s.lines := rfl
@[simp] theorem State.withCl_sc (b : ConfigLoader) : (s.withCl b).sc = s.sc := rfl
@[simp] theorem State.withCl_xi (b : ConfigLoader) : (s.withCl b).xi = s.xi := rfl
@[simp] theorem State.withCl_tc (b : ConfigLoader) : (s.withCl b).tc = s.tc := rfl
@[simp] theorem State.withCl_tq (b : ConfigLoader) : (s.withCl b).tq = s.tq := rfl
@[simp] theorem State.withCl_re (b : ConfigLoader) : (s.withCl b).re = s.re := rfl
@[simp] theorem State.withCl_bu (b : ConfigLoader) : (s.withCl b).bu = s.bu := rfl
@[simp] theorem State.withCl_cl (b : ConfigLoader) : (s.withCl b).cl = b := rfl
@[simp] theorem State.withCl_mp (b : ConfigLoader) : (s.withCl b).mp = s.mp := rfl
@[simp] theorem State.withCl_pins (b : ConfigLoader) : (s.withCl b).pins = s.pins := rfl

/-! ### withMp -/

@[simp] theorem State.withMp_pending (b : ManagementPort) : (s.withMp b).pending = s.pending := rfl
@[simp] theorem State.withMp_powered (b : ManagementPort) : (s.withMp b).powered = s.powered := rfl
@[simp] theorem State.withMp_unanswered (b : ManagementPort) : (s.withMp b).unanswered = s.unanswered := rfl
@[simp] theorem State.withMp_lines (b : ManagementPort) : (s.withMp b).lines = s.lines := rfl
@[simp] theorem State.withMp_sc (b : ManagementPort) : (s.withMp b).sc = s.sc := rfl
@[simp] theorem State.withMp_xi (b : ManagementPort) : (s.withMp b).xi = s.xi := rfl
@[simp] theorem State.withMp_tc (b : ManagementPort) : (s.withMp b).tc = s.tc := rfl
@[simp] theorem State.withMp_tq (b : ManagementPort) : (s.withMp b).tq = s.tq := rfl
@[simp] theorem State.withMp_re (b : ManagementPort) : (s.withMp b).re = s.re := rfl
@[simp] theorem State.withMp_bu (b : ManagementPort) : (s.withMp b).bu = s.bu := rfl
@[simp] theorem State.withMp_cl (b : ManagementPort) : (s.withMp b).cl = s.cl := rfl
@[simp] theorem State.withMp_mp (b : ManagementPort) : (s.withMp b).mp = b := rfl
@[simp] theorem State.withMp_pins (b : ManagementPort) : (s.withMp b).pins = s.pins := rfl

/-! ### withPins -/

@[simp] theorem State.withPins_pending (b : Pins) : (s.withPins b).pending = s.pending := rfl
@[simp] theorem State.withPins_powered (b : Pins) : (s.withPins b).powered = s.powered := rfl
@[simp] theorem State.withPins_unanswered (b : Pins) : (s.withPins b).unanswered = s.unanswered := rfl
@[simp] theorem State.withPins_lines (b : Pins) : (s.withPins b).lines = s.lines := rfl
@[simp] theorem State.withPins_sc (b : Pins) : (s.withPins b).sc = s.sc := rfl
@[simp] theorem State.withPins_xi (b : Pins) : (s.withPins b).xi = s.xi := rfl
@[simp] theorem State.withPins_tc (b : Pins) : (s.withPins b).tc = s.tc := rfl
@[simp] theorem State.withPins_tq (b : Pins) : (s.withPins b).tq = s.tq := rfl
@[simp] theorem State.withPins_re (b : Pins) : (s.withPins b).re = s.re := rfl
@[simp] theorem State.withPins_bu (b : Pins) : (s.withPins b).bu = s.bu := rfl
@[simp] theorem State.withPins_cl (b : Pins) : (s.withPins b).cl = s.cl := rfl
@[simp] theorem State.withPins_mp (b : Pins) : (s.withPins b).mp = s.mp := rfl
@[simp] theorem State.withPins_pins (b : Pins) : (s.withPins b).pins = b := rfl

/-! ### withLines -/

@[simp] theorem State.withLines_pending (b : Lines) : (s.withLines b).pending = s.pending := rfl
@[simp] theorem State.withLines_powered (b : Lines) : (s.withLines b).powered = s.powered := rfl
@[simp] theorem State.withLines_unanswered (b : Lines) : (s.withLines b).unanswered = s.unanswered := rfl
@[simp] theorem State.withLines_lines (b : Lines) : (s.withLines b).lines = b := rfl
@[simp] theorem State.withLines_sc (b : Lines) : (s.withLines b).sc = s.sc := rfl
@[simp] theorem State.withLines_xi (b : Lines) : (s.withLines b).xi = s.xi := rfl
@[simp] theorem State.withLines_tc (b : Lines) : (s.withLines b).tc = s.tc := rfl
@[simp] theorem State.withLines_tq (b : Lines) : (s.withLines b).tq = s.tq := rfl
@[simp] theorem State.withLines_re (b : Lines) : (s.withLines b).re = s.re := rfl
@[simp] theorem State.withLines_bu (b : Lines) : (s.withLines b).bu = s.bu := rfl
@[simp] theorem State.withLines_cl (b : Lines) : (s.withLines b).cl = s.cl := rfl
@[simp] theorem State.withLines_mp (b : Lines) : (s.withLines b).mp = s.mp := rfl
@[simp] theorem State.withLines_pins (b : Lines) : (s.withLines b).pins = s.pins := rfl

/-! ### withUnanswered -/

@[simp] theorem State.withUnanswered_pending (n : Nat) : (s.withUnanswered n).pending = s.pending := rfl
@[simp] theorem State.withUnanswered_powered (n : Nat) : (s.withUnanswered n).powered = s.powered := rfl
@[simp] theorem State.withUnanswered_unanswered (n : Nat) : (s.withUnanswered n).unanswered = n := rfl
@[simp] theorem State.withUnanswered_lines (n : Nat) : (s.withUnanswered n).lines = s.lines := rfl
@[simp] theorem State.withUnanswered_sc (n : Nat) : (s.withUnanswered n).sc = s.sc := rfl
@[simp] theorem State.withUnanswered_xi (n : Nat) : (s.withUnanswered n).xi = s.xi := rfl
@[simp] theorem State.withUnanswered_tc (n : Nat) : (s.withUnanswered n).tc = s.tc := rfl
@[simp] theorem State.withUnanswered_tq (n : Nat) : (s.withUnanswered n).tq = s.tq := rfl
@[simp] theorem State.withUnanswered_re (n : Nat) : (s.withUnanswered n).re = s.re := rfl
@[simp] theorem State.withUnanswered_bu (n : Nat) : (s.withUnanswered n).bu = s.bu := rfl
@[simp] theorem State.withUnanswered_cl (n : Nat) : (s.withUnanswered n).cl = s.cl := rfl
@[simp] theorem State.withUnanswered_mp (n : Nat) : (s.withUnanswered n).mp = s.mp := rfl
@[simp] theorem State.withUnanswered_pins (n : Nat) : (s.withUnanswered n).pins = s.pins := rfl

/-! ### blocksReset -/

@[simp] theorem State.blocksReset_pending : s.blocksReset.pending = s.pending := rfl
@[simp] theorem State.blocksReset_powered : s.blocksReset.powered = s.powered := rfl
@[simp] theorem State.blocksReset_unanswered : s.blocksReset.unanswered = s.unanswered := rfl
@[simp] theorem State.blocksReset_lines : s.blocksReset.lines = s.lines := rfl
@[simp] theorem State.blocksReset_sc : s.blocksReset.sc = StationController.reset := rfl
@[simp] theorem State.blocksReset_xi : s.blocksReset.xi = ExchangeInterface.reset := rfl
@[simp] theorem State.blocksReset_tc : s.blocksReset.tc = TenureController.reset := rfl
@[simp] theorem State.blocksReset_tq : s.blocksReset.tq = TransmitQueue.empty := rfl
@[simp] theorem State.blocksReset_re : s.blocksReset.re = ReplicaEngine.empty := rfl
@[simp] theorem State.blocksReset_bu : s.blocksReset.bu = BindingUnit.reset := rfl
@[simp] theorem State.blocksReset_cl : s.blocksReset.cl = ConfigLoader.reset := rfl
@[simp] theorem State.blocksReset_mp : s.blocksReset.mp = ManagementPort.reset := rfl
@[simp] theorem State.blocksReset_pins : s.blocksReset.pins = Pins.reset := rfl

/-! ### A block written back unchanged -/

@[simp] theorem State.withSc_self : s.withSc s.sc = s := rfl
@[simp] theorem State.withXi_self : s.withXi s.xi = s := rfl
@[simp] theorem State.withTc_self : s.withTc s.tc = s := rfl
@[simp] theorem State.withTq_self : s.withTq s.tq = s := rfl
@[simp] theorem State.withRe_self : s.withRe s.re = s := rfl
@[simp] theorem State.withBu_self : s.withBu s.bu = s := rfl
@[simp] theorem State.withCl_self : s.withCl s.cl = s := rfl
@[simp] theorem State.withMp_self : s.withMp s.mp = s := rfl
@[simp] theorem State.withPins_self : s.withPins s.pins = s := rfl
@[simp] theorem State.withLines_self : s.withLines s.lines = s := rfl
@[simp] theorem State.withUnanswered_self : s.withUnanswered s.unanswered = s := rfl

/-! ### The same block written twice -/

@[simp] theorem State.withSc_withSc (a b : StationController) : (s.withSc a).withSc b = s.withSc b := rfl
@[simp] theorem State.withXi_withXi (a b : ExchangeInterface) : (s.withXi a).withXi b = s.withXi b := rfl
@[simp] theorem State.withTc_withTc (a b : TenureController) : (s.withTc a).withTc b = s.withTc b := rfl
@[simp] theorem State.withTq_withTq (a b : TransmitQueue) : (s.withTq a).withTq b = s.withTq b := rfl
@[simp] theorem State.withRe_withRe (a b : ReplicaEngine) : (s.withRe a).withRe b = s.withRe b := rfl
@[simp] theorem State.withBu_withBu (a b : BindingUnit) : (s.withBu a).withBu b = s.withBu b := rfl
@[simp] theorem State.withCl_withCl (a b : ConfigLoader) : (s.withCl a).withCl b = s.withCl b := rfl
@[simp] theorem State.withMp_withMp (a b : ManagementPort) : (s.withMp a).withMp b = s.withMp b := rfl
@[simp] theorem State.withPins_withPins (a b : Pins) : (s.withPins a).withPins b = s.withPins b := rfl
@[simp] theorem State.withLines_withLines (a b : Lines) : (s.withLines a).withLines b = s.withLines b := rfl
@[simp] theorem State.withUnanswered_withUnanswered (a b : Nat) :
    (s.withUnanswered a).withUnanswered b = s.withUnanswered b := rfl

end Sys2Proof.Machine
end

