-- ==== Sys2Proof/Laws/Exchange.lean ====
section
/-! SUPPORT. The small lemmas of the receiver on a change of station state, of the line after a contention, of the holding decision after an abandoned run, and of a memory read. -/

namespace Sys2Proof.Machine

/-! ### The receiver on a change of station state (R104, R156) -/

section Receiver

variable (x : ExchangeInterface) (st : StationState)

@[simp] theorem forState_number : (x.forState st).number = x.number := by
  unfold ExchangeInterface.forState
  split <;> rfl

@[simp] theorem forState_attempt : (x.forState st).attempt = x.attempt := by
  unfold ExchangeInterface.forState
  split <;> rfl

@[simp] theorem forState_rejectStreak : (x.forState st).rejectStreak = x.rejectStreak := by
  unfold ExchangeInterface.forState
  split <;> rfl

@[simp] theorem forState_dropStreak : (x.forState st).dropStreak = x.dropStreak := by
  unfold ExchangeInterface.forState
  split <;> rfl

/-- With the receiver on, the frame under way goes on. -/
theorem forState_of_receiverOn (h : st.receiverOn = true) : x.forState st = x := by
  simp [ExchangeInterface.forState, h]

/-- With the receiver off no frame is held (R104, R156). -/
theorem forState_rx (h : st.receiverOn = false) : (x.forState st).rx = .none := by
  simp [ExchangeInterface.forState, h]

end Receiver

/-! ### The line after a contention (R121, R122) -/

variable (s : State)

@[simp] theorem keptAsserted_none : s.keptAsserted none = false := rfl

/-- Another contender keeps the line where it does not rank after this station. -/
@[simp] theorem keptAsserted_some (o : Station) : s.keptAsserted (some o) = decide (o ≤ s.me) := rfl

/-- At a winner the line is kept by a twin alone. -/
theorem keptAsserted_of_wins (other : Option Station) (h : s.winsAgainst other = true) :
    s.keptAsserted other = decide (other = some s.me) := by
  cases other with
  | none => rfl
  | some o =>
    have h : s.me ≤ o := of_decide_eq_true h
    simp only [keptAsserted_some, Option.some.injEq]
    exact decide_eq_decide.mpr ⟨fun k => le_antisymm k h, fun k => k ▸ le_rfl⟩

/-! ### The holding decision after an abandoned run (R126, R129) -/

/-- The holder of a run just re-armed surrenders to XWANT, whatever its quota count (R129). -/
theorem decision_rearmed (t : TenureController) (hp : t.pinned = false) (hw : t.hasWork = true) (xwant : Bool) :
    t.decision xwant true = if xwant then .surrender else .continue := by
  cases xwant <;> simp [TenureController.decision, hp, hw]

/-- A dropped part leaves its run re-armed exactly where it was not re-armed before (R95). -/
theorem rearmedFrom_partDropped (q : TransmitQueue) (k : Fin 9) (n : Nat) (h : q.job = .running k (some n)) :
    q.partDropped.rearmedFrom q = !q.reArm := by
  cases hr : q.reArm <;> simp [TransmitQueue.partDropped, TransmitQueue.rearmedFrom, h, hr]

/-! ### The moves of a memory read (R178) -/

@[simp] theorem endFailedRead_cl :
    (endFailedRead s).cl =
      { s.cl with failedReads := s.cl.failedReads + 1, failedAt := some (Config.memoryFailure s.unanswered) } := rfl

@[simp] theorem endFailedRead_unanswered : (endFailedRead s).unanswered = s.unanswered + 1 := rfl

/-- The loader drives its lines exactly while it reads, with a whole read. -/
theorem cfgRead_eq (c : ConfigLoader) : c.cfgRead = if c.cfgDrive = .reading then readItems else [] := by
  cases h : c.state <;> simp [ConfigLoader.cfgRead, ConfigLoader.cfgDrive, h]

end Sys2Proof.Machine
end

