-- ==== Sys2Proof/Laws/Frames.lean ====
section
/-! SUPPORT. What each operation leaves as it was: one lemma for each shared operation, which later proofs cite in place of unfolding it. -/

namespace Sys2Proof.Machine

-- One proof script serves every operation, whether or not it branches.
set_option linter.unusedTactic false
set_option linter.unnecessarySeqFocus false

variable (s : State)

/-- A fold whose every step keeps a value keeps it. -/
theorem foldl_keeps {α β : Type} (g : State → β) (f : State → α → State) (h : ∀ s a, g (f s a) = g s) (as : List α) (s : State) :
    g (as.foldl f s) = g s := by
  induction as generalizing s with
  | nil => rfl
  | cons a as ih => rw [List.foldl_cons, ih, h]

/-- A handler that keeps a value keeps it when it is applied to a local claim. -/
theorem onClaim_keeps {β : Type} (g : State → β) (r : Resource) (f : LocalClaim → State → State)
    (h : ∀ c s, g (f c s) = g s) (s : State) : g (onClaim r f s) = g s := by
  unfold onClaim
  split
  · rfl
  · exact h _ _

/-! ### Counters, notices and the queue -/

@[simp] theorem countUp_keeps (k : Counter) :
    (countUp k s).pending = s.pending ∧ (countUp k s).powered = s.powered ∧ (countUp k s).unanswered = s.unanswered ∧
    (countUp k s).lines = s.lines ∧ (countUp k s).sc = s.sc ∧ (countUp k s).xi = s.xi ∧ (countUp k s).tc = s.tc ∧
    (countUp k s).tq = s.tq ∧ (countUp k s).re = s.re ∧ (countUp k s).bu = s.bu ∧ (countUp k s).cl = s.cl ∧
    (countUp k s).pins = s.pins := by
  unfold countUp
  try dsimp only
  (repeat' split) <;> simp

@[simp] theorem postNotice_keeps (n : Notice) :
    (postNotice n s).pending = s.pending ∧ (postNotice n s).powered = s.powered ∧
    (postNotice n s).unanswered = s.unanswered ∧ (postNotice n s).lines = s.lines ∧ (postNotice n s).sc = s.sc ∧
    (postNotice n s).xi = s.xi ∧ (postNotice n s).tc = s.tc ∧ (postNotice n s).tq = s.tq ∧ (postNotice n s).re = s.re ∧
    (postNotice n s).bu = s.bu ∧ (postNotice n s).cl = s.cl ∧ (postNotice n s).pins = s.pins := by
  unfold postNotice
  try dsimp only
  (repeat' split) <;> simp

@[simp] theorem discardTo_keeps (q : TransmitQueue) :
    (discardTo q s).pending = s.pending ∧ (discardTo q s).powered = s.powered ∧
    (discardTo q s).unanswered = s.unanswered ∧ (discardTo q s).lines = s.lines ∧ (discardTo q s).sc = s.sc ∧
    (discardTo q s).re = s.re ∧ (discardTo q s).bu = s.bu ∧ (discardTo q s).cl = s.cl ∧ (discardTo q s).mp = s.mp ∧
    (discardTo q s).pins = s.pins := by
  unfold discardTo
  try dsimp only
  (repeat' split) <;> simp

@[simp] theorem purgeQueue_keeps :
    (purgeQueue s).pending = s.pending ∧ (purgeQueue s).powered = s.powered ∧
    (purgeQueue s).unanswered = s.unanswered ∧ (purgeQueue s).lines = s.lines ∧ (purgeQueue s).sc = s.sc ∧
    (purgeQueue s).re = s.re ∧ (purgeQueue s).bu = s.bu ∧ (purgeQueue s).cl = s.cl ∧ (purgeQueue s).mp = s.mp ∧
    (purgeQueue s).pins = s.pins := by
  unfold purgeQueue
  try dsimp only
  (repeat' split) <;> simp

@[simp] theorem emptyQueue_keeps :
    (emptyQueue s).pending = s.pending ∧ (emptyQueue s).powered = s.powered ∧
    (emptyQueue s).unanswered = s.unanswered ∧ (emptyQueue s).lines = s.lines ∧ (emptyQueue s).sc = s.sc ∧
    (emptyQueue s).re = s.re ∧ (emptyQueue s).bu = s.bu ∧ (emptyQueue s).cl = s.cl ∧ (emptyQueue s).mp = s.mp ∧
    (emptyQueue s).pins = s.pins := by
  unfold emptyQueue
  try dsimp only
  (repeat' split) <;> simp

@[simp] theorem askExpel_keeps (t : Station) (why : ExpelReason) :
    (askExpel t why s).pending = s.pending ∧ (askExpel t why s).powered = s.powered ∧
    (askExpel t why s).unanswered = s.unanswered ∧ (askExpel t why s).lines = s.lines ∧ (askExpel t why s).sc = s.sc ∧
    (askExpel t why s).xi = s.xi ∧ (askExpel t why s).tc = s.tc ∧ (askExpel t why s).re = s.re ∧
    (askExpel t why s).bu = s.bu ∧ (askExpel t why s).cl = s.cl ∧ (askExpel t why s).pins = s.pins := by
  unfold askExpel
  try dsimp only
  (repeat' split) <;> simp


/-! ### The binding unit -/

@[simp] theorem State.withClaims_keeps (cs : List LocalClaim) :
    (s.withClaims cs).pending = s.pending ∧ (s.withClaims cs).powered = s.powered ∧
    (s.withClaims cs).unanswered = s.unanswered ∧ (s.withClaims cs).lines = s.lines ∧ (s.withClaims cs).sc = s.sc ∧
    (s.withClaims cs).xi = s.xi ∧ (s.withClaims cs).tc = s.tc ∧ (s.withClaims cs).tq = s.tq ∧
    (s.withClaims cs).re = s.re ∧ (s.withClaims cs).cl = s.cl ∧ (s.withClaims cs).mp = s.mp ∧
    (s.withClaims cs).pins = s.pins := by
  unfold State.withClaims
  try dsimp only
  (repeat' split) <;> simp

@[simp] theorem putClaim_keeps (c : LocalClaim) :
    (putClaim c s).pending = s.pending ∧ (putClaim c s).powered = s.powered ∧
    (putClaim c s).unanswered = s.unanswered ∧ (putClaim c s).lines = s.lines ∧ (putClaim c s).sc = s.sc ∧
    (putClaim c s).xi = s.xi ∧ (putClaim c s).tc = s.tc ∧ (putClaim c s).tq = s.tq ∧ (putClaim c s).re = s.re ∧
    (putClaim c s).cl = s.cl ∧ (putClaim c s).mp = s.mp ∧ (putClaim c s).pins = s.pins := by
  unfold putClaim
  try dsimp only
  (repeat' split) <;> simp

@[simp] theorem handClaim_keeps (c : LocalClaim) :
    (handClaim c s).pending = s.pending ∧ (handClaim c s).powered = s.powered ∧
    (handClaim c s).unanswered = s.unanswered ∧ (handClaim c s).lines = s.lines ∧ (handClaim c s).sc = s.sc ∧
    (handClaim c s).xi = s.xi ∧ (handClaim c s).tc = s.tc ∧ (handClaim c s).re = s.re ∧ (handClaim c s).bu = s.bu ∧
    (handClaim c s).cl = s.cl ∧ (handClaim c s).mp = s.mp ∧ (handClaim c s).pins = s.pins := by
  unfold handClaim
  try dsimp only
  (repeat' split) <;> simp

@[simp] theorem handDrop_keeps (c : LocalClaim) :
    (handDrop c s).pending = s.pending ∧ (handDrop c s).powered = s.powered ∧
    (handDrop c s).unanswered = s.unanswered ∧ (handDrop c s).lines = s.lines ∧ (handDrop c s).sc = s.sc ∧
    (handDrop c s).xi = s.xi ∧ (handDrop c s).tc = s.tc ∧ (handDrop c s).re = s.re ∧ (handDrop c s).bu = s.bu ∧
    (handDrop c s).cl = s.cl ∧ (handDrop c s).mp = s.mp ∧ (handDrop c s).pins = s.pins := by
  unfold handDrop
  try dsimp only
  (repeat' split) <;> simp

@[simp] theorem claimAfresh_keeps (c : LocalClaim) :
    (claimAfresh c s).pending = s.pending ∧ (claimAfresh c s).powered = s.powered ∧
    (claimAfresh c s).unanswered = s.unanswered ∧ (claimAfresh c s).lines = s.lines ∧ (claimAfresh c s).sc = s.sc ∧
    (claimAfresh c s).xi = s.xi ∧ (claimAfresh c s).tc = s.tc ∧ (claimAfresh c s).re = s.re ∧
    (claimAfresh c s).cl = s.cl ∧ (claimAfresh c s).mp = s.mp ∧ (claimAfresh c s).pins = s.pins := by
  unfold claimAfresh
  try dsimp only
  (repeat' split) <;> simp

@[simp] theorem enterHeld_keeps (c : LocalClaim) (d : Bool) :
    (enterHeld c d s).pending = s.pending ∧ (enterHeld c d s).powered = s.powered ∧
    (enterHeld c d s).unanswered = s.unanswered ∧ (enterHeld c d s).lines = s.lines ∧ (enterHeld c d s).sc = s.sc ∧
    (enterHeld c d s).xi = s.xi ∧ (enterHeld c d s).tc = s.tc ∧ (enterHeld c d s).tq = s.tq ∧
    (enterHeld c d s).re = s.re ∧ (enterHeld c d s).cl = s.cl ∧ (enterHeld c d s).pins = s.pins := by
  unfold enterHeld
  try dsimp only
  (repeat' split) <;> simp

@[simp] theorem enterDropping_keeps (c : LocalClaim) (d : Bool) :
    (enterDropping c d s).pending = s.pending ∧ (enterDropping c d s).powered = s.powered ∧
    (enterDropping c d s).unanswered = s.unanswered ∧ (enterDropping c d s).lines = s.lines ∧
    (enterDropping c d s).sc = s.sc ∧ (enterDropping c d s).xi = s.xi ∧ (enterDropping c d s).tc = s.tc ∧
    (enterDropping c d s).re = s.re ∧ (enterDropping c d s).cl = s.cl ∧ (enterDropping c d s).mp = s.mp ∧
    (enterDropping c d s).pins = s.pins := by
  unfold enterDropping
  try dsimp only
  (repeat' split) <;> simp

@[simp] theorem takeStanding_keeps (c : LocalClaim) (st : Standing) :
    (takeStanding c st s).pending = s.pending ∧ (takeStanding c st s).powered = s.powered ∧
    (takeStanding c st s).unanswered = s.unanswered ∧ (takeStanding c st s).lines = s.lines ∧
    (takeStanding c st s).sc = s.sc ∧ (takeStanding c st s).xi = s.xi ∧ (takeStanding c st s).tc = s.tc ∧
    (takeStanding c st s).re = s.re ∧ (takeStanding c st s).cl = s.cl ∧ (takeStanding c st s).pins = s.pins := by
  unfold takeStanding
  try dsimp only
  (repeat' split) <;> simp

@[simp] theorem demandRise_keeps (c : LocalClaim) :
    (demandRise c s).pending = s.pending ∧ (demandRise c s).powered = s.powered ∧
    (demandRise c s).unanswered = s.unanswered ∧ (demandRise c s).lines = s.lines ∧ (demandRise c s).sc = s.sc ∧
    (demandRise c s).xi = s.xi ∧ (demandRise c s).tc = s.tc ∧ (demandRise c s).re = s.re ∧ (demandRise c s).cl = s.cl ∧
    (demandRise c s).pins = s.pins := by
  unfold demandRise
  try dsimp only
  (repeat' split) <;> simp

@[simp] theorem demandFall_keeps (c : LocalClaim) :
    (demandFall c s).pending = s.pending ∧ (demandFall c s).powered = s.powered ∧
    (demandFall c s).unanswered = s.unanswered ∧ (demandFall c s).lines = s.lines ∧ (demandFall c s).sc = s.sc ∧
    (demandFall c s).xi = s.xi ∧ (demandFall c s).tc = s.tc ∧ (demandFall c s).re = s.re ∧ (demandFall c s).cl = s.cl ∧
    (demandFall c s).mp = s.mp ∧ (demandFall c s).pins = s.pins := by
  unfold demandFall
  try dsimp only
  (repeat' split) <;> simp

@[simp] theorem changeRequest_keeps (n : BindingNo) (f : BindingUnit → BindingUnit) :
    (changeRequest n f s).pending = s.pending ∧ (changeRequest n f s).powered = s.powered ∧
    (changeRequest n f s).unanswered = s.unanswered ∧ (changeRequest n f s).lines = s.lines ∧
    (changeRequest n f s).sc = s.sc ∧ (changeRequest n f s).xi = s.xi ∧ (changeRequest n f s).tc = s.tc ∧
    (changeRequest n f s).re = s.re ∧ (changeRequest n f s).cl = s.cl ∧ (changeRequest n f s).pins = s.pins := by
  unfold changeRequest onClaim
  try dsimp only
  (repeat' split) <;> simp

@[simp] theorem lineRise_keeps (n : BindingNo) :
    (lineRise n s).pending = s.pending ∧ (lineRise n s).powered = s.powered ∧
    (lineRise n s).unanswered = s.unanswered ∧ (lineRise n s).lines = s.lines ∧ (lineRise n s).sc = s.sc ∧
    (lineRise n s).xi = s.xi ∧ (lineRise n s).tc = s.tc ∧ (lineRise n s).re = s.re ∧ (lineRise n s).cl = s.cl ∧
    (lineRise n s).pins = s.pins := by
  unfold lineRise
  try dsimp only
  (repeat' split) <;> simp

@[simp] theorem lineFall_keeps (n : BindingNo) :
    (lineFall n s).pending = s.pending ∧ (lineFall n s).powered = s.powered ∧
    (lineFall n s).unanswered = s.unanswered ∧ (lineFall n s).lines = s.lines ∧ (lineFall n s).sc = s.sc ∧
    (lineFall n s).xi = s.xi ∧ (lineFall n s).tc = s.tc ∧ (lineFall n s).re = s.re ∧ (lineFall n s).cl = s.cl ∧
    (lineFall n s).pins = s.pins := by
  unfold lineFall
  try dsimp only
  (repeat' split) <;> simp

@[simp] theorem clearLatch_keeps (n : BindingNo) :
    (clearLatch n s).pending = s.pending ∧ (clearLatch n s).powered = s.powered ∧
    (clearLatch n s).unanswered = s.unanswered ∧ (clearLatch n s).lines = s.lines ∧ (clearLatch n s).sc = s.sc ∧
    (clearLatch n s).xi = s.xi ∧ (clearLatch n s).tc = s.tc ∧ (clearLatch n s).re = s.re ∧ (clearLatch n s).cl = s.cl ∧
    (clearLatch n s).pins = s.pins := by
  unfold clearLatch
  try dsimp only
  (repeat' split) <;> simp

@[simp] theorem takenReport_keeps (r : Resource) :
    (takenReport r s).pending = s.pending ∧ (takenReport r s).powered = s.powered ∧
    (takenReport r s).unanswered = s.unanswered ∧ (takenReport r s).lines = s.lines ∧ (takenReport r s).sc = s.sc ∧
    (takenReport r s).xi = s.xi ∧ (takenReport r s).tc = s.tc ∧ (takenReport r s).tq = s.tq ∧
    (takenReport r s).re = s.re ∧ (takenReport r s).cl = s.cl ∧ (takenReport r s).mp = s.mp ∧
    (takenReport r s).pins = s.pins := by
  refine ⟨onClaim_keeps (·.pending) _ _ (fun c s => ?_) s,
    onClaim_keeps (·.powered) _ _ (fun c s => ?_) s,
    onClaim_keeps (·.unanswered) _ _ (fun c s => ?_) s,
    onClaim_keeps (·.lines) _ _ (fun c s => ?_) s,
    onClaim_keeps (·.sc) _ _ (fun c s => ?_) s,
    onClaim_keeps (·.xi) _ _ (fun c s => ?_) s,
    onClaim_keeps (·.tc) _ _ (fun c s => ?_) s,
    onClaim_keeps (·.tq) _ _ (fun c s => ?_) s,
    onClaim_keeps (·.re) _ _ (fun c s => ?_) s,
    onClaim_keeps (·.cl) _ _ (fun c s => ?_) s,
    onClaim_keeps (·.mp) _ _ (fun c s => ?_) s,
    onClaim_keeps (·.pins) _ _ (fun c s => ?_) s⟩ <;> (repeat' split) <;> simp

@[simp] theorem claimOutcome_keeps (r : Resource) (o : ClaimOutcome) (st : Standing) :
    (claimOutcome r o st s).pending = s.pending ∧ (claimOutcome r o st s).powered = s.powered ∧
    (claimOutcome r o st s).unanswered = s.unanswered ∧ (claimOutcome r o st s).lines = s.lines ∧
    (claimOutcome r o st s).sc = s.sc ∧ (claimOutcome r o st s).xi = s.xi ∧ (claimOutcome r o st s).tc = s.tc ∧
    (claimOutcome r o st s).re = s.re ∧ (claimOutcome r o st s).cl = s.cl ∧ (claimOutcome r o st s).pins = s.pins := by
  refine ⟨onClaim_keeps (·.pending) _ _ (fun c s => ?_) s,
    onClaim_keeps (·.powered) _ _ (fun c s => ?_) s,
    onClaim_keeps (·.unanswered) _ _ (fun c s => ?_) s,
    onClaim_keeps (·.lines) _ _ (fun c s => ?_) s,
    onClaim_keeps (·.sc) _ _ (fun c s => ?_) s,
    onClaim_keeps (·.xi) _ _ (fun c s => ?_) s,
    onClaim_keeps (·.tc) _ _ (fun c s => ?_) s,
    onClaim_keeps (·.re) _ _ (fun c s => ?_) s,
    onClaim_keeps (·.cl) _ _ (fun c s => ?_) s,
    onClaim_keeps (·.pins) _ _ (fun c s => ?_) s⟩ <;> (repeat' split) <;> simp

@[simp] theorem dropApplied_keeps (r : Resource) :
    (dropApplied r s).pending = s.pending ∧ (dropApplied r s).powered = s.powered ∧
    (dropApplied r s).unanswered = s.unanswered ∧ (dropApplied r s).lines = s.lines ∧ (dropApplied r s).sc = s.sc ∧
    (dropApplied r s).xi = s.xi ∧ (dropApplied r s).tc = s.tc ∧ (dropApplied r s).re = s.re ∧
    (dropApplied r s).cl = s.cl ∧ (dropApplied r s).mp = s.mp ∧ (dropApplied r s).pins = s.pins := by
  refine ⟨onClaim_keeps (·.pending) _ _ (fun c s => ?_) s,
    onClaim_keeps (·.powered) _ _ (fun c s => ?_) s,
    onClaim_keeps (·.unanswered) _ _ (fun c s => ?_) s,
    onClaim_keeps (·.lines) _ _ (fun c s => ?_) s,
    onClaim_keeps (·.sc) _ _ (fun c s => ?_) s,
    onClaim_keeps (·.xi) _ _ (fun c s => ?_) s,
    onClaim_keeps (·.tc) _ _ (fun c s => ?_) s,
    onClaim_keeps (·.re) _ _ (fun c s => ?_) s,
    onClaim_keeps (·.cl) _ _ (fun c s => ?_) s,
    onClaim_keeps (·.mp) _ _ (fun c s => ?_) s,
    onClaim_keeps (·.pins) _ _ (fun c s => ?_) s⟩ <;> (repeat' split) <;> simp

@[simp] theorem claimDropped_keeps (r : Resource) :
    (claimDropped r s).pending = s.pending ∧ (claimDropped r s).powered = s.powered ∧
    (claimDropped r s).unanswered = s.unanswered ∧ (claimDropped r s).lines = s.lines ∧ (claimDropped r s).sc = s.sc ∧
    (claimDropped r s).xi = s.xi ∧ (claimDropped r s).tc = s.tc ∧ (claimDropped r s).re = s.re ∧
    (claimDropped r s).cl = s.cl ∧ (claimDropped r s).mp = s.mp ∧ (claimDropped r s).pins = s.pins := by
  refine ⟨onClaim_keeps (·.pending) _ _ (fun c s => ?_) s,
    onClaim_keeps (·.powered) _ _ (fun c s => ?_) s,
    onClaim_keeps (·.unanswered) _ _ (fun c s => ?_) s,
    onClaim_keeps (·.lines) _ _ (fun c s => ?_) s,
    onClaim_keeps (·.sc) _ _ (fun c s => ?_) s,
    onClaim_keeps (·.xi) _ _ (fun c s => ?_) s,
    onClaim_keeps (·.tc) _ _ (fun c s => ?_) s,
    onClaim_keeps (·.re) _ _ (fun c s => ?_) s,
    onClaim_keeps (·.cl) _ _ (fun c s => ?_) s,
    onClaim_keeps (·.mp) _ _ (fun c s => ?_) s,
    onClaim_keeps (·.pins) _ _ (fun c s => ?_) s⟩ <;> (repeat' split) <;> simp

@[simp] theorem dropDropped_keeps (r : Resource) :
    (dropDropped r s).pending = s.pending ∧ (dropDropped r s).powered = s.powered ∧
    (dropDropped r s).unanswered = s.unanswered ∧ (dropDropped r s).lines = s.lines ∧ (dropDropped r s).sc = s.sc ∧
    (dropDropped r s).xi = s.xi ∧ (dropDropped r s).tc = s.tc ∧ (dropDropped r s).re = s.re ∧
    (dropDropped r s).cl = s.cl ∧ (dropDropped r s).pins = s.pins := by
  refine ⟨onClaim_keeps (·.pending) _ _ (fun c s => ?_) s,
    onClaim_keeps (·.powered) _ _ (fun c s => ?_) s,
    onClaim_keeps (·.unanswered) _ _ (fun c s => ?_) s,
    onClaim_keeps (·.lines) _ _ (fun c s => ?_) s,
    onClaim_keeps (·.sc) _ _ (fun c s => ?_) s,
    onClaim_keeps (·.xi) _ _ (fun c s => ?_) s,
    onClaim_keeps (·.tc) _ _ (fun c s => ?_) s,
    onClaim_keeps (·.re) _ _ (fun c s => ?_) s,
    onClaim_keeps (·.cl) _ _ (fun c s => ?_) s,
    onClaim_keeps (·.pins) _ _ (fun c s => ?_) s⟩ <;> (repeat' split) <;> simp

@[simp] theorem grantedEntry_keeps (r : Resource) (d : Bool) :
    (grantedEntry r d s).pending = s.pending ∧ (grantedEntry r d s).powered = s.powered ∧
    (grantedEntry r d s).unanswered = s.unanswered ∧ (grantedEntry r d s).lines = s.lines ∧
    (grantedEntry r d s).sc = s.sc ∧ (grantedEntry r d s).xi = s.xi ∧ (grantedEntry r d s).tc = s.tc ∧
    (grantedEntry r d s).tq = s.tq ∧ (grantedEntry r d s).re = s.re ∧ (grantedEntry r d s).cl = s.cl ∧
    (grantedEntry r d s).pins = s.pins := by
  refine ⟨onClaim_keeps (·.pending) _ _ (fun c s => ?_) s,
    onClaim_keeps (·.powered) _ _ (fun c s => ?_) s,
    onClaim_keeps (·.unanswered) _ _ (fun c s => ?_) s,
    onClaim_keeps (·.lines) _ _ (fun c s => ?_) s,
    onClaim_keeps (·.sc) _ _ (fun c s => ?_) s,
    onClaim_keeps (·.xi) _ _ (fun c s => ?_) s,
    onClaim_keeps (·.tc) _ _ (fun c s => ?_) s,
    onClaim_keeps (·.tq) _ _ (fun c s => ?_) s,
    onClaim_keeps (·.re) _ _ (fun c s => ?_) s,
    onClaim_keeps (·.cl) _ _ (fun c s => ?_) s,
    onClaim_keeps (·.pins) _ _ (fun c s => ?_) s⟩ <;> (repeat' split) <;> simp

@[simp] theorem yieldEntry_keeps (r : Resource) (d : Bool) :
    (yieldEntry r d s).pending = s.pending ∧ (yieldEntry r d s).powered = s.powered ∧
    (yieldEntry r d s).unanswered = s.unanswered ∧ (yieldEntry r d s).lines = s.lines ∧ (yieldEntry r d s).sc = s.sc ∧
    (yieldEntry r d s).xi = s.xi ∧ (yieldEntry r d s).tc = s.tc ∧ (yieldEntry r d s).tq = s.tq ∧
    (yieldEntry r d s).re = s.re ∧ (yieldEntry r d s).cl = s.cl ∧ (yieldEntry r d s).pins = s.pins := by
  refine ⟨onClaim_keeps (·.pending) _ _ (fun c s => ?_) s,
    onClaim_keeps (·.powered) _ _ (fun c s => ?_) s,
    onClaim_keeps (·.unanswered) _ _ (fun c s => ?_) s,
    onClaim_keeps (·.lines) _ _ (fun c s => ?_) s,
    onClaim_keeps (·.sc) _ _ (fun c s => ?_) s,
    onClaim_keeps (·.xi) _ _ (fun c s => ?_) s,
    onClaim_keeps (·.tc) _ _ (fun c s => ?_) s,
    onClaim_keeps (·.tq) _ _ (fun c s => ?_) s,
    onClaim_keeps (·.re) _ _ (fun c s => ?_) s,
    onClaim_keeps (·.cl) _ _ (fun c s => ?_) s,
    onClaim_keeps (·.pins) _ _ (fun c s => ?_) s⟩ <;> (repeat' split) <;> simp

@[simp] theorem postHoldLost_keeps (ns : List BindingNo) (r : Resource) (why : LossReason) :
    (postHoldLost ns r why s).pending = s.pending ∧ (postHoldLost ns r why s).powered = s.powered ∧
    (postHoldLost ns r why s).unanswered = s.unanswered ∧ (postHoldLost ns r why s).lines = s.lines ∧
    (postHoldLost ns r why s).sc = s.sc ∧ (postHoldLost ns r why s).xi = s.xi ∧ (postHoldLost ns r why s).tc = s.tc ∧
    (postHoldLost ns r why s).tq = s.tq ∧ (postHoldLost ns r why s).re = s.re ∧ (postHoldLost ns r why s).bu = s.bu ∧
    (postHoldLost ns r why s).cl = s.cl ∧ (postHoldLost ns r why s).pins = s.pins := by
  unfold postHoldLost
  try dsimp only
  (repeat' split) <;> simp

@[simp] theorem removedEntry_keeps (r : Resource) :
    (removedEntry r s).pending = s.pending ∧ (removedEntry r s).powered = s.powered ∧
    (removedEntry r s).unanswered = s.unanswered ∧ (removedEntry r s).lines = s.lines ∧ (removedEntry r s).sc = s.sc ∧
    (removedEntry r s).xi = s.xi ∧ (removedEntry r s).tc = s.tc ∧ (removedEntry r s).re = s.re ∧
    (removedEntry r s).cl = s.cl ∧ (removedEntry r s).pins = s.pins := by
  refine ⟨onClaim_keeps (·.pending) _ _ (fun c s => ?_) s,
    onClaim_keeps (·.powered) _ _ (fun c s => ?_) s,
    onClaim_keeps (·.unanswered) _ _ (fun c s => ?_) s,
    onClaim_keeps (·.lines) _ _ (fun c s => ?_) s,
    onClaim_keeps (·.sc) _ _ (fun c s => ?_) s,
    onClaim_keeps (·.xi) _ _ (fun c s => ?_) s,
    onClaim_keeps (·.tc) _ _ (fun c s => ?_) s,
    onClaim_keeps (·.re) _ _ (fun c s => ?_) s,
    onClaim_keeps (·.cl) _ _ (fun c s => ?_) s,
    onClaim_keeps (·.pins) _ _ (fun c s => ?_) s⟩ <;> (repeat' split) <;> simp

@[simp] theorem freedEntry_keeps :
    (freedEntry s).pending = s.pending ∧ (freedEntry s).powered = s.powered ∧
    (freedEntry s).unanswered = s.unanswered ∧ (freedEntry s).lines = s.lines ∧ (freedEntry s).sc = s.sc ∧
    (freedEntry s).xi = s.xi ∧ (freedEntry s).tc = s.tc ∧ (freedEntry s).re = s.re ∧ (freedEntry s).cl = s.cl ∧
    (freedEntry s).mp = s.mp ∧ (freedEntry s).pins = s.pins := by
  refine ⟨foldl_keeps (·.pending) _ (fun s a => ?_) _ _,
    foldl_keeps (·.powered) _ (fun s a => ?_) _ _,
    foldl_keeps (·.unanswered) _ (fun s a => ?_) _ _,
    foldl_keeps (·.lines) _ (fun s a => ?_) _ _,
    foldl_keeps (·.sc) _ (fun s a => ?_) _ _,
    foldl_keeps (·.xi) _ (fun s a => ?_) _ _,
    foldl_keeps (·.tc) _ (fun s a => ?_) _ _,
    foldl_keeps (·.re) _ (fun s a => ?_) _ _,
    foldl_keeps (·.cl) _ (fun s a => ?_) _ _,
    foldl_keeps (·.mp) _ (fun s a => ?_) _ _,
    foldl_keeps (·.pins) _ (fun s a => ?_) _ _⟩ <;> (try dsimp only) <;> (try split) <;> simp

@[simp] theorem takeEntry_keeps (e : BatchEntry) :
    (takeEntry s e).pending = s.pending ∧ (takeEntry s e).powered = s.powered ∧
    (takeEntry s e).unanswered = s.unanswered ∧ (takeEntry s e).lines = s.lines ∧ (takeEntry s e).sc = s.sc ∧
    (takeEntry s e).xi = s.xi ∧ (takeEntry s e).tc = s.tc ∧ (takeEntry s e).re = s.re ∧ (takeEntry s e).cl = s.cl ∧
    (takeEntry s e).pins = s.pins := by
  unfold takeEntry
  try dsimp only
  (repeat' split) <;> simp

@[simp] theorem takeBatch_keeps (es : List BatchEntry) :
    (takeBatch es s).pending = s.pending ∧ (takeBatch es s).powered = s.powered ∧
    (takeBatch es s).unanswered = s.unanswered ∧ (takeBatch es s).lines = s.lines ∧ (takeBatch es s).sc = s.sc ∧
    (takeBatch es s).xi = s.xi ∧ (takeBatch es s).tc = s.tc ∧ (takeBatch es s).re = s.re ∧ (takeBatch es s).cl = s.cl ∧
    (takeBatch es s).pins = s.pins := by
  refine ⟨foldl_keeps (·.pending) _ (fun s a => ?_) _ _,
    foldl_keeps (·.powered) _ (fun s a => ?_) _ _,
    foldl_keeps (·.unanswered) _ (fun s a => ?_) _ _,
    foldl_keeps (·.lines) _ (fun s a => ?_) _ _,
    foldl_keeps (·.sc) _ (fun s a => ?_) _ _,
    foldl_keeps (·.xi) _ (fun s a => ?_) _ _,
    foldl_keeps (·.tc) _ (fun s a => ?_) _ _,
    foldl_keeps (·.re) _ (fun s a => ?_) _ _,
    foldl_keeps (·.cl) _ (fun s a => ?_) _ _,
    foldl_keeps (·.pins) _ (fun s a => ?_) _ _⟩ <;> (try dsimp only) <;> (try split) <;> simp

@[simp] theorem wholesaleLoss_keeps (why : LossReason) :
    (wholesaleLoss why s).pending = s.pending ∧ (wholesaleLoss why s).powered = s.powered ∧
    (wholesaleLoss why s).unanswered = s.unanswered ∧ (wholesaleLoss why s).lines = s.lines ∧
    (wholesaleLoss why s).sc = s.sc ∧ (wholesaleLoss why s).xi = s.xi ∧ (wholesaleLoss why s).tc = s.tc ∧
    (wholesaleLoss why s).tq = s.tq ∧ (wholesaleLoss why s).re = s.re ∧ (wholesaleLoss why s).cl = s.cl ∧
    (wholesaleLoss why s).pins = s.pins := by
  refine ⟨foldl_keeps (·.pending) _ (fun s a => ?_) _ _,
    foldl_keeps (·.powered) _ (fun s a => ?_) _ _,
    foldl_keeps (·.unanswered) _ (fun s a => ?_) _ _,
    foldl_keeps (·.lines) _ (fun s a => ?_) _ _,
    foldl_keeps (·.sc) _ (fun s a => ?_) _ _,
    foldl_keeps (·.xi) _ (fun s a => ?_) _ _,
    foldl_keeps (·.tc) _ (fun s a => ?_) _ _,
    foldl_keeps (·.tq) _ (fun s a => ?_) _ _,
    foldl_keeps (·.re) _ (fun s a => ?_) _ _,
    foldl_keeps (·.cl) _ (fun s a => ?_) _ _,
    foldl_keeps (·.pins) _ (fun s a => ?_) _ _⟩ <;> (try dsimp only) <;> (try split) <;> simp

@[simp] theorem takeUpClaims_keeps :
    (takeUpClaims s).pending = s.pending ∧ (takeUpClaims s).powered = s.powered ∧
    (takeUpClaims s).unanswered = s.unanswered ∧ (takeUpClaims s).lines = s.lines ∧ (takeUpClaims s).sc = s.sc ∧
    (takeUpClaims s).xi = s.xi ∧ (takeUpClaims s).tc = s.tc ∧ (takeUpClaims s).re = s.re ∧ (takeUpClaims s).cl = s.cl ∧
    (takeUpClaims s).mp = s.mp ∧ (takeUpClaims s).pins = s.pins := by
  refine ⟨foldl_keeps (·.pending) _ (fun s a => ?_) _ _,
    foldl_keeps (·.powered) _ (fun s a => ?_) _ _,
    foldl_keeps (·.unanswered) _ (fun s a => ?_) _ _,
    foldl_keeps (·.lines) _ (fun s a => ?_) _ _,
    foldl_keeps (·.sc) _ (fun s a => ?_) _ _,
    foldl_keeps (·.xi) _ (fun s a => ?_) _ _,
    foldl_keeps (·.tc) _ (fun s a => ?_) _ _,
    foldl_keeps (·.re) _ (fun s a => ?_) _ _,
    foldl_keeps (·.cl) _ (fun s a => ?_) _ _,
    foldl_keeps (·.mp) _ (fun s a => ?_) _ _,
    foldl_keeps (·.pins) _ (fun s a => ?_) _ _⟩ <;> (try dsimp only) <;> (try split) <;> simp


/-! ### Attempts and tenure -/

@[simp] theorem beginAttempt_keeps (w : Sent) :
    (beginAttempt w s).pending = s.pending ∧ (beginAttempt w s).powered = s.powered ∧
    (beginAttempt w s).unanswered = s.unanswered ∧ (beginAttempt w s).lines = s.lines ∧ (beginAttempt w s).sc = s.sc ∧
    (beginAttempt w s).tc = s.tc ∧ (beginAttempt w s).tq = s.tq ∧ (beginAttempt w s).re = s.re ∧
    (beginAttempt w s).bu = s.bu ∧ (beginAttempt w s).cl = s.cl ∧ (beginAttempt w s).mp = s.mp ∧
    (beginAttempt w s).pins = s.pins := by
  unfold beginAttempt
  try dsimp only
  (repeat' split) <;> simp

@[simp] theorem reportTaken_keeps (h : Handed) :
    (reportTaken h s).pending = s.pending ∧ (reportTaken h s).powered = s.powered ∧
    (reportTaken h s).unanswered = s.unanswered ∧ (reportTaken h s).lines = s.lines ∧ (reportTaken h s).sc = s.sc ∧
    (reportTaken h s).xi = s.xi ∧ (reportTaken h s).tc = s.tc ∧ (reportTaken h s).tq = s.tq ∧
    (reportTaken h s).re = s.re ∧ (reportTaken h s).cl = s.cl ∧ (reportTaken h s).mp = s.mp ∧
    (reportTaken h s).pins = s.pins := by
  unfold reportTaken
  try dsimp only
  (repeat' split) <;> simp

@[simp] theorem askNext_keeps :
    (askNext s).pending = s.pending ∧ (askNext s).powered = s.powered ∧ (askNext s).unanswered = s.unanswered ∧
    (askNext s).lines = s.lines ∧ (askNext s).sc = s.sc ∧ (askNext s).re = s.re ∧ (askNext s).cl = s.cl ∧
    (askNext s).mp = s.mp ∧ (askNext s).pins = s.pins := by
  unfold askNext
  try dsimp only
  (repeat' split) <;> simp

@[simp] theorem State.withTenure_keeps (t : TenureState) :
    (s.withTenure t).pending = s.pending ∧ (s.withTenure t).powered = s.powered ∧
    (s.withTenure t).unanswered = s.unanswered ∧ (s.withTenure t).lines = s.lines ∧ (s.withTenure t).sc = s.sc ∧
    (s.withTenure t).xi = s.xi ∧ (s.withTenure t).tq = s.tq ∧ (s.withTenure t).re = s.re ∧ (s.withTenure t).bu = s.bu ∧
    (s.withTenure t).cl = s.cl ∧ (s.withTenure t).mp = s.mp ∧ (s.withTenure t).pins = s.pins := by
  unfold State.withTenure
  try dsimp only
  (repeat' split) <;> simp

@[simp] theorem contend_keeps (b : Bool) :
    (contend b s).pending = s.pending ∧ (contend b s).powered = s.powered ∧ (contend b s).unanswered = s.unanswered ∧
    (contend b s).lines = s.lines ∧ (contend b s).sc = s.sc ∧ (contend b s).xi = s.xi ∧ (contend b s).tq = s.tq ∧
    (contend b s).re = s.re ∧ (contend b s).bu = s.bu ∧ (contend b s).cl = s.cl ∧ (contend b s).mp = s.mp ∧
    (contend b s).pins = s.pins := by
  unfold contend
  try dsimp only
  (repeat' split) <;> simp

@[simp] theorem wantBus_keeps :
    (wantBus s).pending = s.pending ∧ (wantBus s).powered = s.powered ∧ (wantBus s).unanswered = s.unanswered ∧
    (wantBus s).lines = s.lines ∧ (wantBus s).sc = s.sc ∧ (wantBus s).xi = s.xi ∧ (wantBus s).tq = s.tq ∧
    (wantBus s).re = s.re ∧ (wantBus s).bu = s.bu ∧ (wantBus s).cl = s.cl ∧ (wantBus s).mp = s.mp ∧
    (wantBus s).pins = s.pins := by
  unfold wantBus
  try dsimp only
  (repeat' split) <;> simp

@[simp] theorem busBecomesFree_keeps :
    (busBecomesFree s).pending = s.pending ∧ (busBecomesFree s).powered = s.powered ∧
    (busBecomesFree s).unanswered = s.unanswered ∧ (busBecomesFree s).lines = s.lines ∧ (busBecomesFree s).sc = s.sc ∧
    (busBecomesFree s).xi = s.xi ∧ (busBecomesFree s).tq = s.tq ∧ (busBecomesFree s).re = s.re ∧
    (busBecomesFree s).bu = s.bu ∧ (busBecomesFree s).cl = s.cl ∧ (busBecomesFree s).mp = s.mp ∧
    (busBecomesFree s).pins = s.pins := by
  unfold busBecomesFree
  try dsimp only
  (repeat' split) <;> simp

@[simp] theorem contentionOpens_keeps :
    (contentionOpens s).pending = s.pending ∧ (contentionOpens s).powered = s.powered ∧
    (contentionOpens s).unanswered = s.unanswered ∧ (contentionOpens s).lines = s.lines ∧
    (contentionOpens s).sc = s.sc ∧ (contentionOpens s).xi = s.xi ∧ (contentionOpens s).tq = s.tq ∧
    (contentionOpens s).re = s.re ∧ (contentionOpens s).bu = s.bu ∧ (contentionOpens s).cl = s.cl ∧
    (contentionOpens s).mp = s.mp ∧ (contentionOpens s).pins = s.pins := by
  unfold contentionOpens
  try dsimp only
  (repeat' split) <;> simp

@[simp] theorem surrender_keeps :
    (surrender s).pending = s.pending ∧ (surrender s).powered = s.powered ∧ (surrender s).unanswered = s.unanswered ∧
    (surrender s).lines = s.lines ∧ (surrender s).sc = s.sc ∧ (surrender s).xi = s.xi ∧ (surrender s).tq = s.tq ∧
    (surrender s).re = s.re ∧ (surrender s).bu = s.bu ∧ (surrender s).cl = s.cl ∧ (surrender s).mp = s.mp ∧
    (surrender s).pins = s.pins := by
  unfold surrender
  try dsimp only
  (repeat' split) <;> simp

@[simp] theorem noteWork_keeps :
    (noteWork s).pending = s.pending ∧ (noteWork s).powered = s.powered ∧ (noteWork s).unanswered = s.unanswered ∧
    (noteWork s).lines = s.lines ∧ (noteWork s).sc = s.sc ∧ (noteWork s).xi = s.xi ∧ (noteWork s).tq = s.tq ∧
    (noteWork s).re = s.re ∧ (noteWork s).bu = s.bu ∧ (noteWork s).cl = s.cl ∧ (noteWork s).mp = s.mp ∧
    (noteWork s).pins = s.pins := by
  unfold noteWork
  try dsimp only
  (repeat' split) <;> simp

@[simp] theorem holdingDecision_keeps (r : Bool) :
    (holdingDecision r s).pending = s.pending ∧ (holdingDecision r s).powered = s.powered ∧
    (holdingDecision r s).unanswered = s.unanswered ∧ (holdingDecision r s).lines = s.lines ∧
    (holdingDecision r s).sc = s.sc ∧ (holdingDecision r s).re = s.re ∧ (holdingDecision r s).cl = s.cl ∧
    (holdingDecision r s).mp = s.mp ∧ (holdingDecision r s).pins = s.pins := by
  unfold holdingDecision
  try dsimp only
  (repeat' split) <;> simp

@[simp] theorem attemptReport_keeps (r : Bool) :
    (attemptReport r s).pending = s.pending ∧ (attemptReport r s).powered = s.powered ∧
    (attemptReport r s).unanswered = s.unanswered ∧ (attemptReport r s).lines = s.lines ∧ (attemptReport r s).sc = s.sc ∧
    (attemptReport r s).re = s.re ∧ (attemptReport r s).cl = s.cl ∧ (attemptReport r s).mp = s.mp ∧
    (attemptReport r s).pins = s.pins := by
  unfold attemptReport
  try dsimp only
  (repeat' split) <;> simp

@[simp] theorem contenderCloses_keeps (won : Bool) :
    (contenderCloses won s).pending = s.pending ∧ (contenderCloses won s).powered = s.powered ∧
    (contenderCloses won s).unanswered = s.unanswered ∧ (contenderCloses won s).lines = s.lines ∧
    (contenderCloses won s).sc = s.sc ∧ (contenderCloses won s).re = s.re ∧ (contenderCloses won s).cl = s.cl ∧
    (contenderCloses won s).mp = s.mp ∧ (contenderCloses won s).pins = s.pins := by
  unfold contenderCloses
  try dsimp only
  (repeat' split) <;> simp

@[simp] theorem contentionCloses_keeps (o : Option Station) :
    (contentionCloses o s).pending = s.pending ∧ (contentionCloses o s).powered = s.powered ∧
    (contentionCloses o s).unanswered = s.unanswered ∧ (contentionCloses o s).sc = s.sc ∧
    (contentionCloses o s).re = s.re ∧ (contentionCloses o s).cl = s.cl ∧ (contentionCloses o s).mp = s.mp ∧
    (contentionCloses o s).pins = s.pins := by
  unfold contentionCloses
  try dsimp only
  (repeat' split) <;> simp

@[simp] theorem xtenAsserted_keeps :
    (xtenAsserted s).pending = s.pending ∧ (xtenAsserted s).powered = s.powered ∧
    (xtenAsserted s).unanswered = s.unanswered ∧ (xtenAsserted s).sc = s.sc ∧ (xtenAsserted s).xi = s.xi ∧
    (xtenAsserted s).tq = s.tq ∧ (xtenAsserted s).re = s.re ∧ (xtenAsserted s).bu = s.bu ∧ (xtenAsserted s).cl = s.cl ∧
    (xtenAsserted s).mp = s.mp ∧ (xtenAsserted s).pins = s.pins := by
  unfold xtenAsserted
  try dsimp only
  (repeat' split) <;> simp

@[simp] theorem xtenReleased_keeps :
    (xtenReleased s).pending = s.pending ∧ (xtenReleased s).powered = s.powered ∧
    (xtenReleased s).unanswered = s.unanswered ∧ (xtenReleased s).sc = s.sc ∧ (xtenReleased s).xi = s.xi ∧
    (xtenReleased s).tq = s.tq ∧ (xtenReleased s).re = s.re ∧ (xtenReleased s).bu = s.bu ∧ (xtenReleased s).cl = s.cl ∧
    (xtenReleased s).mp = s.mp ∧ (xtenReleased s).pins = s.pins := by
  unfold xtenReleased
  try dsimp only
  (repeat' split) <;> simp

@[simp] theorem busQuiet_keeps :
    (busQuiet s).pending = s.pending ∧ (busQuiet s).powered = s.powered ∧ (busQuiet s).unanswered = s.unanswered ∧
    (busQuiet s).lines = s.lines ∧ (busQuiet s).sc = s.sc ∧ (busQuiet s).xi = s.xi ∧ (busQuiet s).tq = s.tq ∧
    (busQuiet s).re = s.re ∧ (busQuiet s).bu = s.bu ∧ (busQuiet s).cl = s.cl ∧ (busQuiet s).mp = s.mp ∧
    (busQuiet s).pins = s.pins := by
  unfold busQuiet
  try dsimp only
  (repeat' split) <;> simp

@[simp] theorem xwantAsserted_keeps :
    (xwantAsserted s).pending = s.pending ∧ (xwantAsserted s).powered = s.powered ∧
    (xwantAsserted s).unanswered = s.unanswered ∧ (xwantAsserted s).sc = s.sc ∧ (xwantAsserted s).xi = s.xi ∧
    (xwantAsserted s).tq = s.tq ∧ (xwantAsserted s).re = s.re ∧ (xwantAsserted s).bu = s.bu ∧
    (xwantAsserted s).cl = s.cl ∧ (xwantAsserted s).mp = s.mp ∧ (xwantAsserted s).pins = s.pins := by
  unfold xwantAsserted
  try dsimp only
  (repeat' split) <;> simp

@[simp] theorem xwantReleased_keeps :
    (xwantReleased s).pending = s.pending ∧ (xwantReleased s).powered = s.powered ∧
    (xwantReleased s).unanswered = s.unanswered ∧ (xwantReleased s).sc = s.sc ∧ (xwantReleased s).xi = s.xi ∧
    (xwantReleased s).tq = s.tq ∧ (xwantReleased s).re = s.re ∧ (xwantReleased s).bu = s.bu ∧
    (xwantReleased s).cl = s.cl ∧ (xwantReleased s).mp = s.mp ∧ (xwantReleased s).pins = s.pins := by
  unfold xwantReleased
  try dsimp only
  (repeat' split) <;> simp

@[simp] theorem placeOffline_keeps :
    (placeOffline s).pending = s.pending ∧ (placeOffline s).powered = s.powered ∧
    (placeOffline s).unanswered = s.unanswered ∧ (placeOffline s).lines = s.lines ∧ (placeOffline s).sc = s.sc ∧
    (placeOffline s).tq = s.tq ∧ (placeOffline s).re = s.re ∧ (placeOffline s).bu = s.bu ∧ (placeOffline s).cl = s.cl ∧
    (placeOffline s).mp = s.mp ∧ (placeOffline s).pins = s.pins := by
  unfold placeOffline
  try dsimp only
  (repeat' split) <;> simp

@[simp] theorem placeOnline_keeps :
    (placeOnline s).pending = s.pending ∧ (placeOnline s).powered = s.powered ∧
    (placeOnline s).unanswered = s.unanswered ∧ (placeOnline s).lines = s.lines ∧ (placeOnline s).sc = s.sc ∧
    (placeOnline s).xi = s.xi ∧ (placeOnline s).tq = s.tq ∧ (placeOnline s).re = s.re ∧ (placeOnline s).bu = s.bu ∧
    (placeOnline s).cl = s.cl ∧ (placeOnline s).mp = s.mp ∧ (placeOnline s).pins = s.pins := by
  unfold placeOnline
  try dsimp only
  (repeat' split) <;> simp

@[simp] theorem tellWork_keeps :
    (tellWork s).pending = s.pending ∧ (tellWork s).powered = s.powered ∧ (tellWork s).unanswered = s.unanswered ∧
    (tellWork s).lines = s.lines ∧ (tellWork s).sc = s.sc ∧ (tellWork s).re = s.re ∧ (tellWork s).cl = s.cl ∧
    (tellWork s).mp = s.mp ∧ (tellWork s).pins = s.pins := by
  unfold tellWork
  try dsimp only
  (repeat' split) <;> simp

@[simp] theorem drivePins_keeps :
    (drivePins s).pending = s.pending ∧ (drivePins s).powered = s.powered ∧ (drivePins s).unanswered = s.unanswered ∧
    (drivePins s).lines = s.lines ∧ (drivePins s).sc = s.sc ∧ (drivePins s).xi = s.xi ∧ (drivePins s).tc = s.tc ∧
    (drivePins s).tq = s.tq ∧ (drivePins s).re = s.re ∧ (drivePins s).bu = s.bu ∧ (drivePins s).cl = s.cl ∧
    (drivePins s).mp = s.mp := by
  unfold drivePins
  try dsimp only
  (repeat' split) <;> simp

@[simp] theorem settle_keeps :
    (settle s).pending = s.pending ∧ (settle s).powered = s.powered ∧ (settle s).unanswered = s.unanswered ∧
    (settle s).lines = s.lines ∧ (settle s).sc = s.sc ∧ (settle s).re = s.re ∧ (settle s).cl = s.cl ∧
    (settle s).mp = s.mp := by
  unfold settle
  try dsimp only
  (repeat' split) <;> simp


/-! ### The station controller -/

@[simp] theorem enterState_keeps (st : StationState) (c : Cause) :
    (enterState st c s).pending = s.pending ∧ (enterState st c s).powered = s.powered ∧
    (enterState st c s).unanswered = s.unanswered ∧ (enterState st c s).lines = s.lines ∧
    (enterState st c s).bu = s.bu ∧ (enterState st c s).cl = s.cl ∧ (enterState st c s).pins = s.pins := by
  unfold enterState
  try dsimp only
  (repeat' split) <;> simp

@[simp] theorem enterFault_keeps (f : FaultReason) (c : Cause) :
    (enterFault f c s).pending = s.pending ∧ (enterFault f c s).powered = s.powered ∧
    (enterFault f c s).unanswered = s.unanswered ∧ (enterFault f c s).lines = s.lines ∧ (enterFault f c s).bu = s.bu ∧
    (enterFault f c s).cl = s.cl ∧ (enterFault f c s).pins = s.pins := by
  unfold enterFault
  try dsimp only
  (repeat' split) <;> simp

@[simp] theorem State.withSilence_keeps (v : Vector Silence 16) :
    (s.withSilence v).pending = s.pending ∧ (s.withSilence v).powered = s.powered ∧
    (s.withSilence v).unanswered = s.unanswered ∧ (s.withSilence v).lines = s.lines ∧ (s.withSilence v).xi = s.xi ∧
    (s.withSilence v).tc = s.tc ∧ (s.withSilence v).tq = s.tq ∧ (s.withSilence v).re = s.re ∧
    (s.withSilence v).bu = s.bu ∧ (s.withSilence v).cl = s.cl ∧ (s.withSilence v).mp = s.mp ∧
    (s.withSilence v).pins = s.pins := by
  unfold State.withSilence
  try dsimp only
  (repeat' split) <;> simp

@[simp] theorem memberReport_keeps (x : Station) (m : MemberState) :
    (memberReport x m s).pending = s.pending ∧ (memberReport x m s).powered = s.powered ∧
    (memberReport x m s).unanswered = s.unanswered ∧ (memberReport x m s).lines = s.lines ∧
    (memberReport x m s).xi = s.xi ∧ (memberReport x m s).tc = s.tc ∧ (memberReport x m s).re = s.re ∧
    (memberReport x m s).bu = s.bu ∧ (memberReport x m s).cl = s.cl ∧ (memberReport x m s).mp = s.mp ∧
    (memberReport x m s).pins = s.pins := by
  unfold memberReport
  try dsimp only
  (repeat' split) <;> simp

@[simp] theorem silenceHeard_keeps (x : Station) :
    (silenceHeard x s).pending = s.pending ∧ (silenceHeard x s).powered = s.powered ∧
    (silenceHeard x s).unanswered = s.unanswered ∧ (silenceHeard x s).lines = s.lines ∧ (silenceHeard x s).xi = s.xi ∧
    (silenceHeard x s).tc = s.tc ∧ (silenceHeard x s).tq = s.tq ∧ (silenceHeard x s).re = s.re ∧
    (silenceHeard x s).bu = s.bu ∧ (silenceHeard x s).cl = s.cl ∧ (silenceHeard x s).mp = s.mp ∧
    (silenceHeard x s).pins = s.pins := by
  unfold silenceHeard
  try dsimp only
  (repeat' split) <;> simp

@[simp] theorem stopWatch_keeps :
    (stopWatch s).pending = s.pending ∧ (stopWatch s).powered = s.powered ∧ (stopWatch s).unanswered = s.unanswered ∧
    (stopWatch s).lines = s.lines ∧ (stopWatch s).xi = s.xi ∧ (stopWatch s).tc = s.tc ∧ (stopWatch s).tq = s.tq ∧
    (stopWatch s).re = s.re ∧ (stopWatch s).bu = s.bu ∧ (stopWatch s).cl = s.cl ∧ (stopWatch s).mp = s.mp ∧
    (stopWatch s).pins = s.pins := by
  unfold stopWatch
  try dsimp only
  (repeat' split) <;> simp

@[simp] theorem teardown_keeps (why : LossReason) :
    (teardown why s).pending = s.pending ∧ (teardown why s).powered = s.powered ∧
    (teardown why s).unanswered = s.unanswered ∧ (teardown why s).lines = s.lines ∧ (teardown why s).cl = s.cl ∧
    (teardown why s).pins = s.pins := by
  unfold teardown
  try dsimp only
  (repeat' split) <;> simp

@[simp] theorem teardownIfInTable_keeps (why : LossReason) :
    (teardownIfInTable why s).pending = s.pending ∧ (teardownIfInTable why s).powered = s.powered ∧
    (teardownIfInTable why s).unanswered = s.unanswered ∧ (teardownIfInTable why s).lines = s.lines ∧
    (teardownIfInTable why s).cl = s.cl ∧ (teardownIfInTable why s).pins = s.pins := by
  unfold teardownIfInTable
  try dsimp only
  (repeat' split) <;> simp

@[simp] theorem joinAgain_keeps (c : Cause) :
    (joinAgain c s).pending = s.pending ∧ (joinAgain c s).powered = s.powered ∧
    (joinAgain c s).unanswered = s.unanswered ∧ (joinAgain c s).lines = s.lines ∧ (joinAgain c s).bu = s.bu ∧
    (joinAgain c s).cl = s.cl ∧ (joinAgain c s).pins = s.pins := by
  unfold joinAgain
  try dsimp only
  (repeat' split) <;> simp

@[simp] theorem askSilentExpels_keeps (ts : List Station) :
    (askSilentExpels ts s).pending = s.pending ∧ (askSilentExpels ts s).powered = s.powered ∧
    (askSilentExpels ts s).unanswered = s.unanswered ∧ (askSilentExpels ts s).lines = s.lines ∧
    (askSilentExpels ts s).sc = s.sc ∧ (askSilentExpels ts s).xi = s.xi ∧ (askSilentExpels ts s).tc = s.tc ∧
    (askSilentExpels ts s).re = s.re ∧ (askSilentExpels ts s).bu = s.bu ∧ (askSilentExpels ts s).cl = s.cl ∧
    (askSilentExpels ts s).pins = s.pins := by
  refine ⟨foldl_keeps (·.pending) _ (fun s a => ?_) _ _,
    foldl_keeps (·.powered) _ (fun s a => ?_) _ _,
    foldl_keeps (·.unanswered) _ (fun s a => ?_) _ _,
    foldl_keeps (·.lines) _ (fun s a => ?_) _ _,
    foldl_keeps (·.sc) _ (fun s a => ?_) _ _,
    foldl_keeps (·.xi) _ (fun s a => ?_) _ _,
    foldl_keeps (·.tc) _ (fun s a => ?_) _ _,
    foldl_keeps (·.re) _ (fun s a => ?_) _ _,
    foldl_keeps (·.bu) _ (fun s a => ?_) _ _,
    foldl_keeps (·.cl) _ (fun s a => ?_) _ _,
    foldl_keeps (·.pins) _ (fun s a => ?_) _ _⟩ <;> (try dsimp only) <;> (try split) <;> simp

@[simp] theorem confirmedReport_keeps :
    (confirmedReport s).pending = s.pending ∧ (confirmedReport s).powered = s.powered ∧
    (confirmedReport s).unanswered = s.unanswered ∧ (confirmedReport s).lines = s.lines ∧
    (confirmedReport s).cl = s.cl ∧ (confirmedReport s).pins = s.pins := by
  unfold confirmedReport
  try dsimp only
  (repeat' split) <;> simp

@[simp] theorem found_keeps :
    (found s).pending = s.pending ∧ (found s).powered = s.powered ∧ (found s).unanswered = s.unanswered ∧
    (found s).lines = s.lines ∧ (found s).cl = s.cl ∧ (found s).pins = s.pins := by
  unfold found
  try dsimp only
  (repeat' split) <;> simp

@[simp] theorem ownJoinAccepted_keeps :
    (ownJoinAccepted s).pending = s.pending ∧ (ownJoinAccepted s).powered = s.powered ∧
    (ownJoinAccepted s).unanswered = s.unanswered ∧ (ownJoinAccepted s).lines = s.lines ∧
    (ownJoinAccepted s).cl = s.cl ∧ (ownJoinAccepted s).pins = s.pins := by
  unfold ownJoinAccepted
  try dsimp only
  (repeat' split) <;> simp

@[simp] theorem deadlineTakesEffect_keeps :
    (deadlineTakesEffect s).pending = s.pending ∧ (deadlineTakesEffect s).powered = s.powered ∧
    (deadlineTakesEffect s).unanswered = s.unanswered ∧ (deadlineTakesEffect s).lines = s.lines ∧
    (deadlineTakesEffect s).bu = s.bu ∧ (deadlineTakesEffect s).cl = s.cl ∧ (deadlineTakesEffect s).pins = s.pins := by
  unfold deadlineTakesEffect
  try dsimp only
  (repeat' split) <;> simp

@[simp] theorem loadEnded_keeps :
    (loadEnded s).pending = s.pending ∧ (loadEnded s).powered = s.powered ∧ (loadEnded s).unanswered = s.unanswered ∧
    (loadEnded s).lines = s.lines ∧ (loadEnded s).bu = s.bu ∧ (loadEnded s).cl = s.cl ∧
    (loadEnded s).pins = s.pins := by
  unfold loadEnded
  try dsimp only
  (repeat' split) <;> simp

@[simp] theorem completedLoad_keeps :
    (completedLoad s).pending = s.pending ∧ (completedLoad s).powered = s.powered ∧
    (completedLoad s).unanswered = s.unanswered ∧ (completedLoad s).lines = s.lines ∧ (completedLoad s).cl = s.cl ∧
    (completedLoad s).pins = s.pins := by
  unfold completedLoad
  try dsimp only
  (repeat' split) <;> simp

@[simp] theorem takePart_keeps (k : Half) (p : Part) :
    (takePart k p s).pending = s.pending ∧ (takePart k p s).powered = s.powered ∧
    (takePart k p s).unanswered = s.unanswered ∧ (takePart k p s).lines = s.lines ∧ (takePart k p s).cl = s.cl ∧
    (takePart k p s).pins = s.pins := by
  unfold takePart
  try dsimp only
  (repeat' split) <;> simp

@[simp] theorem frameOutsideRun_keeps :
    (frameOutsideRun s).pending = s.pending ∧ (frameOutsideRun s).powered = s.powered ∧
    (frameOutsideRun s).unanswered = s.unanswered ∧ (frameOutsideRun s).lines = s.lines ∧
    (frameOutsideRun s).bu = s.bu ∧ (frameOutsideRun s).cl = s.cl ∧ (frameOutsideRun s).pins = s.pins := by
  unfold frameOutsideRun
  try dsimp only
  (repeat' split) <;> simp

@[simp] theorem selfExpelled_keeps (why : ExpelReason) :
    (selfExpelled why s).pending = s.pending ∧ (selfExpelled why s).powered = s.powered ∧
    (selfExpelled why s).unanswered = s.unanswered ∧ (selfExpelled why s).lines = s.lines ∧
    (selfExpelled why s).cl = s.cl ∧ (selfExpelled why s).pins = s.pins := by
  unfold selfExpelled
  try dsimp only
  (repeat' split) <;> simp

@[simp] theorem foreignReport_keeps :
    (foreignReport s).pending = s.pending ∧ (foreignReport s).powered = s.powered ∧
    (foreignReport s).unanswered = s.unanswered ∧ (foreignReport s).lines = s.lines ∧ (foreignReport s).cl = s.cl ∧
    (foreignReport s).pins = s.pins := by
  unfold foreignReport
  try dsimp only
  (repeat' split) <;> simp

@[simp] theorem twinReport_keeps :
    (twinReport s).pending = s.pending ∧ (twinReport s).powered = s.powered ∧
    (twinReport s).unanswered = s.unanswered ∧ (twinReport s).lines = s.lines ∧ (twinReport s).cl = s.cl ∧
    (twinReport s).pins = s.pins := by
  unfold twinReport
  try dsimp only
  (repeat' split) <;> simp

@[simp] theorem isolate_keeps (c : Cause) :
    (isolate c s).pending = s.pending ∧ (isolate c s).powered = s.powered ∧ (isolate c s).unanswered = s.unanswered ∧
    (isolate c s).lines = s.lines ∧ (isolate c s).cl = s.cl ∧ (isolate c s).pins = s.pins := by
  unfold isolate
  try dsimp only
  (repeat' split) <;> simp

@[simp] theorem holdOffEnds_keeps :
    (holdOffEnds s).pending = s.pending ∧ (holdOffEnds s).powered = s.powered ∧
    (holdOffEnds s).unanswered = s.unanswered ∧ (holdOffEnds s).lines = s.lines ∧ (holdOffEnds s).bu = s.bu ∧
    (holdOffEnds s).cl = s.cl ∧ (holdOffEnds s).pins = s.pins := by
  unfold holdOffEnds
  try dsimp only
  (repeat' split) <;> simp

@[simp] theorem leaveTable_keeps :
    (leaveTable s).pending = s.pending ∧ (leaveTable s).powered = s.powered ∧
    (leaveTable s).unanswered = s.unanswered ∧ (leaveTable s).lines = s.lines ∧ (leaveTable s).cl = s.cl ∧
    (leaveTable s).pins = s.pins := by
  unfold leaveTable
  try dsimp only
  (repeat' split) <;> simp

@[simp] theorem leaveEnds_keeps (c : Cause) :
    (leaveEnds c s).pending = s.pending ∧ (leaveEnds c s).powered = s.powered ∧
    (leaveEnds c s).unanswered = s.unanswered ∧ (leaveEnds c s).lines = s.lines ∧ (leaveEnds c s).bu = s.bu ∧
    (leaveEnds c s).cl = s.cl ∧ (leaveEnds c s).pins = s.pins := by
  unfold leaveEnds
  try dsimp only
  (repeat' split) <;> simp

@[simp] theorem heardReport_keeps (f : Frame) :
    (heardReport f s).pending = s.pending ∧ (heardReport f s).powered = s.powered ∧
    (heardReport f s).unanswered = s.unanswered ∧ (heardReport f s).lines = s.lines ∧ (heardReport f s).xi = s.xi ∧
    (heardReport f s).tc = s.tc ∧ (heardReport f s).tq = s.tq ∧ (heardReport f s).re = s.re ∧
    (heardReport f s).bu = s.bu ∧ (heardReport f s).cl = s.cl ∧ (heardReport f s).mp = s.mp ∧
    (heardReport f s).pins = s.pins := by
  unfold heardReport
  try dsimp only
  (repeat' split) <;> simp

@[simp] theorem frameWhileAwaiting_keeps (f : Frame) :
    (frameWhileAwaiting f s).pending = s.pending ∧ (frameWhileAwaiting f s).powered = s.powered ∧
    (frameWhileAwaiting f s).unanswered = s.unanswered ∧ (frameWhileAwaiting f s).lines = s.lines ∧
    (frameWhileAwaiting f s).cl = s.cl ∧ (frameWhileAwaiting f s).pins = s.pins := by
  unfold frameWhileAwaiting
  try dsimp only
  (repeat' split) <;> simp

@[simp] theorem otherFrameAccepted_keeps (f : Frame) :
    (otherFrameAccepted f s).pending = s.pending ∧ (otherFrameAccepted f s).powered = s.powered ∧
    (otherFrameAccepted f s).unanswered = s.unanswered ∧ (otherFrameAccepted f s).lines = s.lines ∧
    (otherFrameAccepted f s).cl = s.cl ∧ (otherFrameAccepted f s).pins = s.pins := by
  unfold otherFrameAccepted
  try dsimp only
  (repeat' split) <;> simp

@[simp] theorem ownFrameAccepted_keeps (f : Frame) :
    (ownFrameAccepted f s).pending = s.pending ∧ (ownFrameAccepted f s).powered = s.powered ∧
    (ownFrameAccepted f s).unanswered = s.unanswered ∧ (ownFrameAccepted f s).lines = s.lines ∧
    (ownFrameAccepted f s).cl = s.cl ∧ (ownFrameAccepted f s).pins = s.pins := by
  unfold ownFrameAccepted
  try dsimp only
  (repeat' split) <;> simp

@[simp] theorem listenEnds_keeps :
    (listenEnds s).pending = s.pending ∧ (listenEnds s).powered = s.powered ∧
    (listenEnds s).unanswered = s.unanswered ∧ (listenEnds s).lines = s.lines ∧ (listenEnds s).bu = s.bu ∧
    (listenEnds s).cl = s.cl ∧ (listenEnds s).pins = s.pins := by
  unfold listenEnds
  try dsimp only
  (repeat' split) <;> simp

@[simp] theorem deadlineExpires_keeps :
    (deadlineExpires s).pending = s.pending ∧ (deadlineExpires s).powered = s.powered ∧
    (deadlineExpires s).unanswered = s.unanswered ∧ (deadlineExpires s).lines = s.lines ∧
    (deadlineExpires s).bu = s.bu ∧ (deadlineExpires s).cl = s.cl ∧ (deadlineExpires s).pins = s.pins := by
  unfold deadlineExpires
  try dsimp only
  (repeat' split) <;> simp

@[simp] theorem holdOffExpires_keeps :
    (holdOffExpires s).pending = s.pending ∧ (holdOffExpires s).powered = s.powered ∧
    (holdOffExpires s).unanswered = s.unanswered ∧ (holdOffExpires s).lines = s.lines ∧ (holdOffExpires s).bu = s.bu ∧
    (holdOffExpires s).cl = s.cl ∧ (holdOffExpires s).pins = s.pins := by
  unfold holdOffExpires
  try dsimp only
  (repeat' split) <;> simp

@[simp] theorem advanceSilence_keeps :
    (advanceSilence s).pending = s.pending ∧ (advanceSilence s).powered = s.powered ∧
    (advanceSilence s).unanswered = s.unanswered ∧ (advanceSilence s).lines = s.lines ∧ (advanceSilence s).xi = s.xi ∧
    (advanceSilence s).tc = s.tc ∧ (advanceSilence s).re = s.re ∧ (advanceSilence s).bu = s.bu ∧
    (advanceSilence s).cl = s.cl ∧ (advanceSilence s).pins = s.pins := by
  unfold advanceSilence
  try dsimp only
  (repeat' split) <;> simp

@[simp] theorem presenceDuty_keeps :
    (presenceDuty s).pending = s.pending ∧ (presenceDuty s).powered = s.powered ∧
    (presenceDuty s).unanswered = s.unanswered ∧ (presenceDuty s).lines = s.lines ∧ (presenceDuty s).xi = s.xi ∧
    (presenceDuty s).tc = s.tc ∧ (presenceDuty s).re = s.re ∧ (presenceDuty s).bu = s.bu ∧ (presenceDuty s).cl = s.cl ∧
    (presenceDuty s).mp = s.mp ∧ (presenceDuty s).pins = s.pins := by
  unfold presenceDuty
  try dsimp only
  (repeat' split) <;> simp

@[simp] theorem periodEnds_keeps :
    (periodEnds s).pending = s.pending ∧ (periodEnds s).powered = s.powered ∧
    (periodEnds s).unanswered = s.unanswered ∧ (periodEnds s).lines = s.lines ∧ (periodEnds s).xi = s.xi ∧
    (periodEnds s).tc = s.tc ∧ (periodEnds s).re = s.re ∧ (periodEnds s).bu = s.bu ∧ (periodEnds s).cl = s.cl ∧
    (periodEnds s).pins = s.pins := by
  unfold periodEnds
  try dsimp only
  (repeat' split) <;> simp


/-! ### The application of a frame -/

@[simp] theorem referenceCheck_keeps (f : Frame) :
    (referenceCheck f s).pending = s.pending ∧ (referenceCheck f s).powered = s.powered ∧
    (referenceCheck f s).unanswered = s.unanswered ∧ (referenceCheck f s).lines = s.lines ∧
    (referenceCheck f s).sc = s.sc ∧ (referenceCheck f s).xi = s.xi ∧ (referenceCheck f s).tc = s.tc ∧
    (referenceCheck f s).re = s.re ∧ (referenceCheck f s).bu = s.bu ∧ (referenceCheck f s).cl = s.cl ∧
    (referenceCheck f s).pins = s.pins := by
  unfold referenceCheck
  try dsimp only
  (repeat' split) <;> simp

@[simp] theorem countComparison_keeps (f : Frame) :
    (countComparison f s).pending = s.pending ∧ (countComparison f s).powered = s.powered ∧
    (countComparison f s).unanswered = s.unanswered ∧ (countComparison f s).lines = s.lines ∧
    (countComparison f s).sc = s.sc ∧ (countComparison f s).xi = s.xi ∧ (countComparison f s).tc = s.tc ∧
    (countComparison f s).tq = s.tq ∧ (countComparison f s).re = s.re ∧ (countComparison f s).bu = s.bu ∧
    (countComparison f s).cl = s.cl ∧ (countComparison f s).pins = s.pins := by
  unfold countComparison
  try dsimp only
  (repeat' split) <;> simp

@[simp] theorem checkFrame_keeps (f : Frame) :
    (checkFrame f s).pending = s.pending ∧ (checkFrame f s).powered = s.powered ∧
    (checkFrame f s).unanswered = s.unanswered ∧ (checkFrame f s).lines = s.lines ∧ (checkFrame f s).sc = s.sc ∧
    (checkFrame f s).xi = s.xi ∧ (checkFrame f s).tc = s.tc ∧ (checkFrame f s).re = s.re ∧ (checkFrame f s).bu = s.bu ∧
    (checkFrame f s).cl = s.cl ∧ (checkFrame f s).pins = s.pins := by
  unfold checkFrame
  try dsimp only
  (repeat' split) <;> simp

@[simp] theorem membershipReports_keeps (me : Station) (e : ReplicaEngine) (x : Effects) :
    (membershipReports me e x s).pending = s.pending ∧ (membershipReports me e x s).powered = s.powered ∧
    (membershipReports me e x s).unanswered = s.unanswered ∧ (membershipReports me e x s).lines = s.lines ∧
    (membershipReports me e x s).cl = s.cl ∧ (membershipReports me e x s).pins = s.pins := by
  unfold membershipReports
  try dsimp only
  (repeat' split) <;> simp

@[simp] theorem referenceDerived_keeps (f : Frame) (w : Bool) :
    (referenceDerived f w s).pending = s.pending ∧ (referenceDerived f w s).powered = s.powered ∧
    (referenceDerived f w s).unanswered = s.unanswered ∧ (referenceDerived f w s).lines = s.lines ∧
    (referenceDerived f w s).sc = s.sc ∧ (referenceDerived f w s).xi = s.xi ∧ (referenceDerived f w s).tc = s.tc ∧
    (referenceDerived f w s).re = s.re ∧ (referenceDerived f w s).bu = s.bu ∧ (referenceDerived f w s).cl = s.cl ∧
    (referenceDerived f w s).mp = s.mp ∧ (referenceDerived f w s).pins = s.pins := by
  unfold referenceDerived
  try dsimp only
  (repeat' split) <;> simp

@[simp] theorem countRefusal_keeps (own : Bool) (x : Effects) :
    (countRefusal own x s).pending = s.pending ∧ (countRefusal own x s).powered = s.powered ∧
    (countRefusal own x s).unanswered = s.unanswered ∧ (countRefusal own x s).lines = s.lines ∧
    (countRefusal own x s).sc = s.sc ∧ (countRefusal own x s).xi = s.xi ∧ (countRefusal own x s).tc = s.tc ∧
    (countRefusal own x s).tq = s.tq ∧ (countRefusal own x s).re = s.re ∧ (countRefusal own x s).bu = s.bu ∧
    (countRefusal own x s).cl = s.cl ∧ (countRefusal own x s).pins = s.pins := by
  unfold countRefusal
  try dsimp only
  (repeat' split) <;> simp

@[simp] theorem applyFully_keeps (own : Bool) (f : Frame) :
    (applyFully own f s).pending = s.pending ∧ (applyFully own f s).powered = s.powered ∧
    (applyFully own f s).unanswered = s.unanswered ∧ (applyFully own f s).lines = s.lines ∧
    (applyFully own f s).cl = s.cl ∧ (applyFully own f s).pins = s.pins := by
  unfold applyFully
  try dsimp only
  (repeat' split) <;> simp

@[simp] theorem applyFrame_keeps (own : Bool) (f : Frame) :
    (applyFrame own f s).pending = s.pending ∧ (applyFrame own f s).powered = s.powered ∧
    (applyFrame own f s).unanswered = s.unanswered ∧ (applyFrame own f s).lines = s.lines ∧
    (applyFrame own f s).cl = s.cl ∧ (applyFrame own f s).pins = s.pins := by
  unfold applyFrame
  try dsimp only
  (repeat' split) <;> simp


/-! ### The exchange interface -/

@[simp] theorem startMark_keeps :
    (startMark s).pending = s.pending ∧ (startMark s).powered = s.powered ∧ (startMark s).unanswered = s.unanswered ∧
    (startMark s).lines = s.lines ∧ (startMark s).sc = s.sc ∧ (startMark s).tc = s.tc ∧ (startMark s).tq = s.tq ∧
    (startMark s).re = s.re ∧ (startMark s).bu = s.bu ∧ (startMark s).cl = s.cl ∧ (startMark s).mp = s.mp ∧
    (startMark s).pins = s.pins := by
  unfold startMark
  try dsimp only
  (repeat' split) <;> simp

@[simp] theorem signalReject_keeps :
    (signalReject s).pending = s.pending ∧ (signalReject s).powered = s.powered ∧
    (signalReject s).unanswered = s.unanswered ∧ (signalReject s).lines = s.lines ∧ (signalReject s).cl = s.cl ∧
    (signalReject s).pins = s.pins := by
  unfold signalReject
  try dsimp only
  (repeat' split) <;> simp

@[simp] theorem closingMark_keeps (bs : List Byte) :
    (closingMark bs s).pending = s.pending ∧ (closingMark bs s).powered = s.powered ∧
    (closingMark bs s).unanswered = s.unanswered ∧ (closingMark bs s).lines = s.lines ∧ (closingMark bs s).cl = s.cl ∧
    (closingMark bs s).pins = s.pins := by
  unfold closingMark
  try dsimp only
  (repeat' split) <;> simp

@[simp] theorem truncation_keeps :
    (truncation s).pending = s.pending ∧ (truncation s).powered = s.powered ∧
    (truncation s).unanswered = s.unanswered ∧ (truncation s).lines = s.lines ∧ (truncation s).sc = s.sc ∧
    (truncation s).tc = s.tc ∧ (truncation s).tq = s.tq ∧ (truncation s).re = s.re ∧ (truncation s).bu = s.bu ∧
    (truncation s).cl = s.cl ∧ (truncation s).mp = s.mp ∧ (truncation s).pins = s.pins := by
  unfold truncation
  try dsimp only
  (repeat' split) <;> simp

@[simp] theorem handOver_keeps (f : Frame) :
    (handOver f s).pending = s.pending ∧ (handOver f s).powered = s.powered ∧
    (handOver f s).unanswered = s.unanswered ∧ (handOver f s).lines = s.lines ∧ (handOver f s).cl = s.cl ∧
    (handOver f s).pins = s.pins := by
  unfold handOver
  try dsimp only
  (repeat' split) <;> simp

@[simp] theorem wholeWindow_keeps (f : Frame) (b : Bool) :
    (wholeWindow f b s).pending = s.pending ∧ (wholeWindow f b s).powered = s.powered ∧
    (wholeWindow f b s).unanswered = s.unanswered ∧ (wholeWindow f b s).lines = s.lines ∧
    (wholeWindow f b s).cl = s.cl ∧ (wholeWindow f b s).pins = s.pins := by
  unfold wholeWindow
  try dsimp only
  (repeat' split) <;> simp

@[simp] theorem windowCloses_keeps (b : Bool) :
    (windowCloses b s).pending = s.pending ∧ (windowCloses b s).powered = s.powered ∧
    (windowCloses b s).unanswered = s.unanswered ∧ (windowCloses b s).lines = s.lines ∧ (windowCloses b s).cl = s.cl ∧
    (windowCloses b s).pins = s.pins := by
  unfold windowCloses
  try dsimp only
  (repeat' split) <;> simp

@[simp] theorem runEnded_keeps :
    (runEnded s).pending = s.pending ∧ (runEnded s).powered = s.powered ∧ (runEnded s).unanswered = s.unanswered ∧
    (runEnded s).lines = s.lines ∧ (runEnded s).sc = s.sc ∧ (runEnded s).xi = s.xi ∧ (runEnded s).tq = s.tq ∧
    (runEnded s).re = s.re ∧ (runEnded s).bu = s.bu ∧ (runEnded s).cl = s.cl ∧ (runEnded s).mp = s.mp ∧
    (runEnded s).pins = s.pins := by
  unfold runEnded
  try dsimp only
  (repeat' split) <;> simp

@[simp] theorem ownAccepted_keeps (a : Attempt) :
    (ownAccepted a s).pending = s.pending ∧ (ownAccepted a s).powered = s.powered ∧
    (ownAccepted a s).unanswered = s.unanswered ∧ (ownAccepted a s).lines = s.lines ∧ (ownAccepted a s).cl = s.cl ∧
    (ownAccepted a s).pins = s.pins := by
  unfold ownAccepted
  try dsimp only
  (repeat' split) <;> simp

@[simp] theorem reportDropped_keeps (w : Sent) :
    (reportDropped w s).pending = s.pending ∧ (reportDropped w s).powered = s.powered ∧
    (reportDropped w s).unanswered = s.unanswered ∧ (reportDropped w s).lines = s.lines ∧
    (reportDropped w s).cl = s.cl ∧ (reportDropped w s).pins = s.pins := by
  unfold reportDropped
  try dsimp only
  (repeat' split) <;> simp

@[simp] theorem advanceDropStreak_keeps :
    (advanceDropStreak s).pending = s.pending ∧ (advanceDropStreak s).powered = s.powered ∧
    (advanceDropStreak s).unanswered = s.unanswered ∧ (advanceDropStreak s).lines = s.lines ∧
    (advanceDropStreak s).cl = s.cl ∧ (advanceDropStreak s).pins = s.pins := by
  unfold advanceDropStreak
  try dsimp only
  (repeat' split) <;> simp

@[simp] theorem ownDropped_keeps (a : Attempt) :
    (ownDropped a s).pending = s.pending ∧ (ownDropped a s).powered = s.powered ∧
    (ownDropped a s).unanswered = s.unanswered ∧ (ownDropped a s).lines = s.lines ∧ (ownDropped a s).cl = s.cl ∧
    (ownDropped a s).pins = s.pins := by
  unfold ownDropped
  try dsimp only
  (repeat' split) <;> simp

@[simp] theorem ownWindowCloses_keeps (b : Bool) :
    (ownWindowCloses b s).pending = s.pending ∧ (ownWindowCloses b s).powered = s.powered ∧
    (ownWindowCloses b s).unanswered = s.unanswered ∧ (ownWindowCloses b s).lines = s.lines ∧
    (ownWindowCloses b s).cl = s.cl ∧ (ownWindowCloses b s).pins = s.pins := by
  unfold ownWindowCloses
  try dsimp only
  (repeat' split) <;> simp

@[simp] theorem closingMarkSent_keeps :
    (closingMarkSent s).pending = s.pending ∧ (closingMarkSent s).powered = s.powered ∧
    (closingMarkSent s).unanswered = s.unanswered ∧ (closingMarkSent s).lines = s.lines ∧
    (closingMarkSent s).sc = s.sc ∧ (closingMarkSent s).tc = s.tc ∧ (closingMarkSent s).tq = s.tq ∧
    (closingMarkSent s).re = s.re ∧ (closingMarkSent s).bu = s.bu ∧ (closingMarkSent s).cl = s.cl ∧
    (closingMarkSent s).mp = s.mp ∧ (closingMarkSent s).pins = s.pins := by
  unfold closingMarkSent
  try dsimp only
  (repeat' split) <;> simp


/-! ### The configuration loader -/

@[simp] theorem freeze_keeps (img : Vector Byte 30) :
    (freeze img s).pending = s.pending ∧ (freeze img s).powered = s.powered ∧
    (freeze img s).unanswered = s.unanswered ∧ (freeze img s).lines = s.lines ∧ (freeze img s).pins = s.pins := by
  unfold freeze
  try dsimp only
  (repeat' split) <;> simp

@[simp] theorem configurationFault_keeps (r : FaultReason) (c : Cause) (d : FaultDetail) :
    (configurationFault r c d s).pending = s.pending ∧ (configurationFault r c d s).powered = s.powered ∧
    (configurationFault r c d s).unanswered = s.unanswered ∧ (configurationFault r c d s).lines = s.lines ∧
    (configurationFault r c d s).pins = s.pins := by
  unfold configurationFault
  try dsimp only
  (repeat' split) <;> simp

@[simp] theorem takeImage_keeps (img : Vector Byte 30) :
    (takeImage img s).pending = s.pending ∧ (takeImage img s).powered = s.powered ∧
    (takeImage img s).unanswered = s.unanswered ∧ (takeImage img s).lines = s.lines ∧
    (takeImage img s).pins = s.pins := by
  unfold takeImage
  try dsimp only
  (repeat' split) <;> simp

@[simp] theorem memoryAnswered_keeps (img : Vector Byte 30) :
    (memoryAnswered img s).pending = s.pending ∧ (memoryAnswered img s).powered = s.powered ∧
    (memoryAnswered img s).unanswered = s.unanswered ∧ (memoryAnswered img s).lines = s.lines ∧
    (memoryAnswered img s).pins = s.pins := by
  unfold memoryAnswered
  try dsimp only
  (repeat' split) <;> simp

@[simp] theorem endFailedRead_keeps :
    (endFailedRead s).pending = s.pending ∧ (endFailedRead s).powered = s.powered ∧ (endFailedRead s).lines = s.lines ∧
    (endFailedRead s).sc = s.sc ∧ (endFailedRead s).xi = s.xi ∧ (endFailedRead s).tc = s.tc ∧
    (endFailedRead s).tq = s.tq ∧ (endFailedRead s).re = s.re ∧ (endFailedRead s).bu = s.bu ∧
    (endFailedRead s).mp = s.mp ∧ (endFailedRead s).pins = s.pins := by
  unfold endFailedRead
  simp

@[simp] theorem memoryNotAnswered_keeps :
    (memoryNotAnswered s).pending = s.pending ∧ (memoryNotAnswered s).powered = s.powered ∧
    (memoryNotAnswered s).lines = s.lines ∧ (memoryNotAnswered s).pins = s.pins := by
  unfold memoryNotAnswered
  try dsimp only
  (repeat' split) <;> simp

@[simp] theorem releaseReset_keeps (sid : Station) (cfg : Bool) :
    (releaseReset sid cfg s).pending = s.pending ∧ (releaseReset sid cfg s).powered = s.powered ∧
    (releaseReset sid cfg s).unanswered = s.unanswered ∧ (releaseReset sid cfg s).lines = s.lines ∧
    (releaseReset sid cfg s).pins = s.pins := by
  unfold releaseReset
  try dsimp only
  (repeat' split) <;> simp

end Sys2Proof.Machine
end

