-- ==== Sys2Proof/Laws/PerInstr.lean ====
section
/-! SUPPORT. Per command: whether its operands' types already make it an event of the part. -/

namespace Sys2Proof.Laws.WellFormed

/-- A command is well formed, or it is one of the two whose operands are related: an unknown command with a code that
the port recognises, or a WRITE CONFIG with another number of data bytes than its number byte calls for (R185). -/
def Statement (i : Instr) : Prop :=
  i.wellFormed = true ∨
    (∃ code, i = .unknownCommand code ∧ code ∈ recognisedCodes) ∨
    (∃ offset number data, i = .writeConfig offset number data ∧ data.length ≠ writeConfigDataBytes number)

theorem powerOn : Statement .powerOn := Or.inl rfl
theorem resetAsserted : Statement .resetAsserted := Or.inl rfl
theorem resetReleased (sid : Station) (cfgsrc : Bool) : Statement (.resetReleased sid cfgsrc) := Or.inl rfl
theorem rise (n : BindingNo) : Statement (.rise n) := Or.inl rfl
theorem fall (n : BindingNo) : Statement (.fall n) := Or.inl rfl
theorem closingMarkSeen (bytes : List Byte) : Statement (.closingMarkSeen bytes) := Or.inl rfl
theorem truncationSeen : Statement .truncationSeen := Or.inl rfl
theorem windowClose (rejected : Bool) : Statement (.windowClose rejected) := Or.inl rfl
theorem ownWindowClose (rejected : Bool) : Statement (.ownWindowClose rejected) := Or.inl rfl
theorem xtenAsserted : Statement .xtenAsserted := Or.inl rfl
theorem contentionCloses (lowestOther : Option Station) : Statement (.contentionCloses lowestOther) := Or.inl rfl
theorem xtenReleased : Statement .xtenReleased := Or.inl rfl
theorem busQuietExpired : Statement .busQuietExpired := Or.inl rfl
theorem xwantAsserted : Statement .xwantAsserted := Or.inl rfl
theorem xwantReleased : Statement .xwantReleased := Or.inl rfl
theorem listenTimerExpired : Statement .listenTimerExpired := Or.inl rfl
theorem snapshotDeadlineExpired : Statement .snapshotDeadlineExpired := Or.inl rfl
theorem holdOffExpired : Statement .holdOffExpired := Or.inl rfl
theorem periodEnd : Statement .periodEnd := Or.inl rfl
theorem memoryReadAnswered (image : Vector Byte 30) : Statement (.memoryReadAnswered image) := Or.inl rfl
theorem memoryReadNotAnswered : Statement .memoryReadNotAnswered := Or.inl rfl
theorem readStatus : Statement .readStatus := Or.inl rfl
theorem readMembers : Statement .readMembers := Or.inl rfl
theorem readResource (r : Byte) : Statement (.readResource r) := Or.inl rfl
theorem readBinding (b : Byte) : Statement (.readBinding b) := Or.inl rfl
theorem readCounters : Statement .readCounters := Or.inl rfl
theorem clearCounters : Statement .clearCounters := Or.inl rfl
theorem popNotice : Statement .popNotice := Or.inl rfl
theorem popComplete : Statement .popComplete := Or.inl rfl
theorem readConfig (offset number : Byte) : Statement (.readConfig offset number) := Or.inl rfl
theorem writeConfig (offset number : Byte) (data : List Byte) : Statement (.writeConfig offset number data) := by
  by_cases h : data.length = writeConfigDataBytes number
  · exact Or.inl (by simp [Instr.wellFormed, h])
  · exact Or.inr (Or.inr ⟨offset, number, data, rfl, h⟩)
theorem start : Statement .start := Or.inl rfl
theorem leave : Statement .leave := Or.inl rfl
theorem rejoin : Statement .rejoin := Or.inl rfl
theorem releaseLatch (b : Byte) : Statement (.releaseLatch b) := Or.inl rfl
theorem unknownCommand (code : Byte) : Statement (.unknownCommand code) := by
  by_cases h : code ∈ recognisedCodes
  · exact Or.inr (Or.inl ⟨code, rfl, h⟩)
  · exact Or.inl (by simp [Instr.wellFormed, h])
theorem mcsReleased : Statement .mcsReleased := Or.inl rfl
theorem powerLost : Statement .powerLost := Or.inl rfl
theorem startMarkSeen : Statement .startMarkSeen := Or.inl rfl
theorem closingMarkSent : Statement .closingMarkSent := Or.inl rfl
theorem mcsAsserted : Statement .mcsAsserted := Or.inl rfl

end Sys2Proof.Laws.WellFormed
end

