-- ==== Sys2Proof/Laws/Port.lean ====
section
/-! SUPPORT. The small lemmas of the byte on MSO, and of what the replica engine answers and reports. -/

namespace Sys2Proof.Machine

/-! ### The byte on MSO (R184) -/

section Mso

variable (t : Transaction) (i : Nat)

/-- MSO carries 0 through the bytes received. -/
theorem msoByte_received (h : i < t.received.length) : t.msoByte i = 0 := by
  simp [Transaction.msoByte, h]

/-- While no command has been taken MSO carries 0. -/
theorem msoByte_not_taken (h : t.response = none) : t.msoByte i = 0 := by
  simp [Transaction.msoByte, h]

/-- After the bytes received MSO carries the response in its order, and 0 after its end. -/
theorem msoByte_response (r : List Byte) (h : t.response = some r) (k : Nat) :
    t.msoByte (t.received.length + k) = r.getD k 0 := by
  simp [Transaction.msoByte, h]

/-- An undriven MSO carries no byte. -/
theorem msoByte_undriven (p : ManagementPort) (h : p.msoDriven = false) : p.msoByte i = none := by
  simp [ManagementPort.msoByte, h]

end Mso

/-! ### Answers and reports of the replica engine (R16, R25) -/

section Answers

variable (e : ReplicaEngine) (x : Station) (r : Resource)

theorem query_valid (h : e.valid = true) :
    e.query x r = { standing := e.records[r].standing x, demand := some e.records[r].yieldDemand } := by
  simp [ReplicaEngine.query, h]

theorem query_invalid (h : e.valid = false) : e.query x r = { standing := .neither, demand := none } := by
  simp [ReplicaEngine.query, h]

@[simp] theorem yieldReport_demand (w : Record) : w.yieldReport.demand = w.yieldDemand := rfl

end Answers

end Sys2Proof.Machine
end

