-- ==== Sys2Proof/Laws/Settle.lean ====
section
/-! SUPPORT. What the end of an event does: nothing to the tenure controller when has-work is as it was last told, and the pins as the states call for. -/

namespace Sys2Proof.Machine

variable (s : State)

/-- The drive of the pins looks at six blocks only. -/
theorem drivenPins_congr {s t : State} (hsc : t.sc.state = s.sc.state) (hbu : t.bu = s.bu) (htc : t.tc = s.tc)
    (hxi : t.xi.pairDrive = s.xi.pairDrive) (hcl : t.cl.state = s.cl.state) (hat : t.cl.failedAt = s.cl.failedAt) :
    t.drivenPins = s.drivenPins := by
  simp only [State.drivenPins, hsc, hbu, htc, hxi, ConfigLoader.cfgDrive, ConfigLoader.cfgRead, ConfigLoader.cfgEnded,
    hcl, hat]

/-- Has-work told again changes nothing when it is as it was. -/
theorem noteWork_of_told (h : s.tc.hasWork = s.tq.hasWork) : noteWork s = s := by
  unfold noteWork
  rw [← h]
  rfl

/-- The telling of has-work does nothing when the value is as it was last told (R87). -/
theorem tellWork_of_told (h : s.tc.hasWork = s.tq.hasWork) : tellWork s = s := by
  unfold tellWork
  rw [noteWork_of_told s h]
  dsimp only
  split <;> simp_all

/-- The end of an event with has-work as last told: the pins alone follow. -/
theorem settle_of_told (h : s.tc.hasWork = s.tq.hasWork) : settle s = s.withPins s.drivenPins := by
  rw [settle, tellWork_of_told s h, drivePins]

/-- The end of an event that changed nothing the pins look at. -/
theorem settle_of_settled (h : Safety.Settled s) : settle s = s := by
  rw [settle_of_told s h.1, ← h.2]
  rfl

/-- At a tenure controller that is OFFLINE the end of an event notes has-work and drives the pins. -/
theorem settle_offline (h : s.tc.state = .offline) :
    settle s = (noteWork s).withPins (noteWork s).drivenPins := by
  simp [settle, tellWork, noteWork, drivePins, h]

/-- The pins after the end of an event are those the states then call for (R76, R77, R133). -/
@[simp] theorem settle_pins : (settle s).pins = (tellWork s).drivenPins := rfl

/-- The blocks that the end of an event changes only through a frame that a PARKED station takes. -/
theorem tellWork_of_not_parked (h : s.tc.state ≠ .parked) :
    (tellWork s).tq = s.tq ∧ (tellWork s).bu = s.bu ∧ (tellWork s).xi = s.xi := by
  unfold tellWork
  dsimp only
  split
  · simp
  · simp
  · simp_all [noteWork]
  · simp

end Sys2Proof.Machine
end

