-- ==== Sys2Proof/Tests/Slice0.lean ====
section
/-! SUPPORT. Tests: the check of well-formedness, the check function, one-step tests on small states, and for every statement with hypotheses concrete states that meet them. -/

namespace Sys2Proof.Tests

-- One theorem after another: the kernel's evaluations are not run side by side.
set_option Elab.async false

open Sys2Proof.Machine Sys2Proof.Safety

/-! ### Small states -/

/-- The state a command leads to. -/
def after (c : Instr) (s : State) : State :=
  match exec c s with
  | .next t => t
  | .fault _ => s
  | .refused _ => s

/-- The commands of a list, one after another. -/
def afterAll (cs : List Instr) (s : State) : State := cs.foldl (fun s c => after c s) s

/-- Bindings 0 (LEVEL) and 1 (LATCHED) on resource 12, EXCLUSIVE and yieldable; binding 2 on resource 40, SHARED and
URGENT; the others not enabled. -/
def bindings : Vector BindingConfig 12 :=
  tableOf 12 fun n =>
    match n.val with
    | 0 => { enabled := true, resource := 12, mode := .exclusive, cls := .ordinary, yieldable := true, trigger := .level }
    | 1 => { enabled := true, resource := 12, mode := .exclusive, cls := .ordinary, yieldable := true, trigger := .latched }
    | 2 => { enabled := true, resource := 40, mode := .shared, cls := .urgent, yieldable := false, trigger := .level }
    | _ => { enabled := false, resource := 0, mode := .shared, cls := .ordinary, yieldable := false, trigger := .level }

/-- Station 5, configured, in a station state and a tenure state. -/
def station (st : StationState) (t : TenureState) (bus : Option BusCondition) : State :=
  { State.reset with
    sc :=
      { StationController.reset.change st with
        params := some { periodMs := 16, limit := 3, autoRejoin := true } }
    xi := { ExchangeInterface.reset with number := some 5 }
    tc := { TenureController.reset with state := t, bus := bus, q := some 2 }
    cl := { ConfigLoader.reset with state := .frozen }
    bu := BindingUnit.reset.freeze bindings }

/-- The state as an event leaves it. -/
def settled (s : State) : State := drivePins (noteWork s)

/-- A table with members 5 and 9 ACTIVE, 2 JOINING, and one record of resource 12. -/
def table (r : Record) : ReplicaEngine :=
  { ReplicaEngine.founded 5 with
    records := (ReplicaEngine.founded 5).records.set 12 r
    members := ((ReplicaEngine.founded 5).members.set 9 .active).set 2 .joining
    count := 7 }

/-- Station 5 in a table, ACTIVE and IDLE on a FREE bus, its watch begun. -/
def member (r : Record) : State :=
  { station .active .idle (some .free) with re := table r }

/-- The same station with a frame received whole. -/
def hearing (s : State) (f : Frame) : State := settled { s with xi := { s.xi with rx := .whole f } }

/-- The same station HOLDING, with its attempt of a queue entry in its window. -/
def awaiting (s : State) (i : Item) (attempts : Nat) : State :=
  settled
    { s with
      tc := { s.tc with state := .holding, bus := some .taken }
      tq := { TransmitQueue.empty with entries := [{ item := i, inFlight := true, attempts := attempts }] }
      xi :=
        { s.xi with
          attempt :=
            some { frame := s.frameOf (.entry i), sent := .entry i, phase := .window, discarded := false, unreported := false } } }

/-- The attempt that awaiting puts into its window. -/
def attemptOf (s : State) (i : Item) : Attempt :=
  { frame := s.frameOf (.entry i), sent := .entry i, phase := .window, discarded := false, unreported := false }

/-- A local claim on resource 12 in a state. -/
def claimOn12 (st : ClaimState) : LocalClaim :=
  { resource := 12, mode := .exclusive, cls := .ordinary, yieldable := true, bindings := [0, 1], state := st,
    cancel := false, reclaim := false, yieldSeen := false }

/-- A station whose local claim on resource 12 stands in a state, with line 0 at a level. -/
def claiming (s : State) (st : ClaimState) (line : Bool) : State :=
  { s with
    bu :=
      { s.bu with
        lines := s.bu.lines.set 0 line
        claims := s.bu.claims.map fun c => if c.resource = 12 then claimOn12 st else c } }

/-- Frames of station 9. -/
def from9 (b : Body) : Frame := { sender := 9, active := true, count := 7, body := b }

/-- A record held by station 9, with a wait list. -/
def heldBy9 (ws : List Wait) : Record := { holding := .exclusive { station := 9, yieldable := true }, waits := ws, yieldDemand := false }

/-- An entry of station 5 that waits. -/
def wait5 : Wait := { slot := 0, entry := { station := 5, mode := .exclusive, cls := .ordinary, yieldable := true } }

/-- The body of an image: 16 ms, limit 6, quota 2, auto-rejoin on, binding 0 on resource 12. -/
def imageBytes : List Byte := [3, 6, 2, 1, 140, 5] ++ List.replicate 22 0

/-- An image of 28 bytes with its check. -/
def image (bs : List Byte) : Vector Byte 30 :=
  tableOf 30 fun i => (bs ++ halfBytes (checkOf bs)).getD i.val 0

/-- A transaction begun. -/
def opened (s : State) : State :=
  settled { s with mp := { s.mp with transaction := some { received := [], response := none }, msoDriven := true } }

/-! ### Well-formedness -/

theorem test_write_config_with_a_byte_missing_is_ill_formed : (Instr.writeConfig 0 2 [1]).wellFormed = false := by decide

theorem test_write_config_past_the_number_is_ill_formed : (Instr.writeConfig 0 31 [1]).wellFormed = false := by decide

theorem test_write_config_of_its_length_is_well_formed : (Instr.writeConfig 0 2 [1, 2]).wellFormed = true := by decide

theorem test_unknown_command_with_a_known_code_is_ill_formed : (Instr.unknownCommand 16).wellFormed = false := by decide

theorem test_unknown_command_is_well_formed : (Instr.unknownCommand 9).wellFormed = true := by decide

/-! ### Words, the check function and frames -/

theorem test_the_table_gives_no_words (nbits w : Nat) : decodeTableWord nbits w = none := rfl

theorem test_a_fetch_word_changes_nothing : State.reset.withFetchWord 8 1 = State.reset := rfl

/-- The value generally known for this generator, all-ones start and no inversion, on the nine characters 1 to 9. -/
theorem test_check_function_example : checkOf [0x31, 0x32, 0x33, 0x34, 0x35, 0x36, 0x37, 0x38, 0x39] = 0x29B1#16 := by
  decide +kernel

/-- A CLAIM of station 9, EXCLUSIVE and yieldable on resource 12, byte by byte (R98, R99). -/
theorem test_claim_frame_bytes :
    (encodeFrame (from9 (.claim 12 .exclusive .ordinary true))).take 7 = [0x91, 0x80, 0, 7, 2, 12, 5] := by
  decide +kernel

theorem test_a_changed_bit_is_damage :
    decodeFrame ((encodeFrame (from9 (.claim 12 .exclusive .ordinary true))).set 5 13) = none := by decide +kernel

theorem test_a_claim_of_resource_64_is_damage :
    decodeFrame ([0x91, 0x80, 0, 7, 2, 64, 5] ++ halfBytes (checkOf [0x91, 0x80, 0, 7, 2, 64, 5])) = none := by
  decide +kernel

theorem test_a_drop_of_resource_64_is_whole :
    decodeFrame ([0x92, 0x80, 0, 7, 1, 64] ++ halfBytes (checkOf [0x92, 0x80, 0, 7, 1, 64])) =
      some (from9 (.drop 64)) := by
  decide +kernel

/-! ### One step of each command -/

theorem test_a_step_takes_the_front_command :
    step { State.reset with pending := [.powerOn, .start] } = .next { State.reset with pending := [.start] } := rfl

theorem test_reset_released_with_cfgsrc_low_reads_the_memory :
    let t := after (.resetReleased 5 false) State.reset
    t.sc.state = .loading ∧ t.cl.state = .reading ∧ t.pins.cfg = .reading ∧ t.xi.number = some 5 ∧
      t.mp.notices = [.stateChanged .loading .resetReleased] ∧ t.mp.attn = true := by
  decide +kernel

/-- The write selection is 58 with the direction bit 0, so 116 (R178). -/
theorem test_a_read_addresses_selection_58 :
    readItems.length = 38 ∧ (after (.resetReleased 5 false) State.reset).pins.cfgRead = readItems ∧
      failedReadItems .writeSelection = [.clocks 9, .stop, .start, .send 116, .stop] := by
  decide +kernel

theorem test_three_unanswered_reads_fault :
    let s := after (.resetReleased 5 false) State.reset
    let t := afterAll [.memoryReadNotAnswered, .memoryReadNotAnswered] s
    let u := after .memoryReadNotAnswered t
    t.sc.state = .loading ∧ t.unanswered = 2 ∧ u.sc.state = .fault ∧ u.sc.fault = .memoryAbsent ∧ u.pins.cfg = .rest ∧
      u.pins.cfgEnded = failedReadItems (Config.memoryFailure 2) :=
  ⟨rfl, rfl, rfl, rfl, rfl, rfl⟩

theorem test_a_valid_image_is_frozen :
    let t := after (.memoryReadAnswered (image imageBytes)) (after (.resetReleased 5 false) State.reset)
    t.sc.state = .listening ∧ t.sc.listenTimer = true ∧ t.tc.state = .idle ∧ t.tc.bus = some .free ∧ t.tc.q = some 2 ∧
      t.sc.params = some { periodMs := 16, limit := 6, autoRejoin := true } ∧
      t.bu.claims.map (·.resource) = [12] := by
  decide +kernel

/-- The worked example of Chapter 9: bindings on one resource that disagree are refused by check 6. -/
theorem test_a_disagreeing_binding_is_refused :
    validate (image ([3, 6, 2, 1, 140, 5, 168, 0, 140, 13, 140, 4] ++ List.replicate 16 0)) = .invalid 6 (some 3) := by
  decide +kernel

theorem test_a_damaged_image_check_is_refused : validate (tableOf 30 fun i => imageBytes.getD i.val 1) = .badCheck := by
  decide +kernel

theorem test_the_listen_timer_leads_to_a_join_and_contention :
    let t := after .listenTimerExpired (settled (station .listening .idle (some .free)))
    t.sc.state = .joinPending ∧ t.tq.entries.map (·.item) = [.join] ∧ t.tc.state = .contending ∧
      t.pins.xten = .rankMarks := by
  decide +kernel

theorem test_the_winner_sends_its_join :
    let s := after .listenTimerExpired (settled (station .listening .idle (some .free)))
    let t := after (.contentionCloses (some 6)) s
    t.tc.state = .holding ∧ t.pins.pair = .data ∧ t.pins.xten = .asserted ∧
      (t.xi.attempt.map fun a => a.frame) = some { sender := 5, active := false, count := 0, body := .join } := by
  decide +kernel

theorem test_the_loser_defers :
    let s := after .listenTimerExpired (settled (station .listening .idle (some .free)))
    let t := after (.contentionCloses (some 4)) s
    t.tc.state = .deferred ∧ t.pins.xten = .released ∧ t.pins.xwant = true := by
  decide +kernel

/-- A contender with this station's own number wins as well and keeps XTEN asserted, so the bus is TAKEN when this station
surrenders (R121, R122, R131). -/
theorem test_a_twin_contender_keeps_the_line :
    let s := after .listenTimerExpired (settled (station .listening .idle (some .free)))
    let t := after (.contentionCloses (some 5)) s
    t.tc.state = .holding ∧ t.lines.xten = true ∧ (surrender t).tc.bus = some .taken := by
  decide +kernel

theorem test_the_founder_is_active :
    let s := after .listenTimerExpired (settled (station .listening .idle (some .free)))
    let t := afterAll [.contentionCloses none, .closingMarkSent, .ownWindowClose false] s
    t.sc.state = .active ∧ t.re = ReplicaEngine.founded 5 ∧ t.tc.state = .parked ∧ t.sc.satisfied = true := by
  decide +kernel

theorem test_a_rise_hands_a_claim :
    let t := after (.rise 0) (settled (member Record.empty))
    t.tq.entries.map (·.item) = [.claim 12 .exclusive .ordinary true] ∧ t.tc.state = .contending ∧
      (t.bu.claimFor 12).map (·.state) = some .queued ∧ t.pins.gnt[0] = false := by
  decide +kernel

theorem test_a_fall_before_the_attempt_cancels_the_claim :
    let t := afterAll [.rise 0, .fall 0] (settled (member Record.empty))
    t.tq.entries = [] ∧ (t.bu.claimFor 12).map (·.state) = some .none := by
  decide +kernel

theorem test_an_own_claim_is_granted :
    let s := awaiting (claiming (member Record.empty) .sending true) (.claim 12 .exclusive .ordinary true) 1
    let t := after (.ownWindowClose false) s
    t.pins.gnt[0] = true ∧ t.pins.gnt[1] = false ∧ t.re.records[12].holding = .exclusive { station := 5, yieldable := true } ∧
      t.re.count = 8 ∧ t.tc.state = .parked ∧ t.mp.counters.ownFramesApplied = 1 := by
  decide +kernel

theorem test_an_urgent_waiter_raises_yield :
    let s := awaiting (claiming (member Record.empty) .sending true) (.claim 12 .exclusive .ordinary true) 1
    let t := after (.windowClose false) (hearing (after (.ownWindowClose false) s) (from9 (.claim 12 .exclusive .urgent false)))
    t.pins.yld[0] = true ∧ t.re.records[12].yieldDemand = true ∧ t.re.pool[0] = true ∧
      t.mp.notices = [.yieldAsked 12] := by
  decide +kernel

theorem test_a_failed_attempt_is_sent_again :
    let t := after (.ownWindowClose true) (awaiting (member Record.empty) .presence 1)
    t.tc.state = .holding ∧ t.pins.pair = .data ∧ t.tq.entries.map (·.attempts) = [2] ∧ t.tc.quota = 1 := by
  decide +kernel

theorem test_a_third_failure_drops_the_frame :
    let t := after (.ownWindowClose true) (awaiting (member Record.empty) .presence 3)
    t.tq.entries = [] ∧ t.mp.notices = [.frameDropped 3 0] ∧ t.xi.dropStreak = 1 ∧ t.mp.counters.framesDropped = 1 := by
  decide +kernel

theorem test_a_drop_grants_the_waiter :
    let s := { claiming (member (heldBy9 [wait5])) .waiting true with powered := true }
    let t := after (.windowClose false) (hearing s (from9 (.drop 12)))
    t.pins.gnt[0] = true ∧ t.re.records[12].waits = [] ∧ (t.bu.claimFor 12).map (·.state) = some .held := by
  decide +kernel

theorem test_a_rejected_window_has_no_effect :
    (after (.windowClose true) (hearing (member (heldBy9 [])) (from9 (.drop 12)))).re = table (heldBy9 []) := by
  decide +kernel

theorem test_marks_begin_and_end_a_frame :
    let s := after .startMarkSeen (settled (member Record.empty))
    s.xi.rx = .taking ∧ (after .truncationSeen s).xi.rx = .none ∧
      (after (.closingMarkSeen (encodeFrame (from9 (.drop 12)))) s).xi.rx = .whole (from9 (.drop 12)) ∧
      (after (.closingMarkSeen [1, 2, 3]) s).pins.pair = .reject := by
  decide +kernel

/-- The reject that isolates the station is counted, and its drive ends with the receiver (R104, R110, R156; log
entry 10). -/
theorem test_the_eighth_reject_ends_with_the_receiver :
    let m := member Record.empty
    let s := after .startMarkSeen (settled { m with xi := { m.xi with rejectStreak := 7 } })
    let t := after (.closingMarkSeen [1, 2, 3]) s
    t.sc.state = .isolated ∧ t.pins.pair = .undriven ∧ t.mp.counters.rejectsSignalled = 1 ∧ t.xi.rx = .none := by
  decide +kernel

theorem test_the_lines_are_read :
    let s := settled (member Record.empty)
    (after .xtenAsserted s).tc.bus = some .contention ∧
      (after .xtenReleased (after (.contentionCloses (some 3)) (after .xtenAsserted s))).tc.bus = some .free ∧
      (after .xwantAsserted { s with tc := { s.tc with state := .parked, bus := some .taken } }).tc.state = .served ∧
      (after .xwantReleased { s with tc := { s.tc with state := .served } }).tc.state = .idle ∧
      (after .busQuietExpired { s with tc := { s.tc with bus := some .taken, quietWatch := true } }).tc.bus = some .free := by
  decide +kernel

theorem test_the_hold_off_ends_in_listening :
    (after .holdOffExpired (settled (station .isolated .offline none))).sc.state = .listening := by decide +kernel

theorem test_the_deadline_without_a_table_ends_in_listening :
    (after .snapshotDeadlineExpired (settled (station .awaitSnapshot .idle (some .free)))).sc.state = .listening := by
  decide +kernel

theorem test_a_silent_period_end_adds_a_presence :
    (after .periodEnd (settled (member Record.empty))).tq.entries.map (·.item) = [.presence] := by decide +kernel

theorem test_the_reads_answer :
    let s := opened (member (heldBy9 []))
    let answer (c : Instr) := ((after c s).mp.transaction.bind (·.response))
    answer .readStatus = some [0, 5, 8, 0, 0, 255, 1, 0, 7, 5, 0] ∧
      answer .readMembers = some [0, 4, 32, 32, 0] ∧
      answer (.readResource 12) = some [0, 64, 73, 0] ∧
      answer (.readBinding 0) = some [0, 140, 5, 0, 0, 0] ∧
      answer .readCounters = some (List.replicate 17 0) ∧
      answer (.readConfig 0 1) = some [1] ∧
      answer (.unknownCommand 9) = some [2] := by
  decide +kernel

/-- A record that station 5 holds, before and after an URGENT claim of station 9 comes to wait (R16, R43). -/
theorem test_a_yield_report_carries_the_record :
    let w : WaitEntry := { station := 9, mode := .exclusive, cls := .urgent, yieldable := false }
    let held : Record := { holding := .exclusive { station := 5, yieldable := true }, waits := [], yieldDemand := false }
    standingEntry 5 false false 12 held { held with waits := [{ slot := 0, entry := w }], yieldDemand := true } =
      [.yield 12 { demand := true, holders := [{ station := 5, yieldable := true }], waits := [w] }] := by
  decide

theorem test_a_query_gives_the_yield_demand :
    let r : Record := { heldBy9 [wait5] with yieldDemand := true }
    (table r).query 5 12 = { standing := .waiter, demand := some true } ∧
      (table r).query 2 12 = { standing := .neither, demand := some true } ∧
      ReplicaEngine.empty.query 5 12 = { standing := .neither, demand := none } := by
  decide +kernel

/-- A number byte above 30 takes the command there, and MSO carries the status followed by 0 (R184, R185). -/
theorem test_a_command_is_picked_by_its_code :
    commandTaken [1] = some .readStatus ∧ commandTaken [3] = none ∧ commandTaken [3, 12] = some (.readResource 12) ∧
      commandTaken [16, 0, 2, 7] = none ∧ commandTaken [16, 0, 2, 7, 8, 9] = some (.writeConfig 0 2 [7, 8]) ∧
      commandTaken [16, 0, 31] = some (.writeConfig 0 31 []) ∧ commandTaken [21] = some (.unknownCommand 21) ∧
      let t := after (.writeConfig 0 31 []) (opened (member Record.empty))
      [0, 1, 2, 3, 4, 9].map t.mp.msoByte = [some 0, some 0, some 0, some 2, some 0, some 0] ∧
        (after .mcsReleased t).mp.msoByte 3 = none := by
  decide +kernel

theorem test_the_commands_answer :
    let s := opened (member (heldBy9 []))
    let answer (c : Instr) := ((after c s).mp.transaction.bind (·.response))
    answer .clearCounters = some [0] ∧ answer .popNotice = some [4] ∧ answer (.writeConfig 0 1 [3]) = some [1] ∧
      answer .start = some [1] ∧ answer .leave = some [0] ∧ answer .rejoin = some [1] ∧
      answer (.releaseLatch 0) = some [2] ∧ answer (.releaseLatch 1) = some [0] := by
  decide +kernel

theorem test_a_notice_is_popped :
    let s := { member (heldBy9 []) with mp := ManagementPort.reset.post (.yieldAsked 12) }
    let t := afterAll [.mcsAsserted, .popNotice] s
    t.mp.transaction = some { received := [7], response := some [0, 3, 12, 0, 0, 0] } ∧ t.mp.attn = true ∧
      (after .popComplete t).mp.notices = [] ∧ (after .popComplete t).mp.attn = false ∧
      (after .mcsReleased t).mp.notices = [.yieldAsked 12] ∧ (after .mcsReleased t).mp.pendingPop = none := by
  decide +kernel

theorem test_a_leaving_station_queues_its_leave :
    let t := after .leave (opened (member (heldBy9 [])))
    t.sc.state = .leaving ∧ t.re = ReplicaEngine.empty ∧ t.tq.entries.map (·.item) = [.leave] ∧ t.tc.state = .contending := by
  decide +kernel

theorem test_supply_and_reset :
    let s := member (heldBy9 [])
    after .resetAsserted s = State.reset ∧ after .powerOn s = State.reset ∧
      after .powerLost s = { State.reset with powered := false } := by
  decide +kernel

/-! ### States that meet the hypotheses of the statements

Each theorem is named after its statement, and shows for each clause operands and a state that meet its hypotheses
together, at boundary values where the clause has a range. -/

theorem test_witness_SupplyAndResetEvents : State.reset.powered = true := by decide

theorem test_witness_ReleaseOfResetSamplesTheStraps :
    State.reset.powered = true ∧ State.reset.sc.state = .reset ∧
      State.reset =
        { State.reset with
          pending := State.reset.pending, unanswered := State.reset.unanswered, lines := State.reset.lines } := by
  decide

theorem test_witness_LineChangesAreTaken :
    let s := member Record.empty
    let t := claiming s .none true
    s.powered = true ∧ s.sc.state ≠ .reset ∧ s.bu.lines[(0 : BindingNo)] = false ∧ s.bu.lines[(11 : BindingNo)] = false ∧
      t.powered = true ∧ t.sc.state ≠ .reset ∧ t.bu.lines[(0 : BindingNo)] = true := by
  decide +kernel

theorem test_witness_DemandRiseHandsAClaim :
    let s := member Record.empty
    s.powered = true ∧ s.sc.state = .active ∧ s.tc.state ≠ .parked ∧ s.bu.lines[(0 : BindingNo)] = false ∧
      s.bu.config 0 = some bindings[0] ∧ bindings[0].enabled = true ∧
      s.bu.claimFor bindings[0].resource = some (claimOn12 .none) ∧ (claimOn12 .none).state = .none ∧
      (0 : BindingNo) ∈ (claimOn12 .none).bindings ∧ s.bu.demand (claimOn12 .none) = false := by
  decide +kernel

/-- A station with one local claim and its queue replaced. -/
def changed (s : State) (c : LocalClaim) (q : TransmitQueue) : State :=
  { s with tq := q, bu := { s.bu with claims := s.bu.claims.map fun d => if d.resource = c.resource then c else d } }

/-- A queue with one entry, in flight after its first attempt or UNTAKEN. -/
def queueOf (i : Item) (inFlight : Bool) : TransmitQueue :=
  { TransmitQueue.empty with entries := [{ item := i, inFlight := inFlight, attempts := if inFlight then 1 else 0 }] }

/-- What DemandRiseHandsAClaim asks of every state: binding 0 of resource 12 is low, as is the demand. -/
abbrev RiseStands (s : State) (c : LocalClaim) : Prop :=
  s.powered = true ∧ s.sc.state = .active ∧ s.tc.state ≠ .parked ∧ s.bu.lines[(0 : BindingNo)] = false ∧
    s.bu.config 0 = some bindings[0] ∧ s.bu.claimFor bindings[0].resource = some c ∧ s.bu.demand c = false

theorem test_witness_DemandRiseHandsAClaim_in_sending :
    RiseStands (changed (member Record.empty) { claimOn12 .sending with cancel := true } TransmitQueue.empty)
      { claimOn12 .sending with cancel := true } := by
  decide +kernel

theorem test_witness_DemandRiseHandsAClaim_with_the_drop_in_flight_or_gone :
    let s (q : TransmitQueue) (reclaim : Bool) := changed (member Record.empty) { claimOn12 .dropping with reclaim := reclaim } q
    RiseStands (s (queueOf (.drop 12) true) false) (claimOn12 .dropping) ∧
      (∀ e ∈ (s (queueOf (.drop 12) true) false).tq.entryFor 12, e.inFlight = true) ∧
      RiseStands (s TransmitQueue.empty false) (claimOn12 .dropping) ∧
      (s TransmitQueue.empty false).tq.entryFor 12 = none ∧
      RiseStands (s (queueOf (.drop 12) true) true) { claimOn12 .dropping with reclaim := true } := by
  decide +kernel

/-- The local claim of resource 40 in a state. -/
def claimOn40 (st : ClaimState) : LocalClaim :=
  { resource := 40, mode := .shared, cls := .urgent, yieldable := false, bindings := [2], state := st,
    cancel := false, reclaim := false, yieldSeen := false }

/-- A station whose local claim on resource 40 stands in a state, with line 2 high. -/
def claiming40 (s : State) (st : ClaimState) : State :=
  { s with
    bu :=
      { s.bu with
        lines := s.bu.lines.set 2 true
        claims := s.bu.claims.map fun c => if c.resource = 40 then claimOn40 st else c } }

theorem test_witness_DemandFallHandsADrop :
    ∀ st ∈ [ClaimState.waiting, .held],
      let s := claiming40 (member Record.empty) st
      s.powered = true ∧ s.sc.state = .active ∧ s.tc.state ≠ .parked ∧ s.bu.lines[(2 : BindingNo)] = true ∧
        s.bu.config 2 = some bindings[2] ∧ bindings[2].enabled = true ∧ bindings[2].trigger = .level ∧
        s.bu.claimFor bindings[2].resource = some (claimOn40 st) ∧
        ((claimOn40 st).state = .waiting ∨ (claimOn40 st).state = .held) ∧ (2 : BindingNo) ∈ (claimOn40 st).bindings ∧
        (∀ k ∈ (claimOn40 st).bindings, k ≠ 2 → s.bu.request k = false) ∧
        s.tq.entryFor bindings[2].resource = none := by
  decide +kernel

theorem test_witness_DemandFallHandsADrop_in_queued :
    ∀ taken ∈ [false, true],
      let i := claimOf (claimOn40 .queued)
      let s := { claiming40 (member Record.empty) .queued with tq := queueOf i taken }
      QueueLawful s ∧ s.sc.state = .active ∧ s.bu.lines[(2 : BindingNo)] = true ∧
        s.bu.claimFor bindings[2].resource = some (claimOn40 .queued) ∧
        s.tq.entryFor bindings[2].resource = some { item := i, inFlight := taken, attempts := if taken then 1 else 0 } ∧
        i.isClaim = true := by
  decide +kernel

theorem test_witness_DemandFallHandsADrop_in_the_other_states :
    ∀ st ∈ [ClaimState.sending, .dropping, .refused],
      let s := claiming40 (member Record.empty) st
      s.powered = true ∧ s.sc.state = .active ∧ s.tc.state ≠ .parked ∧ s.bu.lines[(2 : BindingNo)] = true ∧
        s.bu.claimFor bindings[2].resource = some (claimOn40 st) := by
  decide +kernel

theorem test_witness_OutputsFollowTheLocalClaims :
    let s := settled (claiming (member (heldBy9 [])) .held true)
    Settled s ∧ s.pins.gnt[(0 : BindingNo)] = true ∧ exec .mcsReleased s = .next (after .mcsReleased s) := by
  refine ⟨by decide +kernel, by decide +kernel, rfl⟩

theorem test_witness_CompatibilityOfModes :
    (heldBy9 []).holding.compatible .shared = false ∧ Record.empty.grantsAtOnce .exclusive .ordinary = true ∧
      Holding.free.compatible wait5.entry.mode = true ∧ (heldBy9 [wait5]).holding.compatible wait5.entry.mode = false := by
  decide

theorem test_witness_MarksOnThePair :
    let s := settled (member Record.empty)
    let t := { s with xi := { s.xi with rx := .taking } }
    let a := attemptOf s .presence
    let u := settled { s with xi := { s.xi with attempt := some { a with phase := .sending } } }
    (s.powered = true ∧ Settled s ∧ s.sc.state.receiverOn = true ∧ s.xi.sending = false) ∧
      (t.powered = true ∧ Settled t ∧ t.xi.rx = .taking) ∧
      (u.powered = true ∧ Settled u ∧ u.xi.attempt = some { a with phase := .sending } ∧ u.xi.rx ≠ .damaged) := by
  decide +kernel

theorem test_witness_FrameReceivedWholeIsHeld :
    let s := after .startMarkSeen (settled (member Record.empty))
    s.powered = true ∧ Settled s ∧ s.xi.rx = .taking ∧
      decodeFrame (encodeFrame (from9 (.drop 12))) = some (from9 (.drop 12)) := by
  decide +kernel

theorem test_witness_DamagedFrameIsRejected :
    ∀ n ∈ [0, 6],
      let s := after .startMarkSeen (settled (member Record.empty))
      let t := { s with xi := { s.xi with rejectStreak := n } }
      t.powered = true ∧ Settled t ∧ t.xi.rx = .taking ∧ t.xi.sending = false ∧ decodeFrame [] = none ∧
        t.xi.rejectStreak < 7 := by
  decide +kernel

theorem test_witness_EighthRejectIsolates :
    ∀ st ∈ [StationState.active, .leaving, .detached],
      let s := station st .idle (some .free)
      let t := { s with xi := { s.xi with rx := .taking, rejectStreak := 7 } }
      t.powered = true ∧ t.sc.state.receiverOn = true ∧ t.xi.rx = .taking ∧ decodeFrame [1] = none ∧
        t.xi.rejectStreak = 7 ∧ t.xi.sending = false := by
  decide +kernel

theorem test_witness_DiscardedFrameHasNoEffect :
    let s := hearing (member Record.empty) (from9 .join)
    let t := settled { s with xi := { s.xi with rx := .damaged } }
    (s.powered = true ∧ Settled s ∧ s.xi.rx = .whole (from9 .join)) ∧
      (t.powered = true ∧ Settled t ∧ t.xi.rx = .damaged ∧ t.xi.sending = false) := by
  decide +kernel

theorem test_witness_ClaimGrantedAtOnce :
    ∀ r ∈ [(0 : Resource), 63],
      let f := from9 (.claim r .exclusive .ordinary true)
      let s := hearing (member Record.empty) f
      HoldsWhole s f 5 ∧ s.re.members[f.sender] = .active ∧ RecordLawful s.re.members s.re.records[r] ∧
        s.re.records[r].has f.sender = false ∧ s.re.records[r].holding.compatible .exclusive = true ∧
        NoneAhead .ordinary s.re.records[r].waits := by
  decide +kernel

/-- A record held by station 5, so that station 9 must wait. -/
def heldBy5 : Record := { holding := .exclusive { station := 5, yieldable := true }, waits := [], yieldDemand := false }

/-- A station whose pool has only entries from n on free. -/
def poolFrom (s : State) (n : Nat) : State := { s with re := { s.re with pool := tableOf 96 fun i => decide (i.val < n) } }

theorem test_witness_ClaimWaits :
    ∀ i ∈ [(0 : Fin 96), 95],
      let f := from9 (.claim 12 .shared .urgent false)
      let s := hearing (poolFrom (member heldBy5) i.val) f
      HoldsWhole s f 5 ∧ s.re.members[f.sender] = .active ∧ RecordLawful s.re.members s.re.records[(12 : Resource)] ∧
        s.re.records[(12 : Resource)].has f.sender = false ∧
        ¬ (s.re.records[(12 : Resource)].holding.compatible .shared = true ∧
          NoneAhead .urgent s.re.records[(12 : Resource)].waits) ∧
        s.re.pool[i] = false ∧ (∀ j : Fin 96, j < i → s.re.pool[j] = true) := by
  decide +kernel

/-- Station 5 holds resource 12, its local claim HELD with line 0 high, while an URGENT CLAIM of station 9 stands received
whole. -/
def heldAgainstUrgent : State := hearing (claiming (member heldBy5) .held true) (from9 (.claim 12 .shared .urgent false))

theorem test_witness_ClaimWaits_at_the_holder :
    let f := from9 (.claim 12 .shared .urgent false)
    let s := heldAgainstUrgent
    HoldsWhole s f 5 ∧ s.re.members[f.sender] = .active ∧ RecordLawful s.re.members s.re.records[(12 : Resource)] ∧
      s.re.records[(12 : Resource)].has f.sender = false ∧ s.re.pool[(0 : Fin 96)] = false ∧ s.sc.state = .active ∧
      s.re.records[(12 : Resource)].holds 5 = true ∧ s.bu.claimFor 12 = some (claimOn12 .held) := by
  decide +kernel

/-- The URGENT waiter asks this station to yield (R43, R68, R77). -/
theorem test_an_urgent_waiter_raises_yld :
    let t := after (.windowClose false) heldAgainstUrgent
    t.pins.yld[(0 : BindingNo)] = true ∧ t.mp.notices = [.yieldAsked 12] ∧
      t.bu.claimFor 12 = some { claimOn12 .held with yieldSeen := true } := by
  decide +kernel

/-- The record of resource 12 where station 5 holds it with yield demand, waits in it, or does not stand in it. -/
def standings : List Record :=
  [{ heldBy5 with
      waits := [{ slot := 0, entry := { station := 9, mode := .shared, cls := .urgent, yieldable := false } }]
      yieldDemand := true },
    heldBy9 [wait5], heldBy9 []]

theorem test_witness_DemandRiseHandsAClaim_with_the_drop_untaken :
    ∀ k ∈ [0, 1, 2],
      let record := standings.getD k Record.empty
      let s := changed (member record) (claimOn12 .dropping) (queueOf (.drop 12) false)
      RiseStands s (claimOn12 .dropping) ∧ QueueLawful s ∧ s.xi.number = some 5 ∧ s.re.valid = true ∧
        s.tq.entryFor 12 = some { item := .drop 12, inFlight := false, attempts := 0 } ∧
        record.holds 5 = decide (k = 0) ∧ record.waitsFor 5 = decide (k = 1) := by
  decide +kernel

theorem test_witness_ClaimLeavesTheTable :
    let f := from9 (.claim 12 .shared .urgent false)
    let g := { f with sender := 2, active := false }
    let s := hearing (member (heldBy9 [])) f
    let t := hearing (poolFrom (member heldBy5) 96) f
    let u := hearing (member Record.empty) g
    (HoldsWhole s f 5 ∧ caughtForeign s.re f = false ∧ s.re.records[(12 : Resource)].has f.sender = true) ∧
      (HoldsWhole t f 5 ∧ caughtForeign t.re f = false ∧
        ¬ (t.re.records[(12 : Resource)].holding.compatible .shared = true ∧
          NoneAhead .urgent t.re.records[(12 : Resource)].waits) ∧ ∀ i : Fin 96, t.re.pool[i] = true) ∧
      (HoldsWhole u g 5 ∧ caughtForeign u.re g = false ∧ u.re.members[g.sender] ≠ .active) := by
  decide +kernel

/-- Station 5 waits behind station 9 while a DROP of station 9 stands received whole. -/
def hearingDrop (b : Byte) : State := hearing (member (heldBy9 [wait5])) (from9 (.drop b))

theorem test_witness_DropTakesItsSenderOut_of_a_holder :
    HoldsWhole (hearingDrop 12) (from9 (.drop 12)) 5 ∧ caughtForeign (hearingDrop 12).re (from9 (.drop 12)) = false ∧
      (12 : Byte).toNat = (12 : Resource).val ∧ (hearingDrop 12).re.members[(9 : Station)] = .active ∧
      RecordLawful (hearingDrop 12).re.members (hearingDrop 12).re.records[(12 : Resource)] := by
  decide +kernel

theorem test_witness_DropTakesItsSenderOut_of_no_station_in_the_record :
    HoldsWhole (hearingDrop 63) (from9 (.drop 63)) 5 ∧ caughtForeign (hearingDrop 63).re (from9 (.drop 63)) = false ∧
      (63 : Byte).toNat = (63 : Resource).val ∧
      RecordLawful (hearingDrop 63).re.members (hearingDrop 63).re.records[(63 : Resource)] := by
  decide +kernel

theorem test_witness_DropTakesItsSenderOut_with_no_effect :
    let g : Frame := { sender := 2, active := false, count := 7, body := .drop 63 }
    let u := hearing (member (heldBy9 [wait5])) g
    (HoldsWhole (hearingDrop 64) (from9 (.drop 64)) 5 ∧ caughtForeign (hearingDrop 64).re (from9 (.drop 64)) = false ∧
      64 ≤ (64 : Byte).toNat) ∧
      (HoldsWhole u g 5 ∧ caughtForeign u.re g = false ∧ u.re.members[g.sender] ≠ .active) := by
  decide +kernel

/-- Station 5 where it is not the reference: station 0 is ACTIVE as well. -/
def notReference : State :=
  let s := member Record.empty
  { s with re := s.re.setMember 0 .active }

/-- A member in a tenure state, with a bus condition, and with work or none. -/
def tenant (t : TenureState) (bus : BusCondition) (quiet work : Bool) : State :=
  let s := member Record.empty
  settled
    { s with
      tc := { s.tc with state := t, bus := some bus, quietWatch := quiet }
      tq := if work then TransmitQueue.empty.append .presence else TransmitQueue.empty }

/-- A table with a wait entry that holds pool entry 0. -/
def waitingTable : State :=
  let s := member { heldBy9 [wait5] with yieldDemand := false }
  { s with re := { s.re with pool := tableOf 96 fun i => i.val == 0 } }

/-- An inactive frame of the JOINING station 2. -/
def from2 (b : Body) : Frame := { sender := 2, active := false, count := 7, body := b }

theorem test_witness_MembershipFrames :
    let s (f : Frame) := hearing waitingTable f
    (∀ f ∈ [from9 (.expel 2 .silent), from2 .leave, from2 .join, from2 (.expel 9 .silent), from9 (.expel 15 .disagree)],
      HoldsWhole (s f) f 5 ∧ caughtForeign (s f).re f = false) ∧
      TableLawful (s (from9 .leave)).re ∧ (2 : Station) ≠ 5 ∧ waitingTable.re.members[(9 : Station)] = .active ∧
      waitingTable.re.members[(2 : Station)] = .joining ∧ waitingTable.re.members[(15 : Station)] = .absent := by
  decide +kernel

theorem test_witness_MembershipFrames_of_an_absent_sender :
    let f : Frame := { sender := 15, active := false, count := 0, body := .leave }
    let s := hearing waitingTable f
    HoldsWhole s f 5 ∧ caughtForeign s.re f = false ∧ s.re.members[f.sender] = .absent := by
  decide +kernel

theorem test_witness_MembershipFrames_of_a_join :
    let f := from2 .join
    let s := hearing waitingTable f
    let armed := hearing { waitingTable with tq := { TransmitQueue.empty with job := .armed } } f
    let running := hearing { waitingTable with tq := { TransmitQueue.empty with job := .running 8 none } } f
    let other := hearing notReference f
    let parked := hearing (tenant .parked .taken false false) f
    (HoldsWhole s f 5 ∧ s.tc.state ≠ .parked ∧ s.tq.job = .clear ∧ (after (.windowClose false) s).re.reference = some 5) ∧
      (HoldsWhole armed f 5 ∧ armed.tq.job = .armed) ∧ (HoldsWhole running f 5 ∧ running.tq.job = .running 8 none) ∧
      (HoldsWhole other f 5 ∧ other.tc.state ≠ .parked ∧ (after (.windowClose false) other).re.reference ≠ some 5) ∧
      (HoldsWhole parked f 5 ∧ parked.tc.state = .parked ∧ parked.tq = TransmitQueue.empty ∧
        (after (.windowClose false) parked).re.reference = some 5) := by
  decide +kernel

theorem test_witness_PresenceAndSnapshotParts :
    ∀ f ∈ [from2 (.presence true 0), from9 (.presence false 0), from9 (.snapshot (.members (Vector.replicate 16 .absent)))],
      HoldsWhole (hearing waitingTable f) f 5 ∧ caughtForeign (hearing waitingTable f).re f = false := by
  decide +kernel

theorem test_witness_PresenceAndSnapshotParts_of_a_lost_role :
    let f := from2 (.presence true 0)
    let s := hearing { waitingTable with tq := { TransmitQueue.empty with job := .armed, reArm := true } } f
    HoldsWhole s f 5 ∧ caughtForeign s.re f = false ∧ f.syncedPresence = true ∧ s.re.members[f.sender] = .joining ∧
      f.sender < 5 ∧ s.re.reference = some 5 ∧ s.tq.job = .armed ∧
      (after (.windowClose false) s).tq.job = .clear := by
  decide +kernel

/-- A frame of a foreign table: its sender, JOINING here, says that it is active. -/
def foreign (n : Half) : Frame := { sender := 2, active := true, count := n, body := .join }

theorem test_witness_ForeignTableRule :
    (HoldsWhole (hearing waitingTable (foreign 7)) (foreign 7) 5 ∧ caughtForeign waitingTable.re (foreign 7) = true ∧
      waitingTable.re.count.toNat ≤ (foreign 7).count.toNat) ∧
      (HoldsWhole (hearing waitingTable (foreign 6)) (foreign 6) 5 ∧ caughtForeign waitingTable.re (foreign 6) = true ∧
        (foreign 6).count.toNat < waitingTable.re.count.toNat) := by
  decide +kernel

theorem test_witness_TwinFrameFaults :
    let f : Frame := { sender := 5, active := true, count := 7, body := .join }
    let s := hearing (member Record.empty) f
    s.powered = true ∧ s.xi.rx = .whole f ∧ s.xi.number = some f.sender ∧ s.sc.state.receiverOn = true := by
  decide +kernel

theorem test_witness_ReferenceCheckExpels :
    let f (n : Half) : Frame := { from9 (.presence false 0) with count := n }
    let s (n : Half) := hearing (member Record.empty) (f n)
    let u := hearing notReference (f 8)
    (HoldsWhole (s 8) (f 8) 5 ∧ (s 8).re.members[(9 : Station)] = .active ∧ (s 8).re.reference = some 5 ∧
      (f 8).count ≠ (s 8).re.count ∧ (s 8).tq.holdsExpel 9 = false) ∧
      (HoldsWhole (s 7) (f 7) 5 ∧ (s 7).re.reference = some 5 ∧ (f 7).count = (s 7).re.count) ∧
      (HoldsWhole u (f 8) 5 ∧ u.re.members[(9 : Station)] = .active ∧ u.re.reference ≠ some 5 ∧ u.sc.state = .active ∧
        (f 8).count ≠ u.re.count) := by
  decide +kernel

theorem test_witness_ReferenceCheckExpels_on_a_digest :
    let d := (table Record.empty).digest + 1
    let f := from9 (.presence true d)
    let s := hearing (member Record.empty) f
    HoldsWhole s f 5 ∧ s.re.members[(9 : Station)] = .active ∧ f.active = true ∧ s.re.reference = some 5 ∧
      s.tq.holdsExpel 9 = false ∧ f.count = s.re.count ∧ d ≠ s.re.digest := by
  decide +kernel

theorem test_witness_ReferenceCheckExpels_with_an_expel_held :
    let f : Frame := { from9 (.presence false 0) with count := 8 }
    let s := hearing { member Record.empty with tq := TransmitQueue.empty.append (.expel 9 .silent) } f
    HoldsWhole s f 5 ∧ s.re.members[(9 : Station)] = .active ∧ f.active = true ∧ s.re.reference = some 5 ∧
      s.tq.holdsExpel 9 = true ∧ f.count ≠ s.re.count := by
  decide +kernel

theorem test_witness_ReferenceCheckExpels_of_a_joining_sender :
    let f : Frame := { from2 (.presence true 0) with count := 8 }
    let s := hearing (member Record.empty) f
    HoldsWhole s f 5 ∧ s.re.members[(2 : Station)] = .joining ∧ f.active = false ∧ s.re.reference = some 5 ∧
      s.tq.holdsExpel 2 = false ∧ f.count ≠ s.re.count := by
  decide +kernel

theorem test_witness_OwnExpulsionLeavesTheTable :
    ∀ why ∈ [ExpelReason.silent, .disagree],
      let f := from9 (.expel 5 why)
      let s := hearing waitingTable f
      HoldsWhole s f 5 ∧ s.re.members[f.sender] = .active ∧ s.re.members[(5 : Station)] ≠ .absent := by
  decide +kernel

theorem test_witness_GrantByAnotherStationsDrop :
    let f := from9 (.drop (byte (12 : Resource).val))
    let s := hearing (claiming waitingTable .waiting true) f
    HoldsWhole s f 5 ∧ s.sc.state = .active ∧ s.re.members[f.sender] = .active ∧
      s.re.records[(12 : Resource)].holding = .exclusive { station := f.sender, yieldable := true } ∧
      s.re.records[(12 : Resource)].waits = [wait5] ∧ wait5.entry.station = 5 ∧
      (∀ v ∈ [wait5], v.entry.station ≠ f.sender) ∧ s.bu.claimFor 12 = some (claimOn12 .waiting) := by
  decide +kernel

/-! ### Own attempts and tenure -/

theorem test_witness_FailedAttemptIsRetried :
    ∀ n ∈ [1, 2],
      let s := awaiting (member Record.empty) .presence n
      AwaitsOwnWindow s (attemptOf (member Record.empty) .presence) ∧ s.tc.state = .holding ∧
        s.tq.entries.find? (·.inFlight) = some { item := .presence, inFlight := true, attempts := n } ∧ n < 3 := by
  decide +kernel

/-- Part k in its n-th attempt, in its window, at a station that is pinned or not, with its re-arm mark set or not. -/
def awaitingPart (k : Fin 9) (n : Nat) (reArm : Bool) : State :=
  let s := member Record.empty
  settled
    { s with
      tc := { s.tc with state := .holding, bus := some .taken, pinned := true }
      tq := { entries := [], job := .running k (some n), reArm := reArm }
      xi :=
        { s.xi with
          attempt :=
            some { frame := s.frameOf (.part k), sent := .part k, phase := .window, discarded := false, unreported := false } } }

/-- The attempt that awaitingPart puts into its window. -/
def partAttempt (k : Fin 9) : Attempt :=
  { frame := (member Record.empty).frameOf (.part k), sent := .part k, phase := .window, discarded := false
    unreported := false }

theorem test_witness_FailedAttemptIsRetried_of_a_part :
    ∀ k ∈ [(0 : Fin 9), 7, 8], ∀ n ∈ [1, 2, 3], ∀ reArm ∈ [false, true],
      let s := awaitingPart k n reArm
      AwaitsOwnWindow s (partAttempt k) ∧ (partAttempt k).discarded = false ∧ (partAttempt k).sent = .part k ∧
        s.tc.state = .holding ∧ s.tq.entries.find? (·.inFlight) = none ∧ s.tq.job = .running k (some n) ∧
        s.tc.pinned = true ∧ s.xi.dropStreak < 3 ∧ s.tq.reArm = reArm ∧ s.sc.state = .active ∧ s.re.valid = true ∧
        (partAttempt k).frame.body = .snapshot (s.re.part k) := by
  decide +kernel

/-- A part in its last attempt, its run not re-armed before, at a holder whose quota of 255 is not spent, with XWANT
asserted or not. -/
def lastAttemptOfPart (xwant : Bool) : State :=
  let s := awaitingPart 3 3 false
  { s with lines := { s.lines with xwant := xwant }, tc := { s.tc with q := some 255 } }

theorem test_witness_FailedAttemptIsRetried_of_an_abandoned_run :
    ∀ xwant ∈ [false, true],
      let s := lastAttemptOfPart xwant
      AwaitsOwnWindow s (partAttempt 3) ∧ s.tc.state = .holding ∧ s.tq.entries.find? (·.inFlight) = none ∧
        s.tq.job = .running 3 (some 3) ∧ s.tq.reArm = false ∧ s.xi.dropStreak < 3 ∧ s.lines.xwant = xwant := by
  decide +kernel

/-- The holder of an abandoned run surrenders where XWANT is asserted, whatever its quota count, and else continues
(R129). -/
theorem test_an_abandoned_run_yields_to_xwant :
    (after (.ownWindowClose true) (lastAttemptOfPart true)).tc.state = .served ∧
      (after (.ownWindowClose true) (lastAttemptOfPart true)).tq.job = .armed ∧
      (after (.ownWindowClose true) (lastAttemptOfPart false)).tc.state = .holding ∧
      (after (.ownWindowClose true) (lastAttemptOfPart false)).tq.job = .running 0 (some 1) := by
  decide +kernel

theorem test_witness_OwnFrameDropped :
    ∀ n ∈ [0, 2],
      let m := member Record.empty
      let s := awaiting { m with xi := { m.xi with dropStreak := n } } .presence 3
      AwaitsOwnWindow s (attemptOf m .presence) ∧
        s.tq.entries.find? (·.inFlight) = some { item := .presence, inFlight := true, attempts := 3 } ∧
        s.xi.dropStreak < 3 ∧ s.mp.notices.length < 31 := by
  decide +kernel

/-- The last attempt of a frame in its window, at a station with the replica record and the local claim given for resource
12. -/
def lastAttempt (record : Record) (c : LocalClaim) (i : Item) : State :=
  awaiting (changed (member record) c TransmitQueue.empty) i 3

theorem test_witness_OwnFrameDropped_by_kind :
    ∀ i ∈ [Item.expel 9 .silent, .join, .presence],
      let s := lastAttempt Record.empty (claimOn12 .none) i
      AwaitsOwnWindow s (attemptOf (member Record.empty) i) ∧ QueueLawful s ∧ s.xi.dropStreak < 3 ∧
        s.tq.entries.find? (·.inFlight) = some { item := i, inFlight := true, attempts := 3 } := by
  decide +kernel

theorem test_witness_OwnFrameDropped_of_a_claim :
    ∀ cancel ∈ [false, true],
      let c := { claimOn12 .sending with cancel := cancel }
      let s := lastAttempt (heldBy9 []) c (claimOf c)
      AwaitsOwnWindow s (attemptOf (member (heldBy9 [])) (claimOf c)) ∧ QueueLawful s ∧
        s.tq.entries.find? (·.inFlight) = some { item := claimOf c, inFlight := true, attempts := 3 } ∧
        s.bu.claimFor 12 = some c := by
  decide +kernel

theorem test_witness_OwnFrameDropped_of_a_drop :
    ∀ k ∈ [0, 1, 2], ∀ reclaim ∈ [false, true],
      let record := standings.getD k Record.empty
      let c := { claimOn12 .dropping with reclaim := reclaim }
      let s := lastAttempt record c (.drop 12)
      AwaitsOwnWindow s (attemptOf (member record) (.drop 12)) ∧ QueueLawful s ∧
        s.tq.entries.find? (·.inFlight) = some { item := .drop 12, inFlight := true, attempts := 3 } ∧
        s.bu.claimFor 12 = some c ∧ s.xi.number = some 5 ∧ s.re.valid = true := by
  decide +kernel

theorem test_witness_OwnFrameDropped_of_a_leave :
    let leaving := station .leaving .holding (some .taken)
    let s := awaiting leaving .leave 3
    AwaitsOwnWindow s (attemptOf leaving .leave) ∧ s.xi.dropStreak < 3 ∧ s.sc.state = .leaving ∧
      s.tq.entries.find? (·.inFlight) = some { item := .leave, inFlight := true, attempts := 3 } := by
  decide +kernel

theorem test_witness_FourthDropIsolates :
    let m := member Record.empty
    let s := awaiting { m with xi := { m.xi with dropStreak := 3 } } .presence 3
    AwaitsOwnWindow s (attemptOf m .presence) ∧
      s.tq.entries.find? (·.inFlight) = some { item := .presence, inFlight := true, attempts := 3 } ∧
      s.xi.dropStreak = 3 ∧ s.sc.state.receiverOn = true := by
  decide +kernel

theorem test_witness_OwnClaimGranted :
    let m := claiming (member Record.empty) .sending true
    let i := Item.claim 12 .exclusive .ordinary true
    let s := awaiting m i 1
    AwaitsOwnWindow s (attemptOf m i) ∧ s.sc.state = .active ∧ s.re.valid = true ∧ s.xi.number = some 5 ∧
      (attemptOf m i).frame.sender = 5 ∧ (attemptOf m i).frame.body = .claim 12 .exclusive .ordinary true ∧
      s.re.members[(5 : Station)] = .active ∧ s.re.records[(12 : Resource)] = Record.empty ∧
      s.bu.claimFor 12 = some (claimOn12 .sending) := by
  decide +kernel

/-- Station 5 with its own CLAIM on resource 12 in its window, with the cancel flag set or not. -/
def claimingIn (s : State) (cancel : Bool) : State :=
  awaiting
    { s with
      bu :=
        { s.bu with
          claims := s.bu.claims.map fun c => if c.resource = 12 then { claimOn12 .sending with cancel := cancel } else c } }
    (.claim 12 .exclusive .ordinary true) 1

/-- What the further clauses of OwnClaimGranted ask of every state with an own CLAIM in its window. -/
abbrev OwnClaimStands (s : State) (cancel : Bool) : Prop :=
  let i := Item.claim 12 .exclusive .ordinary true
  let a := attemptOf s i
  let t := claimingIn s cancel
  AwaitsOwnWindow t a ∧ a.discarded = false ∧ t.sc.state = .active ∧ t.re.valid = true ∧
    t.xi.number = some 5 ∧ a.frame.sender = 5 ∧ a.frame.body = .claim 12 .exclusive .ordinary true ∧
    a.sent = .entry i ∧ t.re.members[(5 : Station)] = .active ∧ RecordLawful t.re.members t.re.records[(12 : Resource)] ∧
    t.bu.claimFor 12 = some { claimOn12 .sending with cancel := cancel }

/-- Station 5 in a table whose pool is exhausted. -/
def exhausted : State := poolFrom (member (heldBy9 [])) 96

theorem test_witness_OwnClaimGranted_further_outcomes (cancel : Bool) :
    OwnClaimStands (member (heldBy9 [])) cancel ∧ OwnClaimStands exhausted cancel ∧ OwnClaimStands (member heldBy5) cancel ∧
      OwnClaimStands waitingTable cancel ∧ OwnClaimStands (member Record.empty) cancel := by
  cases cancel <;> exact ⟨by decide +kernel, by decide +kernel, by decide +kernel, by decide +kernel, by decide +kernel⟩

theorem test_witness_OwnClaimGranted_queue (cancel : Bool) :
    QueueLawful (claimingIn (member (heldBy9 [])) cancel) ∧ QueueLawful (claimingIn exhausted cancel) ∧
      QueueLawful (claimingIn (member heldBy5) cancel) ∧ QueueLawful (claimingIn waitingTable cancel) ∧
      QueueLawful (claimingIn (member Record.empty) cancel) := by
  cases cancel <;> exact ⟨by decide +kernel, by decide +kernel, by decide +kernel, by decide +kernel, by decide +kernel⟩

theorem test_witness_OwnClaimGranted_outcomes :
    (heldBy9 []).has 5 = false ∧ (heldBy9 []).holding.compatible .exclusive = false ∧
      (∃ i : Fin 96, (member (heldBy9 [])).re.pool[i] = false) ∧ (∀ i : Fin 96, exhausted.re.pool[i] = true) ∧
      Record.empty.has 5 = false ∧ Record.empty.holding.compatible .exclusive = true ∧
      NoneAhead .ordinary Record.empty.waits := by
  decide +kernel

theorem test_witness_OwnClaimGranted_already :
    heldBy5.holds 5 = true ∧ (heldBy9 [wait5]).has 5 = true ∧ (heldBy9 [wait5]).holds 5 = false := by decide

theorem test_witness_OwnClaimGranted_own_drop :
    ∀ reclaim ∈ [false, true],
      let m := member heldBy5
      let c := { claimOn12 .dropping with reclaim := reclaim }
      let a := attemptOf m (.drop 12)
      let s := awaiting { m with bu := { m.bu with claims := m.bu.claims.map fun d => if d.resource = 12 then c else d } } (.drop 12) 1
      AwaitsOwnWindow s a ∧ QueueLawful s ∧ a.discarded = false ∧ s.sc.state = .active ∧ s.re.valid = true ∧
        s.xi.number = some 5 ∧ a.frame.sender = 5 ∧ a.frame.body = .drop (byte (12 : Resource).val) ∧
        a.sent = .entry (.drop 12) ∧ s.re.members[(5 : Station)] = .active ∧ s.bu.claimFor 12 = some c := by
  decide +kernel

/-- Station 5 without a valid replica, with a frame received whole. -/
def hearingOutside (st : StationState) (load : Option LoadImage) (d : Deadline) (f : Frame) : State :=
  let s := station st .idle (some .free)
  hearing { s with re := { s.re with load := load }, sc := { s.sc with deadline := d } } f

/-- The members of a table that station 5 joins. -/
def loadMembers (own : MemberState) : Vector MemberState 16 :=
  ((Vector.replicate 16 MemberState.absent).set 9 .active).set 5 own

/-- A load image with parts 0 to n loaded, of FREE records. -/
def loadUpTo (own : MemberState) (n : Nat) : LoadImage :=
  { members := loadMembers own, records := List.replicate (8 * n) Record.empty.toWire, nextPart := n + 1, count := 7 }

/-- The records of a part, all FREE but the first, which station 9 holds. -/
def partRecords : List WireRecord := (heldBy9 []).toWire :: List.replicate 7 Record.empty.toWire

theorem test_witness_OwnJoinAndLeaveAccepted_listening :
    ∀ st ∈ [StationState.listening, .joinPending],
      let f := from2 .join
      let s := hearingOutside st none .stopped f
      HearsWhole s f 5 ∧ s.sc.state = st ∧ s.sc.silence[f.sender].watched = false := by
  decide +kernel

theorem test_witness_OwnJoinAndLeaveAccepted_part_0 :
    let f := from9 (.snapshot (.members (loadMembers .joining)))
    let s := hearingOutside .awaitSnapshot none .running f
    HearsWhole s f 5 ∧ s.sc.state = .awaitSnapshot := by
  decide +kernel

theorem test_witness_OwnJoinAndLeaveAccepted_part_k :
    ∀ k ∈ [(0 : Fin 8), 6],
      let f := from9 (.snapshot (.records k partRecords))
      let i := loadUpTo .joining k.val
      let s := hearingOutside .awaitSnapshot (some i) .held f
      HearsWhole s f 5 ∧ f.wellFormed = true ∧ s.sc.state = .awaitSnapshot ∧ s.re.load = some i ∧
        PartFollows i f.count k partRecords ∧ k.val < 7 := by
  decide +kernel

theorem test_witness_OwnJoinAndLeaveAccepted_last_part :
    ∀ own ∈ [MemberState.joining, .active],
      let f := from9 (.snapshot (.records 7 partRecords))
      let i := loadUpTo own 7
      let s := hearingOutside .awaitSnapshot (some i) .running f
      HearsWhole s f 5 ∧ f.wellFormed = true ∧ s.sc.state = .awaitSnapshot ∧ s.re.load = some i ∧
        i.members[(5 : Station)] = own ∧ s.tq.entries = [] := by
  decide +kernel

theorem test_witness_OwnJoinAndLeaveAccepted_last_part_follows :
    ∀ own ∈ [MemberState.joining, .active],
      ImageLawful (loadUpTo own 7) ∧ PartFollows (loadUpTo own 7) (loadUpTo own 7).count 7 partRecords := by
  decide +kernel

theorem test_witness_OwnJoinAndLeaveAccepted_load_ended :
    ∀ d ∈ [Deadline.running, .held], ∀ active ∈ [false, true],
      let f := { from9 (.snapshot (.records 3 partRecords)) with active := active }
      let g := { from9 .join with active := active }
      let i := loadUpTo .joining 2
      let s := hearingOutside .awaitSnapshot (some i) d f
      let t := hearingOutside .awaitSnapshot (some i) d g
      (HearsWhole s f 5 ∧ f.wellFormed = true ∧ s.re.load = some i ∧ s.sc.deadline = d ∧ s.sc.tableHeard = false ∧
        i.nextPart ≠ (3 : Fin 8).val + 1) ∧
        (HearsWhole t g 5 ∧ t.re.load.isSome = true ∧ g.body.kindCode ≠ 7) ∧
        (HearsWhole (hearingOutside .awaitSnapshot none d g) g 5 ∧
          (hearingOutside .awaitSnapshot none d g).re.load = none) := by
  decide +kernel

/-- Station 5 in CONFIRMING with line 0 high and station 9 silent for 3 periods. -/
def confirming : State :=
  let s := claiming (station .confirming .holding (some .taken)) .none true
  { s with
    sc := { s.sc with silence := s.sc.silence.set 9 { watched := true, count := 3 } }
    re := { table Record.empty with members := (table Record.empty).members.set 5 .joining } }

theorem test_witness_OwnJoinAndLeaveAccepted_in_confirming :
    let s := awaiting confirming .presence 1
    let a := attemptOf confirming .presence
    AwaitsOwnWindow s a ∧ QueueLawful s ∧ s.sc.state = .confirming ∧ s.re.valid = true ∧ s.xi.number = some 5 ∧
      a.frame.sender = 5 ∧ a.frame.body = .presence true s.re.digest ∧ s.re.members[(5 : Station)] = .joining ∧
      s.sc.params = some { periodMs := 16, limit := 3, autoRejoin := true } ∧
      (∀ c ∈ s.bu.claims, c.state = .none ∧ s.tq.entryFor c.resource = none) := by
  decide +kernel

/-- CONFIRMED: the silent member is to be expelled and the demanded resource claimed (R81, R150, R169). -/
theorem test_the_own_presence_confirms_the_station :
    let t := after (.ownWindowClose false) (awaiting confirming .presence 1)
    t.sc.state = .active ∧ itemsOf t.tq = [.expel 9 .silent, .claim 12 .exclusive .ordinary true] := by
  decide +kernel

theorem test_witness_OwnJoinAndLeaveAccepted_of_an_expel :
    let i := Item.expel 9 .silent
    let leaving := station .leaving .holding (some .taken)
    let s := awaiting (member Record.empty) i 1
    let u := awaiting leaving i 1
    (AwaitsOwnWindow s (attemptOf (member Record.empty) i) ∧ QueueLawful s ∧ s.sc.state = .active ∧ s.re.valid = true ∧
      s.re.members[(5 : Station)] = .active ∧ s.re.members[(9 : Station)] ≠ .absent ∧
      (attemptOf (member Record.empty) i).frame.body = .expel 9 .silent) ∧
      (AwaitsOwnWindow u (attemptOf leaving i) ∧ u.xi.number = some 5 ∧ u.re.valid = false ∧
        u.sc.state ≠ .awaitSnapshot) := by
  decide +kernel

theorem test_witness_OwnJoinAndLeaveAccepted :
    let joining := station .joinPending .holding (some .taken)
    let leaving := station .leaving .holding (some .taken)
    (∀ seen ∈ [false, true],
      let s := awaiting { joining with sc := { joining.sc with foundedSeen := seen } } .join 1
      AwaitsOwnWindow s (attemptOf joining .join) ∧ s.re.valid = false ∧ s.xi.number = some 5 ∧
        (attemptOf joining .join).frame.body = .join ∧ s.sc.state = .joinPending ∧ s.sc.foundedSeen = seen) ∧
      (AwaitsOwnWindow (awaiting leaving .leave 1) (attemptOf leaving .leave) ∧
        (awaiting leaving .leave 1).re.valid = false ∧ (attemptOf leaving .leave).frame.body = .leave ∧
        (awaiting leaving .leave 1).sc.state = .leaving) := by
  decide +kernel

/-- A contender with a presence to send, or with none. -/
def contender (work : Bool) : State :=
  let s := member Record.empty
  settled
    { s with
      tc := { s.tc with state := .contending, bus := some .contention }
      tq := if work then TransmitQueue.empty.append .presence else TransmitQueue.empty }

theorem test_witness_ContentionCloses :
    (∀ work ∈ [true, false],
      Settled (contender work) ∧ (contender work).xi.number = some 5 ∧ (contender work).tc.bus = some .contention ∧
        (contender work).tc.state = .contending ∧ (contender work).tc.hasWork = work ∧
        (contender work).tc.pinned = false) ∧
      (∀ o, (none : Option Station) = some o → (5 : Station) ≤ o) ∧ (5 : Station) ≤ 5 ∧ (5 : Station) ≤ 6 ∧
      (4 : Station) < 5 ∧
      Settled (after .xtenAsserted (settled (member Record.empty))) ∧
      (after .xtenAsserted (settled (member Record.empty))).tc.bus = some .contention ∧
      (after .xtenAsserted (settled (member Record.empty))).tc.state = .idle := by
  decide +kernel

theorem test_witness_TenureLineIsRead :
    Settled (tenant .idle .free false false) ∧ Settled (tenant .idle .taken true false) ∧
      Settled (tenant .deferred .taken false true) ∧ (tenant .idle .free false false).tc.bus = some .free ∧
      (tenant .idle .taken true false).tc.bus = some .taken ∧ (tenant .idle .taken true false).powered = true ∧
      (tenant .idle .taken true false).lines.xten = false ∧ (tenant .deferred .taken false true).tc.state = .deferred := by
  decide +kernel

theorem test_witness_DemandLineIsRead :
    Settled (tenant .parked .taken false false) ∧ Settled (tenant .served .taken false false) ∧
      Settled (tenant .served .taken false true) ∧ Settled (tenant .served .free false true) ∧
      (tenant .served .free false true).tc.hasWork = true ∧ (tenant .served .taken false false).tc.hasWork = false ∧
      (tenant .parked .taken false false).tc.state = .parked := by
  decide +kernel

theorem test_witness_HoldingDecisionTable :
    let m := member Record.empty
    let a := { attemptOf m .presence with discarded := true }
    let s := awaiting m .presence 1
    let t := settled { s with tq := TransmitQueue.empty, xi := { s.xi with attempt := some a } }
    AwaitsOwnWindow t a ∧ a.discarded = true ∧ t.tc.state = .holding := by
  decide +kernel

/-! ### Timers and configuration -/

theorem test_witness_ListenTimerLeadsToJoin :
    let s := settled (station .listening .idle (some .taken))
    s.powered = true ∧ Settled s ∧ s.sc.state = .listening ∧ s.sc.listenTimer = true ∧ s.tq = TransmitQueue.empty ∧
      s.tc.state = .idle ∧ s.tc.bus ≠ none := by
  decide +kernel

theorem test_witness_SnapshotDeadlineTakesEffect :
    let s := settled (station .awaitSnapshot .idle (some .free))
    let l : LoadImage := { members := Vector.replicate 16 .absent, records := [], nextPart := 1, count := 0 }
    let t := { s with re := { s.re with load := some l } }
    let u := { s with sc := { s.sc with tableHeard := true } }
    (s.powered = true ∧ Settled s ∧ s.sc.state = .awaitSnapshot ∧ s.sc.deadline = .running ∧ s.re.load = none ∧
      s.sc.tableHeard = false) ∧
      (Settled t ∧ t.sc.deadline = .running ∧ t.re.load.isSome = true) ∧
      (Settled u ∧ u.sc.deadline = .running ∧ u.re.load = none ∧ u.sc.tableHeard = true ∧
        ∀ e ∈ u.tq.entries, e.item.isJoinOrLeave = false) := by
  decide +kernel

theorem test_witness_HoldOffEnds :
    ∀ mark ∈ [false, true],
      let s := station .isolated .offline none
      let t := { s with sc := { s.sc with returnDetached := mark } }
      t.powered = true ∧ t.sc.state = .isolated ∧ t.sc.holdOffTimer = true ∧ t.tc.state = .offline := by
  decide +kernel

theorem test_witness_HoldOffEnds_before_its_end :
    let s := settled (station .isolated .offline none)
    Settled s ∧ PartsLawful s ∧ SendsOnlyHolding s ∧ s.sc.state = .isolated := by
  decide +kernel

theorem test_witness_PeriodEndDuties :
    ∀ n ∈ [0, 2, 3], ∀ mark ∈ [false, true], ∀ st ∈ [StationState.joinPending, .confirming, .active],
      let s := { member Record.empty with sc := (station st .idle (some .free)).sc }
      let t :=
        { s with sc := { s.sc with silence := s.sc.silence.set 9 { watched := true, count := n }, satisfied := mark } }
      t.powered = true ∧ t.sc.presenceTimer = true ∧ t.limit = some 3 ∧ t.sc.state = st ∧ t.sc.satisfied = mark ∧
        t.sc.silence[(9 : Station)].watched = true ∧ t.sc.silence[(9 : Station)].count = n := by
  decide +kernel

theorem test_witness_ValidImageIsFrozen :
    let s := after (.resetReleased 5 false) State.reset
    let t := after (.resetReleased 5 true) State.reset
    let u := opened { t with cl := { t.cl with staging := image imageBytes } }
    validate (image imageBytes) = .valid ∧ (s.powered = true ∧ s.cl.state = .reading) ∧
      (u.powered = true ∧ u.sc.state = .config ∧ u.cl.staging = image imageBytes ∧ PortReady u) := by
  decide +kernel

theorem test_witness_RefusedImageFaults :
    let s := after (.resetReleased 5 false) State.reset
    s.powered = true ∧ s.cl.state = .reading ∧ validate (Vector.replicate 30 0) = .invalid 2 none ∧
      validate (image ([8, 6, 2, 1] ++ List.replicate 24 0)) = .invalid 1 none ∧
      validate (image ([7, 15, 8, 2] ++ List.replicate 24 0)) = .invalid 4 none ∧
      validate ((image imageBytes).set 29 0) = .badCheck := by
  decide +kernel

/-- Station 5 in CONFIG with an image staged and a command to be taken. -/
def staged (img : Vector Byte 30) : State :=
  let t := after (.resetReleased 5 true) State.reset
  opened { t with cl := { t.cl with staging := img } }

theorem test_witness_RefusedImageFaults_started (img : Vector Byte 30) :
    (staged img).powered = true ∧ (staged img).sc.state = .config ∧ (staged img).cl.staging = img ∧
      PortReady (staged img) :=
  ⟨rfl, rfl, rfl, rfl⟩

theorem test_witness_UnansweredReads :
    ∀ n ∈ [0, 1, 2],
      let s := after (.resetReleased 5 false) State.reset
      let t := { s with cl := { s.cl with failedReads := n } }
      t.powered = true ∧ Settled t ∧ t.cl.state = .reading ∧ t.cl.failedReads ≤ 2 := by
  decide +kernel

/-! ### The port and the laws -/

theorem test_witness_TransactionsAndNotices :
    let s := settled (member Record.empty)
    let t := opened (member Record.empty)
    let u := { t with mp := t.mp.post (.yieldAsked 0) }
    let v := after .popNotice u
    (Settled s ∧ s.powered = true ∧ s.sc.state ≠ .reset ∧ s.mp.transaction = none) ∧
      (Settled t ∧ PortReady t ∧ t.mp.msoDriven = true ∧ t.mp.notices = []) ∧
      ((Instr.writeConfig 0 30 (List.replicate 30 0)).wellFormed = true ∧
        (Instr.unknownCommand 0).commandBytes = some [0]) ∧ (Settled u ∧ PortReady u ∧ u.mp.notices = [.yieldAsked 0]) ∧
      (Settled v ∧ v.mp.pendingPop = some (.yieldAsked 0) ∧ v.mp.notices = [.yieldAsked 0]) := by
  decide +kernel

theorem test_witness_ReadsAreAnswered :
    let s := opened (member Record.empty)
    let t := opened (after (.resetReleased 5 true) State.reset)
    PortReady s ∧ s.xi.number = some 5 ∧ s.re.valid = true ∧ (0 : Byte).toNat = (0 : Resource).val ∧
      (63 : Byte).toNat = (63 : Resource).val ∧ (11 : Byte).toNat = (11 : BindingNo).val ∧
      (s.bu.config 11 = some bindings[11] ∧ bindings[11].enabled = false) ∧
      (s.bu.config 0 = some bindings[0] ∧ bindings[0].enabled = true ∧
        s.bu.claimFor bindings[0].resource = some (claimOn12 .none)) ∧
      (PortReady t ∧ t.sc.state = .config ∧ (29 : Byte).toNat ≤ 29 ∧ (29 : Byte).toNat + (1 : Byte).toNat ≤ 30 ∧
        (0 : Byte).toNat + (30 : Byte).toNat ≤ 30) := by
  decide +kernel

theorem test_witness_ReadsAreRefused :
    let s := opened (after (.resetReleased 5 false) State.reset)
    PortReady s ∧ s.re.valid = false ∧ s.bu.bindings = none ∧ s.sc.state ≠ .config ∧ 63 < (64 : Byte).toNat ∧
      (63 : Byte).toNat ≤ 63 ∧ 11 < (12 : Byte).toNat ∧ (11 : Byte).toNat ≤ 11 ∧ 29 < (30 : Byte).toNat ∧
      30 < (0 : Byte).toNat + (31 : Byte).toNat ∧ (Instr.unknownCommand 0).wellFormed = true := by
  decide +kernel

theorem test_witness_WriteConfigFillsTheStagingImage :
    let s := opened (after (.resetReleased 5 true) State.reset)
    let t := opened (member Record.empty)
    (Settled s ∧ PortReady s ∧ s.sc.state = .config ∧ (Instr.writeConfig 29 1 [7]).wellFormed = true ∧
      (29 : Byte).toNat ≤ 29 ∧ (29 : Byte).toNat + (1 : Byte).toNat ≤ 30) ∧
      ((Instr.writeConfig 30 0 []).wellFormed = true ∧ 29 < (30 : Byte).toNat) ∧
      ((Instr.writeConfig 0 31 []).wellFormed = true ∧ 30 < (0 : Byte).toNat + (31 : Byte).toNat) ∧
      (Settled t ∧ PortReady t ∧ t.sc.state ≠ .config) := by
  decide +kernel

theorem test_witness_LifeCycleCommands :
    let s := opened (member (heldBy9 []))
    let t := opened (station .detached .offline none)
    (Settled s ∧ PortReady s ∧ s.powered = true ∧ s.sc.state.inTable = true ∧
      (∀ e ∈ s.tq.entries, e.item.isJoinOrLeave = false) ∧ s.mp.notices.length + s.bu.claims.length < 32) ∧
      (Settled t ∧ PortReady t ∧ t.powered = true ∧ t.sc.state = .detached ∧ t.tc.state = .offline) ∧
      (t.sc.state.inTable = false ∧ s.sc.state ≠ .detached ∧ s.sc.state ≠ .config) := by
  decide +kernel

/-- Binding 1 alone on resource 12, LATCHED with its latch set and its claim HELD. -/
def latched : State :=
  let s := member Record.empty
  opened
    { s with
      bu :=
        { s.bu with
          latches := s.bu.latches.set 1 true
          claims := s.bu.claims.map fun c => if c.resource = 12 then { claimOn12 .held with bindings := [1] } else c } }

theorem test_witness_ReleaseLatchEndsTheRequest :
    let u := opened (after (.resetReleased 5 false) State.reset)
    (Settled latched ∧ PortReady latched ∧ 11 < (12 : Byte).toNat) ∧
      (Settled u ∧ PortReady u ∧ (11 : Byte).toNat ≤ 11 ∧ u.bu.bindings = none) ∧
      (latched.bu.config 0 = some bindings[0] ∧ bindings[0].trigger = .level ∧
        latched.bu.config 11 = some bindings[11] ∧ bindings[11].enabled = false) ∧
      (latched.bu.config 1 = some bindings[1] ∧ bindings[1].enabled = true ∧ bindings[1].trigger = .latched ∧
        latched.sc.state = .active ∧ latched.tc.state ≠ .parked ∧ latched.bu.latches[(1 : BindingNo)] = true ∧
        latched.bu.claimFor bindings[1].resource = some { claimOn12 .held with bindings := [1] } ∧
        latched.tq.entryFor bindings[1].resource = none) := by
  decide +kernel

theorem test_witness_AttnFollowsTheNotices :
    let s := { State.reset with mp := ManagementPort.reset.post (.yieldAsked 0) }
    let t := { s with mp := { s.mp with pendingPop := some (.yieldAsked 0) } }
    (s.mp.attn = !s.mp.notices.isEmpty) ∧ (t.mp.pendingPop = some (.yieldAsked 0) ∧ t.mp.notices = [.yieldAsked 0]) ∧
      (State.reset.powered = true ∧ State.reset.sc.state = .reset ∧ State.reset.mp = ManagementPort.reset) := by
  decide +kernel

/-- A station in a table with a holder, a waiter, a queued frame and an attempt. -/
def lawful : State := awaiting waitingTable .presence 1

theorem test_witness_StepsSettle : Settled lawful := by decide +kernel

theorem test_witness_StepsKeepThePort : PortLawful lawful.mp := by decide +kernel

theorem test_witness_StepsKeepTheParts :
    PartsLawful lawful ∧ PartsLawful (station .isolated .offline none) := by
  decide +kernel

theorem test_witness_StepsSendOnlyHolding : SendsOnlyHolding lawful := by decide +kernel

theorem test_witness_StepsKeepTheQueue : QueueLawful lawful := by decide +kernel

theorem test_witness_StepsKeepTheTable : TableLawful lawful.re ∧ FramesLawful lawful.xi := by decide +kernel

theorem test_witness_GrantsAreBackedInEveryRun :
    Host.Core.run Sys2Proof.core 0 { State.reset with pending := [] } = .next State.reset := rfl

/-- Station 5 with a HELD local claim that its replica backs, GNT0 high and a presence on the wire. -/
def granted : State := awaiting (claiming (member heldBy5) .held true) .presence 1

theorem test_witness_GrantsAreBackedInEveryRun_step :
    PartsLawful granted ∧ QueueLawful granted ∧ ClaimsBacked granted ∧ Settled granted ∧
      granted.pins.gnt[(0 : BindingNo)] = true :=
  ⟨by decide +kernel, by decide +kernel, by decide +kernel, by decide +kernel, by decide +kernel⟩

theorem test_witness_FramesAreReadBack :
    (from9 (.snapshot (.records 7 (List.replicate 8 { code := 2, holders := [{ station := 15, yieldable := true }], waits := [] })))).wellFormed =
      true := by
  decide +kernel

end Sys2Proof.Tests
end

section
/-! PROOF. How a property passes through a step: one induction principle over the commands, for every law that each
operation keeps. -/

namespace Sys2Proof.Machine

/-- What is asked of a property Q of the states that a command may lead to from s: it is kept by the end of an event and
by the port's own records, and each operation that a command starts with leads to it. -/
structure LeadsTo (Q : State → Prop) (s : State) : Prop where
  stay : Q s
  atEnd : ∀ u, Q u → Q (settle u)
  port : ∀ u p, Q u → Q (u.withMp p)
  reset : ∀ b, Q { s.blocksReset with powered := b }
  release : ∀ sid cfgsrc, Q (releaseReset sid cfgsrc s)
  rise : ∀ n, Q (lineRise n s)
  fall : ∀ n, Q (lineFall n s)
  latch : ∀ n, Q (clearLatch n s)
  marked : Q (startMark s)
  closed : ∀ bytes, Q (closingMark bytes s)
  truncated : Q (truncation s)
  window : ∀ rejected, Q (windowCloses rejected s)
  sent : Q (closingMarkSent s)
  ownWindow : ∀ rejected, Q (ownWindowCloses rejected s)
  xtenOn : Q (xtenAsserted s)
  contention : ∀ other, Q (contentionCloses other s)
  xtenOff : Q (xtenReleased s)
  quiet : Q (busQuiet s)
  xwantOn : Q (xwantAsserted s)
  xwantOff : Q (xwantReleased s)
  listened : Q (listenEnds s)
  deadline : Q (deadlineExpires s)
  holdOff : Q (holdOffExpires s)
  period : Q (periodEnds s)
  answered : ∀ image, Q (memoryAnswered image s)
  notAnswered : Q (memoryNotAnswered s)
  written : ∀ image, Q (s.withCl { s.cl with staging := image })
  started : s.sc.state = .config → Q (takeImage s.cl.staging s)
  left : s.sc.state.inTable = true → Q (leaveTable s)
  rejoined : s.sc.state = .detached → Q (enterState .listening .rejoin s)

section
variable {Q : State → Prop} {s t : State}

theorem LeadsTo.event (h : LeadsTo Q s) {f : State → State} (hf : Q (f s))
    (ht : event f s = .next t) : Q t := by
  obtain rfl : settle (if s.powered then f s else s) = t := by simpa [Machine.event] using ht
  refine h.atEnd _ ?_
  split
  · exact hf
  · exact h.stay

theorem LeadsTo.lineEvent (h : LeadsTo Q s) {f : State → State} (hf : Q (f s))
    (ht : lineEvent f s = .next t) : Q t := by
  obtain rfl : settle (f s) = t := by simpa [Machine.lineEvent] using ht
  exact h.atEnd _ hf

theorem LeadsTo.readEvent (h : LeadsTo Q s) {received : List Byte} {a : State → Answer}
    (ht : readEvent received a s = .next t) : Q t := by
  obtain rfl : takeRead received a s = t := by simpa [Machine.readEvent] using ht
  unfold takeRead settleAnswer
  split
  · exact h.port _ _ h.stay
  · exact h.stay

theorem LeadsTo.commandEvent (h : LeadsTo Q s) {received : List Byte} {run : State → State × Answer}
    (hr : Q (run s).1) (ht : commandEvent received run s = .next t) : Q t := by
  unfold Machine.commandEvent takeCommand settleAnswer at ht
  split at ht
  · obtain rfl := by simpa using ht
    exact h.atEnd _ (h.port _ _ hr)
  · obtain rfl := by simpa using ht
    exact h.stay

/-- A property of the states that the operations lead to holds of the state that a command leads to. -/
theorem LeadsTo.exec (h : LeadsTo Q s) {c : Instr} (ht : exec c s = .next t) : Q t := by
  cases c with
  | powerOn => exact (Host.Outcome.next.inj ht) ▸ h.reset true
  | powerLost => exact (Host.Outcome.next.inj ht) ▸ h.reset false
  | resetAsserted =>
    refine (Host.Outcome.next.inj ht) ▸ ?_
    split
    · exact h.reset s.powered
    · exact h.stay
  | resetReleased sid cfgsrc => exact h.event (h.release sid cfgsrc) ht
  | rise n =>
    change execRise n s = .next t at ht
    unfold execRise at ht
    refine h.event ?_ ht
    split
    · exact h.stay
    · exact h.rise n
  | fall n =>
    change execFall n s = .next t at ht
    unfold execFall at ht
    refine h.event ?_ ht
    split
    · exact h.stay
    · exact h.fall n
  | startMarkSeen => exact h.event h.marked ht
  | closingMarkSeen bytes => exact h.event (h.closed bytes) ht
  | truncationSeen => exact h.event h.truncated ht
  | windowClose rejected => exact h.event (h.window rejected) ht
  | closingMarkSent => exact h.event h.sent ht
  | ownWindowClose rejected => exact h.event (h.ownWindow rejected) ht
  | xtenAsserted => exact h.lineEvent h.xtenOn ht
  | contentionCloses other => exact h.lineEvent (h.contention other) ht
  | xtenReleased => exact h.lineEvent h.xtenOff ht
  | busQuietExpired => exact h.event h.quiet ht
  | xwantAsserted => exact h.lineEvent h.xwantOn ht
  | xwantReleased => exact h.lineEvent h.xwantOff ht
  | listenTimerExpired => exact h.event h.listened ht
  | snapshotDeadlineExpired => exact h.event h.deadline ht
  | holdOffExpired => exact h.event h.holdOff ht
  | periodEnd => exact h.event h.period ht
  | memoryReadAnswered image => exact h.event (h.answered image) ht
  | memoryReadNotAnswered => exact h.event h.notAnswered ht
  | readStatus => exact h.readEvent ht
  | readMembers => exact h.readEvent ht
  | readResource r => exact h.readEvent ht
  | readBinding b => exact h.readEvent ht
  | readCounters => exact h.readEvent ht
  | readConfig offset number => exact h.readEvent ht
  | clearCounters => exact h.commandEvent (h.port s _ h.stay) ht
  | popNotice =>
    refine h.commandEvent ?_ ht
    split
    · exact h.stay
    · exact h.port _ _ h.stay
  | popComplete => exact (Host.Outcome.next.inj ht) ▸ h.port _ _ h.stay
  | writeConfig offset number data =>
    change execWriteConfig offset number data s = .next t at ht
    unfold execWriteConfig at ht
    split at ht
    · refine (Host.Outcome.next.inj ht) ▸ ?_
      split
      · exact h.port _ _ h.stay
      · exact h.stay
    · refine h.commandEvent ?_ ht
      unfold writeStaging
      (repeat' split)
      · exact h.written _
      · exact h.stay
      · exact h.stay
  | start =>
    refine h.commandEvent ?_ ht
    split
    · exact h.started ‹_›
    · exact h.stay
  | leave =>
    refine h.commandEvent ?_ ht
    split
    · exact h.left ‹_›
    · exact h.stay
  | rejoin =>
    refine h.commandEvent ?_ ht
    split
    · exact h.rejoined ‹_›
    · exact h.stay
  | releaseLatch b =>
    refine h.commandEvent ?_ ht
    (repeat' split)
    · exact h.stay
    · exact h.stay
    · exact h.latch _
    · exact h.stay
  | unknownCommand code =>
    change execUnknownCommand code s = .next t at ht
    unfold execUnknownCommand at ht
    split at ht
    · exact (Host.Outcome.next.inj ht) ▸ h.stay
    · exact h.readEvent ht
  | mcsAsserted =>
    refine (Host.Outcome.next.inj ht) ▸ ?_
    split
    · exact h.port _ _ h.stay
    · exact h.stay
  | mcsReleased => exact (Host.Outcome.next.inj ht) ▸ h.port _ _ h.stay

/-- The same of a step, which runs the front command on the state with the queue's rest (95_what_each_step_holds.md). -/
theorem LeadsTo.step (hs : Q s) (h : ∀ rest, LeadsTo Q { s with pending := rest }) (ht : step s = .next t) : Q t := by
  unfold Machine.step at ht
  split at ht
  · exact (Host.Outcome.next.inj ht) ▸ hs
  · exact (h _).exec ht

end

end Sys2Proof.Machine
end

section
/-! PROOF. The agreement of the station's parts with the station state is kept by every operation (R1, R104, R117, R135,
R163, R177). -/

namespace Sys2Proof.Machine

open Sys2Proof.Safety

/-! ### What an operation that leaves the station state must keep -/

/-- What the parts' agreement asks of an operation that leaves the station controller, the replica and the loader as they
are: the tenure controller is not placed online or offline, and no frame appears in an empty receiver or queue. -/
structure Steady (s t : State) : Prop where
  offline : t.tc.state = .offline ↔ s.tc.state = .offline
  rx : s.xi.rx = .none → t.xi.rx = .none
  tq : s.tq = TransmitQueue.empty → t.tq = TransmitQueue.empty

theorem Steady.refl (s : State) : Steady s s := ⟨Iff.rfl, id, id⟩

theorem Steady.trans {s t u : State} (h : Steady s t) (k : Steady t u) : Steady s u :=
  ⟨k.offline.trans h.offline, k.rx ∘ h.rx, k.tq ∘ h.tq⟩

/-- An operation on the tenure controller alone is steady where it moves between online states. -/
theorem Steady.of_tc {s t : State} (hs : s.tc.state ≠ .offline) (ht : t.tc.state ≠ .offline) (hx : t.xi = s.xi)
    (hq : t.tq = s.tq) : Steady s t :=
  ⟨iff_of_false ht hs, by simp [hx], by simp [hq]⟩

theorem withTc_steady (s : State) (t : TenureController) (hs : s.tc.state ≠ .offline) (ht : t.state ≠ .offline) :
    Steady s (s.withTc t) :=
  .of_tc hs ht rfl rfl

@[simp] theorem hand_empty : TransmitQueue.empty.hand = (TransmitQueue.empty, none) := rfl

@[simp] theorem beginAttempt_rx (what : Sent) (s : State) (h : s.xi.rx = .none) : (beginAttempt what s).xi.rx = .none := by
  simp [beginAttempt, h]

theorem askNext_steady (s : State) : Steady s (askNext s) := by
  refine ⟨?_, fun h => ?_, fun h => ?_⟩
  · unfold askNext
    dsimp only
    split
    · rfl
    · split <;> simp
  · unfold askNext
    dsimp only
    split
    · exact h
    · refine beginAttempt_rx _ _ ?_
      split <;> simpa using h
  · simp [askNext, h]

theorem surrender_steady (s : State) (h : s.tc.state ≠ .offline) : Steady s (surrender s) :=
  .of_tc h (by simp [surrender]) (by simp) (by simp)

theorem noteWork_steady (s : State) : Steady s (noteWork s) :=
  ⟨by simp [noteWork], by simp, by simp⟩

theorem withTenure_steady (s : State) (t : TenureState) (h : s.tc.state ≠ .offline) (ht : t ≠ .offline) :
    Steady s (s.withTenure t) :=
  .of_tc h (by simpa [State.withTenure]) (by simp) (by simp)

theorem holdingDecision_steady (r : Bool) (s : State) (h : s.tc.state ≠ .offline) : Steady s (holdingDecision r s) := by
  have hn : (noteWork s).tc.state ≠ .offline := by simpa [noteWork]
  unfold holdingDecision
  refine (noteWork_steady s).trans ?_
  dsimp only
  split
  · exact askNext_steady _
  · exact withTenure_steady _ _ hn (by decide)
  · exact surrender_steady _ hn

theorem attemptReport_steady (r : Bool) (s : State) : Steady s (attemptReport r s) := by
  unfold attemptReport
  split
  next h =>
    refine Steady.trans ?_ (holdingDecision_steady r _ (by simp [h]))
    exact .of_tc (by simp [h]) (by simp [h]) rfl rfl
  all_goals exact .refl s

theorem wantBus_steady (s : State) (h : s.tc.state ≠ .offline) : Steady s (wantBus s) := by
  refine .of_tc h ?_ (by simp) (by simp)
  unfold wantBus
  split
  · simp [contend]
  · simp [contend]
  · simp [State.withTenure]
  · exact h

theorem busBecomesFree_steady (s : State) : Steady s (busBecomesFree s) := by
  refine ⟨?_, by simp, by simp⟩
  unfold busBecomesFree
  dsimp only
  split
  next h => simp_all [contend]
  all_goals simp

theorem contentionOpens_steady (s : State) : Steady s (contentionOpens s) := by
  refine ⟨?_, by simp, by simp⟩
  unfold contentionOpens
  dsimp only
  split
  next h => simp_all [contend]
  all_goals simp

theorem contenderCloses_steady (won : Bool) (s : State) (h : s.tc.state ≠ .offline) : Steady s (contenderCloses won s) := by
  have hc := withTc_steady s { s.tc with cameFromDeferred := false, bus := some .taken } h h
  unfold contenderCloses
  dsimp only
  (repeat' split)
  · exact (hc.trans (withTc_steady _ _ h (by simp))).trans (askNext_steady _)
  · exact (hc.trans (withTc_steady _ _ h (by simp))).trans (holdingDecision_steady false _ (by simp))
  · exact hc.trans (withTenure_steady _ _ h (by decide))
  · exact hc.trans (withTenure_steady _ _ h (by decide))

theorem tellWork_steady (s : State) : Steady s (tellWork s) := by
  unfold tellWork
  refine (noteWork_steady s).trans ?_
  dsimp only
  split
  next h _ _ => exact wantBus_steady _ (by simp [h])
  next h _ _ => exact withTenure_steady _ _ (by simp [h]) (by decide)
  next h _ _ =>
    refine (withTenure_steady _ _ ?_ ?_).trans ((askNext_steady _).trans (noteWork_steady _))
    · simp [h]
    · decide
  · exact .refl _

theorem settle_steady (s : State) : Steady s (settle s) := by
  have h := tellWork_steady s
  exact ⟨h.offline, h.rx, h.tq⟩

/-! ### The lines of the bus -/

theorem withLines_steady (s : State) (l : Lines) : Steady s (s.withLines l) := ⟨Iff.rfl, id, id⟩

theorem contentionCloses_steady (o : Option Station) (s : State) : Steady s (contentionCloses o s) := by
  unfold contentionCloses
  split
  · split
    next h => exact (withLines_steady s _).trans (contenderCloses_steady _ _ (by simp [h]))
    all_goals
      dsimp only
      split
      · exact ⟨Iff.rfl, id, id⟩
      · exact (withLines_steady s _).trans (busBecomesFree_steady _)
  all_goals exact withLines_steady s _

theorem xtenAsserted_steady (s : State) : Steady s (xtenAsserted s) := by
  unfold xtenAsserted
  dsimp only
  split
  · exact (withLines_steady s _).trans (contentionOpens_steady _)
  all_goals exact withLines_steady s _

theorem xtenReleased_steady (s : State) : Steady s (xtenReleased s) := by
  unfold xtenReleased
  dsimp only
  split
  · split
    · exact withLines_steady s _
    · exact (withLines_steady s _).trans (busBecomesFree_steady _)
  all_goals exact withLines_steady s _

theorem busQuiet_steady (s : State) : Steady s (busQuiet s) := by
  unfold busQuiet
  split
  · split
    · exact busBecomesFree_steady s
    · exact .refl s
  all_goals exact .refl s

theorem xwantAsserted_steady (s : State) : Steady s (xwantAsserted s) := by
  unfold xwantAsserted
  dsimp only
  split
  next h => exact (withLines_steady s _).trans (surrender_steady _ (by rw [h]; decide))
  all_goals exact withLines_steady s _

theorem xwantReleased_steady (s : State) : Steady s (xwantReleased s) := by
  unfold xwantReleased
  dsimp only
  split
  next h =>
    have hi : Steady s ((s.withLines { s.lines with xwant := false }).withTenure .idle) :=
      (withLines_steady s _).trans (withTenure_steady _ _ (by rw [h]; decide) (by decide))
    split
    · exact hi.trans (wantBus_steady _ (by simp [State.withTenure]))
    · exact hi
  all_goals exact withLines_steady s _

/-! ### A change of station state, field by field (R137, R138, R151) -/

@[simp] theorem change_state (c : StationController) (st : StationState) : (c.change st).state = st := rfl

@[simp] theorem discardLoad_valid (e : ReplicaEngine) : e.discardLoad.valid = e.valid := rfl
@[simp] theorem discardLoad_records (e : ReplicaEngine) : e.discardLoad.records = e.records := rfl
@[simp] theorem discardLoad_pool (e : ReplicaEngine) : e.discardLoad.pool = e.pool := rfl
@[simp] theorem discardLoad_members (e : ReplicaEngine) : e.discardLoad.members = e.members := rfl
@[simp] theorem discardLoad_count (e : ReplicaEngine) : e.discardLoad.count = e.count := rfl
@[simp] theorem discardLoad_load (e : ReplicaEngine) : e.discardLoad.load = none := rfl

@[simp] theorem discardTo_tq (q : TransmitQueue) (s : State) : (discardTo q s).tq = q := by
  unfold discardTo
  dsimp only
  split <;> rfl

@[simp] theorem emptyQueue_tq (s : State) : (emptyQueue s).tq = TransmitQueue.empty := discardTo_tq _ s

@[simp] theorem purgeQueue_tq (s : State) : (purgeQueue s).tq = s.tq.purged := discardTo_tq _ s

@[simp] theorem placeOffline_state (s : State) : (placeOffline s).tc.state = .offline := by
  unfold placeOffline
  split
  · assumption
  · rfl

theorem placeOnline_state (s : State) : (placeOnline s).tc.state ≠ .offline := by
  unfold placeOnline
  split
  · simp
  · assumption

@[simp] theorem enterState_sc (st : StationState) (c : Cause) (s : State) :
    (enterState st c s).sc = s.sc.change st := by
  unfold enterState
  dsimp only
  split <;> split <;> simp

@[simp] theorem enterState_re (st : StationState) (c : Cause) (s : State) :
    (enterState st c s).re = s.re.discardLoad := by
  unfold enterState
  dsimp only
  split <;> split <;> simp

@[simp] theorem enterState_tq (st : StationState) (c : Cause) (s : State) :
    (enterState st c s).tq = if st.queueEmptied then TransmitQueue.empty else s.tq := by
  unfold enterState
  dsimp only
  split <;> split <;> simp

@[simp] theorem enterState_mp (st : StationState) (c : Cause) (s : State) :
    (enterState st c s).mp = s.mp.post (.stateChanged st c) := by
  unfold enterState
  dsimp only
  split <;> split <;> simp [postNotice]

theorem enterState_offline (st : StationState) (c : Cause) (s : State) :
    (enterState st c s).tc.state = .offline ↔ st.tenureOnline = false := by
  unfold enterState
  dsimp only
  by_cases h : st.tenureOnline = true
  · simp [h, placeOnline_state]
  · simp [h]

theorem enterState_rx (st : StationState) (c : Cause) (s : State) (h : st.receiverOn = false) :
    (enterState st c s).xi.rx = .none := by
  unfold enterState
  dsimp only
  simp [forState_rx _ _ h]

/-! ### The agreement after a change of station state -/

/-- What the agreement asks of the state in which a station state is entered: the replica valid just where the station
stands in a table, no frame where none may be queued, no fault reason but in FAULT, the loader as the state has it. -/
structure ReadyFor (st : StationState) (s : State) : Prop where
  valid : s.re.valid = st.inTable
  tq : st.mayQueue = false → st.queueEmptied = false → s.tq = TransmitQueue.empty
  fault : s.sc.fault ≠ .none → st = .fault
  reading : s.cl.state = .reading ↔ st = .loading
  staging : s.cl.state = .staging ↔ st = .config

theorem enterState_parts {st : StationState} {c : Cause} {s : State} (h : ReadyFor st s) :
    PartsLawful (enterState st c s) := by
  refine ⟨?_, ?_, ?_, ?_, ?_, ?_, ?_, ?_, ?_, ?_, ?_, ?_, ?_, ?_⟩
  · simpa using h.valid
  · simpa using enterState_offline st c s
  · simpa using enterState_rx st c s
  · intro hm
    replace hm : st.mayQueue = false := by simpa using hm
    by_cases he : st.queueEmptied = true
    · simp [he]
    · simp [he, h.tq hm (by simpa using he)]
  · simp [StationController.change]
  · by_cases hs : st = .awaitSnapshot <;> simp [StationController.change, hs]
  · simp [StationController.change]
  · simp [StationController.change]
  · simp [StationController.change]
  · simp [StationController.change]
  · simp
  · simpa [StationController.change] using h.fault
  · simpa using h.reading
  · simpa using h.staging

end Sys2Proof.Machine

namespace Sys2Proof.Safety

open Sys2Proof.Machine

/-! ### The agreement, part by part -/

section
variable {s t : State}

theorem PartsLawful.valid (h : PartsLawful s) : s.re.valid = s.sc.state.inTable := h.1

theorem PartsLawful.offline (h : PartsLawful s) : s.tc.state = .offline ↔ s.sc.state.tenureOnline = false := h.2.1

theorem PartsLawful.rx (h : PartsLawful s) : s.sc.state.receiverOn = false → s.xi.rx = .none := h.2.2.1

theorem PartsLawful.tq (h : PartsLawful s) : s.sc.state.mayQueue = false → s.tq = TransmitQueue.empty := h.2.2.2.1

/-- A station that may not queue a frame has none in flight. -/
theorem PartsLawful.mayQueue (h : PartsLawful s) (hq : s.tq ≠ TransmitQueue.empty) : s.sc.state.mayQueue = true := by
  simpa using mt h.tq hq

/-- The receiver is on where a frame is held in it. -/
theorem PartsLawful.receiverOn (h : PartsLawful s) (hx : s.xi.rx ≠ .none) : s.sc.state.receiverOn = true := by
  simpa using mt h.rx hx

theorem PartsLawful.listenTimer (h : PartsLawful s) : s.sc.listenTimer = (s.sc.state == .listening) := h.2.2.2.2.1

theorem PartsLawful.deadline (h : PartsLawful s) : s.sc.deadline = .stopped ↔ s.sc.state ≠ .awaitSnapshot :=
  h.2.2.2.2.2.1

theorem PartsLawful.holdOffTimer (h : PartsLawful s) : s.sc.holdOffTimer = (s.sc.state == .isolated) :=
  h.2.2.2.2.2.2.1

theorem PartsLawful.presenceTimer (h : PartsLawful s) : s.sc.presenceTimer = s.sc.state.duty := h.2.2.2.2.2.2.2.1

theorem PartsLawful.tableHeard (h : PartsLawful s) : s.sc.tableHeard = true → s.sc.state = .awaitSnapshot :=
  h.2.2.2.2.2.2.2.2.1

theorem PartsLawful.satisfied (h : PartsLawful s) : s.sc.satisfied = true → s.sc.state.duty = true :=
  h.2.2.2.2.2.2.2.2.2.1

theorem PartsLawful.load (h : PartsLawful s) : s.re.load.isSome = true → s.sc.state = .awaitSnapshot :=
  h.2.2.2.2.2.2.2.2.2.2.1

theorem PartsLawful.fault (h : PartsLawful s) : s.sc.fault ≠ .none → s.sc.state = .fault :=
  h.2.2.2.2.2.2.2.2.2.2.2.1

theorem PartsLawful.reading (h : PartsLawful s) : s.cl.state = .reading ↔ s.sc.state = .loading :=
  h.2.2.2.2.2.2.2.2.2.2.2.2.1

theorem PartsLawful.staging (h : PartsLawful s) : s.cl.state = .staging ↔ s.sc.state = .config :=
  h.2.2.2.2.2.2.2.2.2.2.2.2.2

/-- The agreement is kept by an operation that leaves the station state, the timers, the loader's state and the validity
of the replica, and that is steady, at least where the station may not queue. -/
theorem PartsLawful.of_kept (h : PartsLawful s) (hsc : t.sc = { s.sc with silence := t.sc.silence })
    (hv : t.re.valid = s.re.valid) (hl : t.re.load = s.re.load) (hcl : t.cl.state = s.cl.state)
    (htc : t.tc.state = .offline ↔ s.tc.state = .offline) (hrx : s.xi.rx = .none → t.xi.rx = .none)
    (htq : s.sc.state.mayQueue = false → s.tq = TransmitQueue.empty → t.tq = TransmitQueue.empty) : PartsLawful t := by
  obtain ⟨h1, h2, h3, h4, h5⟩ := h
  simp only [PartsLawful, hv, hl, hcl]
  rw [hsc]
  exact ⟨h1, htc.trans h2, fun k => hrx (h3 k), fun k => htq k (h4 k), h5⟩

theorem PartsLawful.of_steady (h : PartsLawful s) (hsc : t.sc = s.sc) (hre : t.re = s.re) (hcl : t.cl = s.cl)
    (hs : Steady s t) : PartsLawful t :=
  h.of_kept (by rw [hsc]) (by rw [hre]) (by rw [hre]) (by rw [hcl]) hs.offline hs.rx fun _ => hs.tq

theorem PartsLawful.withXi (h : PartsLawful s) {x : ExchangeInterface}
    (hx : s.sc.state.receiverOn = false → x.rx = .none) : PartsLawful (s.withXi x) := by
  obtain ⟨h1, h2, _, h4⟩ := h
  exact ⟨h1, h2, hx, h4⟩

theorem PartsLawful.withTq (h : PartsLawful s) {q : TransmitQueue}
    (hq : s.sc.state.mayQueue = false → q = TransmitQueue.empty) : PartsLawful (s.withTq q) := by
  obtain ⟨h1, h2, h3, _, h5⟩ := h
  exact ⟨h1, h2, h3, hq, h5⟩

/-- The state may be entered again from any in which the parts agree, as far as the replica, fault and loader go. -/
theorem PartsLawful.readyFor (h : PartsLawful s) {st : StationState} (hv : s.sc.state.inTable = st.inTable)
    (hq : st.mayQueue = false → st.queueEmptied = true) (hf : s.sc.state ≠ .fault)
    (hl : s.sc.state ≠ .loading ∧ st ≠ .loading) (hc : s.sc.state ≠ .config ∧ st ≠ .config) : ReadyFor st s where
  valid := h.valid.trans hv
  tq hm he := by simp [hq hm] at he
  fault k := absurd (h.fault k) hf
  reading := h.reading.trans (iff_of_false hl.1 hl.2)
  staging := h.staging.trans (iff_of_false hc.1 hc.2)

end

end Sys2Proof.Safety
end

section
/-! PROOF. What the operations of the replica leave as it was: the count, the valid flag and the load image by every
effect of a frame, and what each shared operation of an application leaves of the other blocks. -/

namespace Sys2Proof.Machine

/-! ### Operations of the replica -/

section
variable (e : ReplicaEngine) (x : Station)

theorem claim_keeps (r : Resource) (m : Mode) (c : ClaimClass) (y : Bool) :
    (e.claim x r m c y).1.members = e.members ∧ (e.claim x r m c y).1.count = e.count ∧
    (e.claim x r m c y).1.valid = e.valid ∧ (e.claim x r m c y).1.load = e.load := by
  unfold ReplicaEngine.claim ReplicaEngine.rewrite
  dsimp only
  (repeat' split) <;> simp

theorem drop_keeps (r : Resource) :
    (e.drop x r).1.members = e.members ∧ (e.drop x r).1.count = e.count ∧
    (e.drop x r).1.valid = e.valid ∧ (e.drop x r).1.load = e.load := by
  unfold ReplicaEngine.drop ReplicaEngine.rewrite
  dsimp only
  (repeat' split) <;> simp

/-- No effect of a frame touches the count, the valid flag or the load image. -/
theorem effectsOf_keeps (f : Frame) :
    (effectsOf e f).replica.count = e.count ∧ (effectsOf e f).replica.valid = e.valid ∧
    (effectsOf e f).replica.load = e.load := by
  cases hb : f.body with
  | claim r m c y =>
    simp only [effectsOf, hb, claimEffects]
    split
    · exact (claim_keeps e f.sender r m c y).2
    · simp [Effects.none]
  | drop r =>
    simp only [effectsOf, hb, dropEffects]
    split
    · split
      · exact (drop_keeps e f.sender _).2
      · simp [Effects.none]
    · simp [Effects.none]
  | presence synced d =>
    simp only [effectsOf, hb, presenceEffects]
    split <;> simp [Effects.none, ReplicaEngine.setMember]
  | expel t why =>
    simp only [effectsOf, hb, expelEffects]
    split <;> simp [Effects.none, removal, ReplicaEngine.removeStation]
  | join =>
    simp only [effectsOf, hb, joinEffects]
    split <;> simp [Effects.none, removal, ReplicaEngine.setMember, ReplicaEngine.removeStation]
  | leave =>
    simp only [effectsOf, hb, leaveEffects]
    split <;> simp [Effects.none, removal, ReplicaEngine.removeStation]
  | snapshot p => simp [effectsOf, hb, Effects.none]

end

/-! ### The teardown and a wholesale loss -/

@[simp] theorem teardown_re (why : LossReason) (s : State) : (teardown why s).re = ReplicaEngine.empty := by
  simp [teardown]

@[simp] theorem teardown_tq (why : LossReason) (s : State) : (teardown why s).tq = s.tq.purged := by
  simp [teardown]

@[simp] theorem teardown_sc (why : LossReason) (s : State) :
    (teardown why s).sc = { s.sc with silence := noSilence, presenceTimer := false, satisfied := false } := by
  simp [teardown, stopWatch]

@[simp] theorem withSilence_sc (s : State) (v : Vector Silence 16) :
    (s.withSilence v).sc = { s.sc with silence := v } := rfl

/-! ### The application up to its reports (R27 steps 4 to 8) -/

/-- Step 4 of R27, which an own frame does not have. -/
def checked (own : Bool) (f : Frame) (s : State) : State := if own then s else checkFrame f s

/-- The state of an application before its membership reports: checked, counted, with the effects taken, the reference
derived and the batch handed to the binding unit. -/
def applied (own : Bool) (f : Frame) (s : State) : State :=
  takeBatch (batchOf s.me own f s.re (effectsOf s.re f))
    (referenceDerived f (s.re.reference == some s.me)
      (countRefusal own (effectsOf s.re f)
        (countUp .framesApplied ((checked own f s).withRe (effectsOf s.re f).replica.advance))))

@[simp] theorem checked_keeps (own : Bool) (f : Frame) (s : State) :
    (checked own f s).pending = s.pending ∧ (checked own f s).powered = s.powered ∧
    (checked own f s).unanswered = s.unanswered ∧ (checked own f s).lines = s.lines ∧ (checked own f s).sc = s.sc ∧
    (checked own f s).xi = s.xi ∧ (checked own f s).tc = s.tc ∧ (checked own f s).re = s.re ∧
    (checked own f s).bu = s.bu ∧ (checked own f s).cl = s.cl ∧ (checked own f s).pins = s.pins := by
  unfold checked
  split <;> simp

@[simp] theorem applied_keeps (own : Bool) (f : Frame) (s : State) :
    (applied own f s).pending = s.pending ∧ (applied own f s).powered = s.powered ∧
    (applied own f s).unanswered = s.unanswered ∧ (applied own f s).lines = s.lines ∧ (applied own f s).sc = s.sc ∧
    (applied own f s).xi = s.xi ∧ (applied own f s).tc = s.tc ∧ (applied own f s).cl = s.cl ∧
    (applied own f s).pins = s.pins := by
  simp [applied]

@[simp] theorem applied_re (own : Bool) (f : Frame) (s : State) :
    (applied own f s).re = (effectsOf s.re f).replica.advance := by
  simp [applied]

/-- An application is its steps up to the batch, and then its membership reports. -/
theorem applyFully_eq (own : Bool) (f : Frame) (s : State) :
    applyFully own f s = membershipReports s.me s.re (effectsOf s.re f) (applied own f s) := by
  unfold applyFully
  rw [show (if own = true then s else checkFrame f s) = checked own f s from rfl]
  simp [applied, State.me]

end Sys2Proof.Machine
end

section
/-! PROOF. Every operation that a command starts with keeps the agreement of the parts; so every step keeps it (O54). -/

namespace Sys2Proof.Machine

open Sys2Proof.Safety

variable {s : State}

/-- A duty state or one of leaving may hold a frame to send. -/
theorem mayQueue_of_duty {st : StationState} (h : st.duty = true) : st.mayQueue = true := by
  cases st <;> simp_all [StationState.duty, StationState.mayQueue]

theorem mayQueue_of_inTable {st : StationState} (h : st.inTable = true) : st.mayQueue = true := by
  cases st <;> simp_all [StationState.inTable, StationState.mayQueue]

/-- A table is left for a state that stands in none and in which the queue is emptied or may hold the frame just added. -/
theorem readyFor_teardown (h : PartsLawful s) (ht : s.sc.state.inTable = true) (why : LossReason) {st : StationState}
    (hv : st.inTable = false) (hq : st.mayQueue = false → st.queueEmptied = true) (hl : st ≠ .loading)
    (hc : st ≠ .config) (q : TransmitQueue) : ReadyFor st ((teardown why s).withTq q) where
  valid := by simp [hv, ReplicaEngine.empty]
  tq hm he := by simp [hq hm] at he
  fault k := by
    have hf : s.sc.state = .fault := h.fault (by simpa using k)
    simp [hf, StationState.inTable] at ht
  reading := by
    have hs : s.cl.state ≠ .reading := by
      intro hr
      simp [h.reading.mp hr, StationState.inTable] at ht
    simp [hs, hl]
  staging := by
    have hs : s.cl.state ≠ .staging := by
      intro hr
      simp [h.staging.mp hr, StationState.inTable] at ht
    simp [hs, hc]

theorem selfExpelled_parts (h : PartsLawful s) (why : ExpelReason) : PartsLawful (selfExpelled why s) := by
  unfold selfExpelled
  split
  next ht =>
    have hr (st : StationState) (hst : st = .listening ∨ st = .detached) : ReadyFor st (teardown .expelled s) := by
      refine readyFor_teardown h ht .expelled ?_ ?_ ?_ ?_ (teardown .expelled s).tq <;>
        rcases hst with rfl | rfl <;> decide
    refine enterState_parts (hr _ ?_)
    split
    · exact .inl rfl
    · exact .inr rfl
  · exact h

theorem foreignReport_parts (h : PartsLawful s) : PartsLawful (foreignReport s) := by
  unfold foreignReport
  split
  next ht =>
    exact enterState_parts
      (readyFor_teardown h ht .foreign (by decide) (by decide) (by decide) (by decide) (teardown .foreign s).tq)
  · exact h

theorem leaveTable_parts (h : PartsLawful s) (ht : s.sc.state.inTable = true) : PartsLawful (leaveTable s) :=
  enterState_parts (readyFor_teardown h ht .left (by decide) (by decide) (by decide) (by decide) _)

/-- A station out of any table, with its receiver on, enters such a state again. -/
theorem readyFor_again (h : PartsLawful s) (ho : s.sc.state.receiverOn = true ∨ s.sc.state = .isolated)
    (ht : s.sc.state.inTable = false) {st : StationState} (hv : st.inTable = false)
    (hq : st.mayQueue = false → st.queueEmptied = true) (hl : st ≠ .loading) (hc : st ≠ .config) : ReadyFor st s := by
  refine h.readyFor (ht.trans hv.symm) hq ?_ ⟨?_, hl⟩ ⟨?_, hc⟩ <;>
    rintro hs <;> simp [hs, StationState.receiverOn] at ho

/-- The teardown that isolation and a twin frame make, and the return mark or fault reason that they write, leave the
station ready for a state with no table and an emptied queue. -/
theorem readyFor_teardownIf (h : PartsLawful s) (ho : s.sc.state.receiverOn = true) (why : LossReason)
    {st : StationState} (hv : st.inTable = false) (hq : st.queueEmptied = true) (hl : st ≠ .loading)
    (hc : st ≠ .config) : ReadyFor st (teardownIfInTable why s) := by
  unfold teardownIfInTable
  split
  next ht => exact readyFor_teardown h ht why hv (fun _ => hq) hl hc (teardown why s).tq
  next ht => exact readyFor_again h (.inl ho) (by simpa using ht) hv (fun _ => hq) hl hc

theorem isolate_parts (h : PartsLawful s) (c : Cause) : PartsLawful (isolate c s) := by
  unfold isolate
  split
  next ho =>
    obtain ⟨hv, hq, hf, hr, hs⟩ :=
      readyFor_teardownIf h ho .isolated (st := .isolated) (by decide) (by decide) (by decide) (by decide)
    exact enterState_parts ⟨hv, hq, hf, hr, hs⟩
  · exact h

theorem twinReport_parts (h : PartsLawful s) : PartsLawful (twinReport s) := by
  unfold twinReport
  split
  next ho =>
    obtain ⟨hv, hq, _, hr, hs⟩ :=
      readyFor_teardownIf h ho .twin (st := .fault) (by decide) (by decide) (by decide) (by decide)
    exact enterState_parts ⟨hv, hq, fun _ => rfl, hr, hs⟩
  · exact h

theorem joinAgain_parts (h : PartsLawful s) (c : Cause)
    (hs : s.sc.state = .listening ∨ s.sc.state = .awaitSnapshot) : PartsLawful (joinAgain c s) := by
  obtain ⟨hv, _, hf, hr, hc⟩ : ReadyFor .joinPending s := by
    refine readyFor_again h ?_ ?_ (by decide) (by decide) (by decide) (by decide) <;>
      rcases hs with hs | hs <;> simp [hs, StationState.receiverOn, StationState.inTable]
  exact enterState_parts ⟨hv, (nomatch ·), hf, hr, hc⟩

/-! ### A part handed for loading (R23) -/

/-- What becomes of the load image: it is begun or goes on, it becomes the replica, or the load is broken. -/
theorem loadPart_cases (e : ReplicaEngine) (count : Half) (p : Part) :
    (∃ i, e.loadPart count p = ({ e with load := some i }, .loaded)) ∨
    (∃ i : LoadImage, e.loadPart count p = (i.complete, .completed)) ∨
    e.loadPart count p = ({ e with load := none }, .broken) := by
  cases p with
  | members ms => exact .inl ⟨_, rfl⟩
  | records k recs =>
    unfold ReplicaEngine.loadPart
    split <;> (repeat' split) <;> simp

/-! ### A load in AWAIT_SNAPSHOT (R145 to R150) -/

theorem deadlineTakesEffect_parts (h : PartsLawful s) (hs : s.sc.state = .awaitSnapshot) :
    PartsLawful (deadlineTakesEffect s) := by
  unfold deadlineTakesEffect
  split
  · exact joinAgain_parts h _ (.inr hs)
  · refine enterState_parts (readyFor_again h ?_ ?_ ?_ ?_ ?_ ?_) <;>
      simp [hs, StationState.receiverOn, StationState.inTable, StationState.queueEmptied]

theorem loadEnded_parts (h : PartsLawful s) : PartsLawful (loadEnded s) := by
  unfold loadEnded
  split
  next hd =>
    refine deadlineTakesEffect_parts h (Decidable.not_not.mp fun hs => ?_)
    simp [h.deadline.mpr hs] at hd
  all_goals exact h

/-- With the replica's validity as it was, the load image may come and go in AWAIT_SNAPSHOT. -/
theorem withRe_parts (h : PartsLawful s) {e : ReplicaEngine} (hv : e.valid = s.re.valid)
    (hl : e.load.isSome = true → s.sc.state = .awaitSnapshot) : PartsLawful (s.withRe e) := by
  obtain ⟨h1, h2, h3, h4, h5, h6, h7, h8, h9, h10, _, h12⟩ := h
  exact ⟨hv.trans h1, h2, h3, h4, h5, h6, h7, h8, h9, h10, hl, h12⟩

theorem withSilence_parts (h : PartsLawful s) (v : Vector Silence 16) : PartsLawful (s.withSilence v) :=
  h.of_kept rfl rfl rfl rfl Iff.rfl id fun _ => id

theorem completedLoad_parts (hv : s.re.valid = true) (hf : s.sc.fault = .none)
    (hr : s.cl.state ≠ .reading) (hc : s.cl.state ≠ .staging) : PartsLawful (completedLoad s) := by
  have hconf : PartsLawful (enterState .confirming .snapshotLoaded s) :=
    enterState_parts
      ⟨hv, (nomatch ·), fun k => absurd hf k, iff_of_false hr (by decide), iff_of_false hc (by decide)⟩
  unfold completedLoad
  dsimp only
  have hsil := withSilence_parts hconf
    (silenceOnLoad (enterState .confirming .snapshotLoaded s).me (enterState .confirming .snapshotLoaded s).re.members)
  split
  · exact hsil.withTq fun hm => by simp [StationState.mayQueue] at hm
  all_goals
    exact enterState_parts (readyFor_teardown hsil (by simp [StationState.inTable]) .left (by decide) (by decide)
      (by decide) (by decide) _)

theorem takePart_parts (h : PartsLawful s) (hs : s.sc.state = .awaitSnapshot) (count : Half) (p : Part) :
    PartsLawful (takePart count p s) := by
  have hf : s.sc.fault = .none := by
    refine Decidable.not_not.mp fun k => ?_
    simpa [hs] using h.fault k
  have hr : s.cl.state ≠ .reading := fun k => by simpa [hs] using h.reading.mp k
  have hc : s.cl.state ≠ .staging := fun k => by simpa [hs] using h.staging.mp k
  unfold takePart
  rcases loadPart_cases s.re count p with ⟨i, hi⟩ | ⟨i, hi⟩ | hi <;> simp only [hi]
  · exact withRe_parts h rfl fun _ => hs
  · exact completedLoad_parts rfl hf hr hc
  · exact loadEnded_parts (withRe_parts h rfl nofun)

theorem frameWhileAwaiting_parts (h : PartsLawful s) (hs : s.sc.state = .awaitSnapshot) (f : Frame) :
    PartsLawful (frameWhileAwaiting f s) := by
  unfold frameWhileAwaiting
  split
  · exact takePart_parts h hs _ _
  all_goals
    unfold frameOutsideRun
    split
    · exact loadEnded_parts (withRe_parts h rfl nofun)
    · exact h

/-! ### The application of a frame (R27) -/

theorem memberReport_parts (h : PartsLawful s) (x : Station) (m : MemberState) (hq : s.sc.state.mayQueue = true) :
    PartsLawful (memberReport x m s) := by
  unfold memberReport
  split
  · exact h
  all_goals exact (withSilence_parts h _).withTq fun k => by simp [hq] at k

/-- The entry to ACTIVE with a valid replica, with whatever the queue is then asked to take (R81, R150). -/
theorem enterActive_parts (hv : s.re.valid = true) (hf : s.sc.fault = .none) (hr : s.cl.state ≠ .reading)
    (hc : s.cl.state ≠ .staging) (c : Cause) : PartsLawful (enterState .active c s) :=
  enterState_parts
    ⟨hv, (nomatch ·), fun k => absurd hf k, iff_of_false hr (by decide), iff_of_false hc (by decide)⟩

theorem takeUpClaims_parts (h : PartsLawful s) (hq : s.sc.state.mayQueue = true) : PartsLawful (takeUpClaims s) :=
  h.of_kept (by simp) (by simp) (by simp) (by simp) (by simp) (by simp) fun k => by simp [hq] at k

theorem askSilentExpels_parts (h : PartsLawful s) (hq : s.sc.state.mayQueue = true) (ts : List Station) :
    PartsLawful (askSilentExpels ts s) :=
  h.of_kept (by simp) (by simp) (by simp) (by simp) (by simp) (by simp) fun k => by simp [hq] at k

theorem confirmedReport_parts (h : PartsLawful s) : PartsLawful (confirmedReport s) := by
  unfold confirmedReport
  split
  next hs =>
    have hf : s.sc.fault = .none := by
      refine Decidable.not_not.mp fun k => ?_
      simpa [hs] using h.fault k
    have ha : PartsLawful (enterState .active .confirmed s) :=
      enterActive_parts (by simp [h.valid, hs, StationState.inTable]) hf
        (fun k => by simpa [hs] using h.reading.mp k) (fun k => by simpa [hs] using h.staging.mp k) _
    exact takeUpClaims_parts (askSilentExpels_parts ha rfl _) (by simp [StationState.mayQueue])
  all_goals exact h

theorem membershipReports_parts (h : PartsLawful s) (hq : s.sc.state.mayQueue = true) (me : Station)
    (before : ReplicaEngine) (x : Effects) : PartsLawful (membershipReports me before x s) := by
  unfold membershipReports
  dsimp only
  have hm : PartsLawful
      (match x.member with
      | none => s
      | some (y, m) =>
        if y ≠ me then memberReport y m s
        else if before.members[me] = .joining ∧ m = .active then confirmedReport s
        else s) := by
    (repeat' split)
    · exact h
    · exact memberReport_parts h _ _ hq
    · exact confirmedReport_parts h
    · exact h
  split
  · exact hm
  · split
    · exact selfExpelled_parts hm _
    · exact hm

theorem applied_parts (h : PartsLawful s) (ht : s.sc.state.inTable = true) (own : Bool) (f : Frame) :
    PartsLawful (applied own f s) := by
  obtain ⟨_, hv, hl⟩ := effectsOf_keeps s.re f
  exact h.of_kept (by simp) (by simpa [ReplicaEngine.advance]) (by simpa [ReplicaEngine.advance]) (by simp) (by simp)
    (by simp) fun k => by simp [mayQueue_of_inTable ht] at k

theorem applyFrame_parts (h : PartsLawful s) (own : Bool) (f : Frame) : PartsLawful (applyFrame own f s) := by
  unfold applyFrame
  split
  next hv =>
    have ht : s.sc.state.inTable = true := h.valid ▸ hv
    split
    · split
      · exact foreignReport_parts h
      · exact h.of_kept (by simp) (by simp [ReplicaEngine.advance]) (by simp [ReplicaEngine.advance]) (by simp) (by simp)
          (by simp) fun _ => by simp
    · rw [applyFully_eq]
      exact membershipReports_parts (applied_parts h ht own f) (by simpa using mayQueue_of_inTable ht) _ _ _
  · exact h

/-! ### Accepted frames at the station controller -/

theorem silenceHeard_parts (h : PartsLawful s) (x : Station) : PartsLawful (silenceHeard x s) := by
  unfold silenceHeard
  split
  · exact withSilence_parts h _
  · exact h

/-- Founded seen stands in no law of the parts. -/
theorem foundedSeen_parts (h : PartsLawful s) (b : Bool) : PartsLawful (s.withSc { s.sc with foundedSeen := b }) := h

theorem otherFrameAccepted_parts (h : PartsLawful s) (f : Frame) : PartsLawful (otherFrameAccepted f s) := by
  have hh := silenceHeard_parts h f.sender
  unfold otherFrameAccepted
  dsimp only
  split
  · exact foundedSeen_parts hh _
  · exact foundedSeen_parts hh _
  next hs => exact frameWhileAwaiting_parts hh hs f
  all_goals exact hh

theorem found_eq (s : State) :
    found s =
      takeUpClaims ((enterState .active .founded (s.withRe (ReplicaEngine.founded s.me))).withSilence noSilence) := by
  unfold found
  rfl

theorem found_parts (h : PartsLawful s) (hs : s.sc.state = .joinPending) : PartsLawful (found s) := by
  have hf : s.sc.fault = .none := by
    refine Decidable.not_not.mp fun k => ?_
    simpa [hs] using h.fault k
  have ha : PartsLawful (enterState .active .founded (s.withRe (ReplicaEngine.founded s.me))) :=
    enterActive_parts (s := s.withRe (ReplicaEngine.founded s.me)) rfl hf (fun k => by simpa [hs] using h.reading.mp k)
      (fun k => by simpa [hs] using h.staging.mp k) _
  have hs := withSilence_parts ha noSilence
  rw [found_eq]
  exact takeUpClaims_parts hs (by simp [StationState.mayQueue])

theorem ownJoinAccepted_parts (h : PartsLawful s) : PartsLawful (ownJoinAccepted s) := by
  unfold ownJoinAccepted
  split
  next hs =>
    split
    · refine enterState_parts (readyFor_again h ?_ ?_ ?_ ?_ ?_ ?_) <;>
        simp [hs, StationState.receiverOn, StationState.inTable, StationState.mayQueue]
    · exact found_parts h hs
  all_goals exact h

theorem leaveEnds_parts (h : PartsLawful s) (c : Cause) : PartsLawful (leaveEnds c s) := by
  unfold leaveEnds
  split
  next hs =>
    refine enterState_parts (readyFor_again h ?_ ?_ ?_ ?_ ?_ ?_) <;>
      simp [hs, StationState.receiverOn, StationState.inTable, StationState.queueEmptied]
  all_goals exact h

/-- The presence-satisfied mark is set only while the presence timer runs. -/
theorem satisfied_parts (h : PartsLawful s) (b : Bool) (hb : b = true → s.sc.state.duty = true) :
    PartsLawful (s.withSc { s.sc with satisfied := b }) := by
  obtain ⟨h1, h2, h3, h4, h5, h6, h7, h8, h9, _, h11⟩ := h
  exact ⟨h1, h2, h3, h4, h5, h6, h7, h8, h9, hb, h11⟩

theorem ownFrameAccepted_parts (h : PartsLawful s) (f : Frame) : PartsLawful (ownFrameAccepted f s) := by
  have hm : PartsLawful (s.withSc { s.sc with satisfied := s.sc.satisfied || s.sc.presenceTimer }) := by
    refine satisfied_parts h _ fun k => ?_
    rcases Bool.or_eq_true_iff.mp k with k | k
    · exact h.satisfied k
    · exact h.presenceTimer ▸ k
  unfold ownFrameAccepted
  dsimp only
  have ha : PartsLawful
      (if s.sc.state == .awaitSnapshot then
        frameWhileAwaiting f (s.withSc { s.sc with satisfied := s.sc.satisfied || s.sc.presenceTimer })
      else s.withSc { s.sc with satisfied := s.sc.satisfied || s.sc.presenceTimer }) := by
    split
    next hs => exact frameWhileAwaiting_parts hm (by simpa using hs) f
    · exact hm
  split
  · exact ownJoinAccepted_parts ha
  · exact leaveEnds_parts ha _
  · exact ha.of_kept (by simp) (by simp) (by simp) (by simp) (by simp) (by simp) fun _ => by simp
  all_goals exact ha

theorem heardReport_parts (h : PartsLawful s) (f : Frame) : PartsLawful (heardReport f s) := by
  unfold heardReport
  split
  · exact foundedSeen_parts h _
  · exact foundedSeen_parts h _
  next hs =>
    obtain ⟨h1, h2, h3, h4, h5, h6, h7, h8, _, h10⟩ := h
    exact ⟨h1, h2, h3, h4, h5, h6, h7, h8, fun _ => hs, h10⟩
  all_goals exact h

/-! ### The exchange interface -/

theorem startMark_parts (h : PartsLawful s) : PartsLawful (startMark s) := by
  unfold startMark
  split
  next ho => exact h.withXi fun k => by simp [k] at ho
  · exact h

theorem signalReject_parts (h : PartsLawful s) (ho : s.sc.state.receiverOn = true) : PartsLawful (signalReject s) := by
  have hd (n : Nat) (u : State) (hu : PartsLawful u) (hs : u.sc = s.sc) :
      PartsLawful (u.withXi { u.xi with rejectStreak := n }) := by
    refine hu.withXi fun k => ?_
    simp [hs, ho] at k
  have hc : PartsLawful (countUp .rejectsSignalled (s.withXi { s.xi with rx := .damaged })) :=
    (h.withXi (x := { s.xi with rx := .damaged }) fun k => by simp [ho] at k).of_kept
      (by simp) (by simp) (by simp) (by simp) (by simp) (by simp) fun _ => by simp
  unfold signalReject
  dsimp only
  split
  · exact hd _ _ hc (by simp)
  · exact isolate_parts (hd 0 _ hc (by simp)) _

theorem closingMark_parts (h : PartsLawful s) (bytes : List Byte) : PartsLawful (closingMark bytes s) := by
  unfold closingMark
  split
  next hx =>
    have ho : s.sc.state.receiverOn = true := h.receiverOn (by simp [hx])
    split
    · exact h.withXi fun k => by simp [ho] at k
    · exact signalReject_parts h ho
  all_goals exact h

theorem truncation_parts (h : PartsLawful s) : PartsLawful (truncation s) := by
  unfold truncation
  split
  · exact h.withXi fun _ => rfl
  all_goals exact h

theorem windowCloses_parts (h : PartsLawful s) (rejected : Bool) : PartsLawful (windowCloses rejected s) := by
  unfold windowCloses
  split
  next f _ =>
    have hh : PartsLawful (heardReport f (s.withXi { s.xi with rx := .none, rejectStreak := 0 })) :=
      heardReport_parts (h.withXi fun _ => rfl) f
    unfold wholeWindow handOver
    dsimp only
    (repeat' split)
    · exact hh
    · exact twinReport_parts hh
    · exact otherFrameAccepted_parts (applyFrame_parts hh false f) f
  · exact h.withXi fun _ => rfl
  all_goals exact h

theorem closingMarkSent_parts (h : PartsLawful s) : PartsLawful (closingMarkSent s) := h.withXi h.rx

theorem attemptReport_parts (h : PartsLawful s) (r : Bool) : PartsLawful (attemptReport r s) :=
  h.of_steady (by simp) (by simp) (by simp) (attemptReport_steady r s)

theorem runEnded_parts (h : PartsLawful s) : PartsLawful (runEnded s) := by
  unfold runEnded
  split
  · exact h
  all_goals exact h

@[simp] theorem accepted_empty (what : Sent) : TransmitQueue.empty.accepted what = TransmitQueue.empty := by
  cases what <;> rfl

theorem ownAccepted_parts (h : PartsLawful s) (a : Attempt) : PartsLawful (ownAccepted a s) := by
  have hq : PartsLawful (if a.discarded then s else runEnded (s.withTq (s.tq.accepted a.sent))) := by
    split
    · exact h
    · exact runEnded_parts (h.withTq fun k => by simp [h.tq k])
  have hf := ownFrameAccepted_parts (applyFrame_parts hq true a.frame) a.frame
  refine attemptReport_parts (hf.of_kept ?_ ?_ ?_ ?_ ?_ ?_ ?_) false <;> simp

theorem reportDropped_parts (h : PartsLawful s) (hq : s.sc.state.mayQueue = true) (what : Sent) :
    PartsLawful (reportDropped what s) := by
  unfold reportDropped
  split
  · exact h.of_kept (by simp) (by simp) (by simp) (by simp) (by simp) (by simp) fun k => by simp [hq] at k
  · exact h.of_kept (by simp) (by simp) (by simp) (by simp) (by simp) (by simp) fun k => by simp [hq] at k
  · exact h
  · exact h
  · exact leaveEnds_parts h _
  all_goals exact h

theorem advanceDropStreak_parts (h : PartsLawful s) : PartsLawful (advanceDropStreak s) := by
  unfold advanceDropStreak
  split
  · exact h.withXi h.rx
  · exact isolate_parts (h.withXi (x := { s.xi with dropStreak := 0 }) h.rx) _

theorem ownDropped_parts (h : PartsLawful s) (hq : s.sc.state.mayQueue = true) (a : Attempt) :
    PartsLawful (ownDropped a s) := by
  have hd := reportDropped_parts (runEnded_parts (h.withTq (q := s.tq.dropped a.sent) fun k => by simp [hq] at k))
    (by simpa using hq) a.sent
  refine attemptReport_parts (advanceDropStreak_parts (hd.of_kept ?_ ?_ ?_ ?_ ?_ ?_ ?_)) _ <;> simp

theorem ownWindowCloses_parts (h : PartsLawful s) (rejected : Bool) : PartsLawful (ownWindowCloses rejected s) := by
  have hx : PartsLawful (s.withXi { s.xi with attempt := none }) := h.withXi h.rx
  unfold ownWindowCloses
  dsimp only
  (repeat' split)
  · exact h
  · exact h
  · exact hx
  · exact ownAccepted_parts hx _
  · exact attemptReport_parts hx _
  · exact attemptReport_parts hx _
  next hn =>
    refine ownDropped_parts hx (hx.mayQueue fun he => hn ?_) _
    rw [he]
    decide

/-! ### Timers and the lines of the board -/

theorem listenEnds_parts (h : PartsLawful s) : PartsLawful (listenEnds s) := by
  unfold listenEnds
  split
  next hl => exact joinAgain_parts h _ (.inl (by simpa [h.listenTimer] using hl))
  · exact h

theorem deadlineExpires_parts (h : PartsLawful s) : PartsLawful (deadlineExpires s) := by
  unfold deadlineExpires
  split
  next hd =>
    have hs : s.sc.state = .awaitSnapshot := Decidable.not_not.mp fun hs => by simp [h.deadline.mpr hs] at hd
    split
    · obtain ⟨h1, h2, h3, h4, h5, _, h7⟩ := h
      exact ⟨h1, h2, h3, h4, h5, by simp [hs], h7⟩
    · exact deadlineTakesEffect_parts h hs
  all_goals exact h

theorem holdOffExpires_parts (h : PartsLawful s) : PartsLawful (holdOffExpires s) := by
  unfold holdOffExpires
  split
  next hi =>
    have hs : s.sc.state = .isolated := by simpa [h.holdOffTimer] using hi
    have hr (st : StationState) (hst : st = .listening ∨ st = .detached) : ReadyFor st s := by
      refine readyFor_again h (.inr hs) (by simp [hs, StationState.inTable]) ?_ ?_ ?_ ?_ <;>
        rcases hst with rfl | rfl <;> decide
    unfold holdOffEnds
    obtain ⟨hv, hq, hf, hl, hc⟩ := hr (if s.sc.returnDetached then .detached else .listening) (by split <;> simp)
    exact enterState_parts ⟨hv, hq, hf, hl, hc⟩
  · exact h

theorem periodEnds_parts (h : PartsLawful s) : PartsLawful (periodEnds s) := by
  unfold periodEnds
  split
  next hp =>
    have hq : s.sc.state.mayQueue = true := mayQueue_of_duty (h.presenceTimer ▸ hp)
    have hd : PartsLawful (presenceDuty s) := by
      refine satisfied_parts ?_ false (by simp)
      split
      · exact h
      · exact h.withTq fun k => by simp [hq] at k
    refine hd.of_kept ?_ (by simp) (by simp) (by simp) (by simp) (by simp) fun k => ?_
    · unfold advanceSilence
      dsimp only
      (repeat' split) <;> simp
    · simp [presenceDuty] at k
      split at k <;> simp [hq] at k
  · exact h

/-- A change of a request touches the queue in ACTIVE alone. -/
theorem changeRequest_tq (n : BindingNo) (f : BindingUnit → BindingUnit) (s : State) (h : s.sc.state ≠ .active) :
    (changeRequest n f s).tq = s.tq := by
  unfold changeRequest
  dsimp only
  split
  · rfl
  · simp [h]

theorem changeRequest_parts (h : PartsLawful s) (n : BindingNo) (f : BindingUnit → BindingUnit) :
    PartsLawful (changeRequest n f s) :=
  h.of_kept (by simp) (by simp) (by simp) (by simp) (by simp) (by simp) fun k he => by
    rw [changeRequest_tq n f s fun ha => by simp [ha, StationState.mayQueue] at k, he]

/-! ### Configuration -/

/-- Where a configuration is taken there is no table and no fault. -/
theorem config_parts (h : PartsLawful s) (hs : s.sc.state = .config ∨ s.sc.state = .loading) :
    s.re.valid = false ∧ s.sc.fault = .none := by
  refine ⟨?_, Decidable.not_not.mp fun k => ?_⟩
  · rcases hs with hs | hs <;> simp [h.valid, hs, StationState.inTable]
  · rcases hs with hs | hs <;> simpa [hs] using h.fault k

theorem configurationFault_parts (h : PartsLawful s) (hs : s.sc.state = .config ∨ s.sc.state = .loading)
    (r : FaultReason) (c : Cause) (d : FaultDetail) : PartsLawful (configurationFault r c d s) :=
  enterState_parts
    ⟨(config_parts h hs).1, fun _ k => (nomatch k), fun _ => rfl, by simp [ConfigLoader.reset],
      by simp [ConfigLoader.reset]⟩

theorem takeImage_parts (h : PartsLawful s) (hs : s.sc.state = .config ∨ s.sc.state = .loading) (img : Vector Byte 30) :
    PartsLawful (takeImage img s) := by
  obtain ⟨hv, hf⟩ := config_parts h hs
  unfold takeImage
  split
  · exact enterState_parts ⟨hv, fun _ k => (nomatch k), fun k => absurd hf k, by simp, by simp⟩
  · exact configurationFault_parts h hs _ _ _
  · exact configurationFault_parts h hs _ _ _

/-! ### Every step (O54) -/

theorem memoryAnswered_parts (h : PartsLawful s) (img : Vector Byte 30) : PartsLawful (memoryAnswered img s) := by
  unfold memoryAnswered
  split
  next hs => exact takeImage_parts h (.inr (h.reading.mp hs)) img
  all_goals exact h

theorem memoryNotAnswered_parts (h : PartsLawful s) : PartsLawful (memoryNotAnswered s) := by
  unfold memoryNotAnswered
  split
  next hs =>
    have he : PartsLawful (endFailedRead s) := h
    dsimp only
    split
    · exact he
    · exact configurationFault_parts he (.inr (h.reading.mp hs)) _ _ _
  all_goals exact h

theorem releaseReset_parts (h : PartsLawful s) (sid : Station) (cfgsrc : Bool) :
    PartsLawful (releaseReset sid cfgsrc s) := by
  unfold releaseReset
  split
  next hs =>
    have hv : s.re.valid = false := by simp [h.valid, hs, StationState.inTable]
    have hq : s.tq = TransmitQueue.empty := h.tq (by simp [hs, StationState.mayQueue])
    have hf : s.sc.fault = .none := by
      refine Decidable.not_not.mp fun k => ?_
      simpa [hs] using h.fault k
    split
    · exact enterState_parts ⟨hv, fun _ _ => hq, fun k => absurd hf k, by simp, by simp⟩
    · exact enterState_parts ⟨hv, fun _ _ => hq, fun k => absurd hf k, by simp, by simp⟩
  all_goals exact h

theorem reset_parts (s : State) (b : Bool) : PartsLawful { s.blocksReset with powered := b } := by
  refine ⟨?_, ?_, ?_, ?_, ?_, ?_, ?_, ?_, ?_, ?_, ?_, ?_, ?_, ?_⟩ <;> simp [State.blocksReset] <;> decide

theorem leadsTo_parts (h : PartsLawful s) : LeadsTo PartsLawful s where
  stay := h
  atEnd u hu := hu.of_steady (by simp) (by simp) (by simp) (settle_steady u)
  port _ _ hu := hu
  reset := reset_parts s
  release := releaseReset_parts h
  rise _ := changeRequest_parts h _ _
  fall _ := changeRequest_parts h _ _
  latch _ := changeRequest_parts h _ _
  marked := startMark_parts h
  closed := closingMark_parts h
  truncated := truncation_parts h
  window := windowCloses_parts h
  sent := closingMarkSent_parts h
  ownWindow := ownWindowCloses_parts h
  xtenOn := h.of_steady (by simp) (by simp) (by simp) (xtenAsserted_steady s)
  contention o := h.of_steady (by simp) (by simp) (by simp) (contentionCloses_steady o s)
  xtenOff := h.of_steady (by simp) (by simp) (by simp) (xtenReleased_steady s)
  quiet := h.of_steady (by simp) (by simp) (by simp) (busQuiet_steady s)
  xwantOn := h.of_steady (by simp) (by simp) (by simp) (xwantAsserted_steady s)
  xwantOff := h.of_steady (by simp) (by simp) (by simp) (xwantReleased_steady s)
  listened := listenEnds_parts h
  deadline := deadlineExpires_parts h
  holdOff := holdOffExpires_parts h
  period := periodEnds_parts h
  answered := memoryAnswered_parts h
  notAnswered := memoryNotAnswered_parts h
  written _ := h
  started hs := takeImage_parts h (.inl hs) _
  left := leaveTable_parts h
  rejoined hs :=
    enterState_parts (readyFor_again h (.inl (by simp [hs, StationState.receiverOn]))
      (by simp [hs, StationState.inTable]) (by decide) (by decide) (by decide) (by decide))

/-- Settles O54: each operation a command starts with keeps the agreement, and so does the end of the event. -/
theorem stepsKeepTheParts : Obligations.StepsKeepTheParts :=
  fun s _ hs ht => LeadsTo.step hs (fun rest => leadsTo_parts (s := { s with pending := rest }) hs) ht

end Sys2Proof.Machine
end

section
/-! PROOF. The records of the claim table: holders, wait lists and the grant pass under laws L1, L2, L3, L5 (class order),
L6 and L7 (R3, R5, R7, R14, R16, R17). -/

namespace Sys2Proof.Machine

open Sys2Proof.Safety

/-! ### Holders -/

theorem insertHolder_perm (h : Holder) (hs : List Holder) : (insertHolder h hs).Perm (h :: hs) := by
  induction hs with
  | nil => exact .refl _
  | cons x xs ih =>
    unfold insertHolder
    split
    · exact .refl _
    · exact (ih.cons x).trans (.swap h x xs)

/-- A holder placed among others in ascending order leaves them so (R3). -/
theorem insertHolder_ascending (h : Holder) (hs : List Holder) (ha : Ascending (hs.map (·.station)))
    (hn : h.station ∉ hs.map (·.station)) : Ascending ((insertHolder h hs).map (·.station)) := by
  induction hs with
  | nil => simp [insertHolder]
  | cons x xs ih =>
    simp only [List.map_cons, List.pairwise_cons, List.mem_cons, not_or] at ha hn
    unfold insertHolder
    split
    next hlt =>
      have hx : h.station < x.station := hlt
      simp only [List.map_cons, List.pairwise_cons, List.mem_cons]
      exact ⟨fun y hy => hy.elim (· ▸ hx) fun hy => hx.trans (ha.1 y hy), ha⟩
    next hlt =>
      have hx : x.station < h.station := lt_of_le_of_ne (not_lt.mp hlt) (Ne.symm hn.1)
      have hp := (insertHolder_perm h xs).map (·.station)
      simp only [List.map_cons, List.pairwise_cons]
      refine ⟨fun y hy => ?_, ih ha.2 hn.2⟩
      rcases List.mem_cons.mp (hp.mem_iff.mp hy) with rfl | hy
      · exact hx
      · exact ha.1 y hy

/-- A compatible mode adds its holder to those there are (R3, R13). -/
theorem add_holders_perm (hd : Holding) (m : Mode) (h : Holder) (hc : hd.compatible m = true) :
    (hd.add m h).holders.Perm (h :: hd.holders) := by
  cases m <;> cases hd <;> simp_all [Holding.compatible, Holding.add, Holding.holders, insertHolder_perm]

theorem add_ascending (hd : Holding) (m : Mode) (h : Holder) (hc : hd.compatible m = true)
    (ha : Ascending (hd.holders.map (·.station))) (hn : h.station ∉ hd.holders.map (·.station)) :
    Ascending ((hd.add m h).holders.map (·.station)) := by
  cases m <;> cases hd <;> simp_all [Holding.compatible, Holding.add, Holding.holders]
  exact insertHolder_ascending h _ ha (by simpa using hn)

theorem add_ne_shared_nil (hd : Holding) (m : Mode) (h : Holder) : hd.add m h ≠ .shared [] := by
  cases m <;> cases hd <;> simp [Holding.add]
  next hs =>
    intro he
    have := (insertHolder_perm h hs).length_eq
    simp [he] at this

@[simp] theorem remove_holders (hd : Holding) (x : Station) :
    (hd.remove x).holders = hd.holders.filter fun h => h.station != x := by
  cases hd with
  | free => rfl
  | exclusive h => by_cases hx : h.station = x <;> simp [Holding.remove, Holding.holders, hx]
  | shared hs =>
    cases he : hs.filter fun h => h.station != x <;> simp [Holding.remove, Holding.holders, he]

theorem remove_ne_shared_nil (hd : Holding) (x : Station) : hd.remove x ≠ .shared [] := by
  cases hd with
  | free => simp [Holding.remove]
  | exclusive h => by_cases hx : h.station = x <;> simp [Holding.remove, hx]
  | shared hs =>
    simp only [Holding.remove]
    split
    · simp
    next hne => simpa using hne

/-- A holding with no holder is FREE, once a SHARED one has a holder (law L1). -/
theorem holders_eq_nil (hd : Holding) (hs : hd ≠ .shared []) : hd.holders = [] ↔ hd = .free := by
  cases hd <;> simp_all [Holding.holders]

theorem compatible_free (m : Mode) : Holding.free.compatible m = true := by cases m <;> rfl

/-- What is incompatible has a holder (R13). -/
theorem holders_of_incompatible (hd : Holding) (hs : hd ≠ .shared []) (m : Mode) (hc : hd.compatible m = false) :
    hd.holders ≠ [] := fun he => by
  rw [(holders_eq_nil hd hs).mp he, compatible_free] at hc
  exact Bool.noConfusion hc

/-! ### The order of classes (law L5) -/

theorem classOrdered_iff (ws : List WaitEntry) :
    classOrdered ws = true ↔ ws.Pairwise fun a b => ¬ (a.cls = .ordinary ∧ b.cls = .urgent) := by
  induction ws with
  | nil => simp [classOrdered]
  | cons w ws ih =>
    cases hw : w.cls with
    | ordinary =>
      have ho : ∀ b : WaitEntry, b.cls = .ordinary ↔ ¬ b.cls = .urgent := fun b => by cases b.cls <;> simp
      have hall : classOrdered (w :: ws) = true ↔ ∀ b ∈ ws, b.cls = .ordinary := by simp [classOrdered, hw]
      simp only [hall, List.pairwise_cons, hw, true_and, ← ho]
      exact ⟨fun h => ⟨h, List.pairwise_of_forall_mem_list fun a _ b hb k => by simp [h b hb] at k⟩, And.left⟩
    | urgent =>
      rw [List.pairwise_cons, ← ih]
      simp [classOrdered, hw]

/-! ### Insertion in a wait list (R7) -/

theorem insertWait_perm (w : Wait) (ws : List Wait) : (insertWait w ws).Perm (w :: ws) := by
  unfold insertWait
  split
  · exact List.perm_append_singleton w ws
  · refine List.perm_middle.trans ?_
    rw [List.takeWhile_append_dropWhile]

/-- The entries that a new one of a class stands behind and before, in a list with its classes in order (R7). -/
theorem insertWait_split (w : Wait) (ws : List Wait) (ho : classOrdered (ws.map (·.entry)) = true) :
    ∃ ahead behind, ws = ahead ++ behind ∧ insertWait w ws = ahead ++ w :: behind ∧
      (∀ v ∈ ahead, w.entry.cls = .ordinary ∨ v.entry.cls = .urgent) ∧
      (∀ v ∈ behind, w.entry.cls = .urgent ∧ v.entry.cls = .ordinary) := by
  cases hw : w.entry.cls with
  | ordinary => exact ⟨ws, [], by simp, by simp [insertWait, hw], by simp, by simp⟩
  | urgent =>
    refine ⟨ws.takeWhile fun v => v.entry.cls == .urgent, ws.dropWhile fun v => v.entry.cls == .urgent,
      (List.takeWhile_append_dropWhile).symm, by simp only [insertWait, hw], fun v hv => .inr (by simpa using List.mem_takeWhile_imp hv),
      fun v hv => ⟨rfl, ?_⟩⟩
    have hall : (((ws.map (·.entry)).dropWhile fun v => v.cls == .urgent).all fun v => v.cls == .ordinary) = true := ho
    rw [List.dropWhile_map, List.all_map] at hall
    simpa using List.all_eq_true.mp hall v hv

theorem insertWait_classOrdered (w : Wait) (ws : List Wait) (ho : classOrdered (ws.map (·.entry)) = true) :
    classOrdered ((insertWait w ws).map (·.entry)) = true := by
  obtain ⟨ahead, behind, rfl, hi, ha, hb⟩ := insertWait_split w ws ho
  rw [classOrdered_iff] at ho ⊢
  rw [hi]
  simp only [List.map_append, List.map_cons, List.pairwise_append, List.pairwise_cons, List.mem_map,
    List.mem_cons, forall_exists_index, and_imp, forall_apply_eq_imp_iff₂] at ho ⊢
  obtain ⟨h1, h2, h3⟩ := ho
  refine ⟨h1, ⟨fun v hv k => ?_, h2⟩, ?_⟩
  · simp [(hb v hv).1] at k
  · rintro a haa b (rfl | ⟨v, hv, rfl⟩) k
    · rcases ha a haa with h | h <;> simp [h] at k
    · exact h3 a haa v hv k

/-! ### A record before its grant pass -/

/-- The laws of a record that an operation leaves before the grant pass: all but those of the head and of yield demand. -/
structure RecordSound (ms : Vector MemberState 16) (r : Record) : Prop where
  shared : r.holding ≠ .shared []
  ascending : Ascending (r.holding.holders.map (·.station))
  once : (stationsOf r).Nodup
  order : classOrdered (r.waits.map (·.entry)) = true
  active : ∀ x ∈ stationsOf r, ms[x] = .active

theorem RecordSound.of_lawful {ms : Vector MemberState 16} {r : Record} (h : RecordLawful ms r) : RecordSound ms r := by
  obtain ⟨h1, h2, h3, _, h5, _, h7⟩ := h
  exact ⟨h1, h2, h3, h5, h7⟩

/-! ### The grant pass (R14) -/

theorem grantHeads_suffix (hd : Holding) (ws : List Wait) : (grantHeads hd ws).2 <:+ ws := by
  induction ws generalizing hd with
  | nil => exact List.suffix_rfl
  | cons w ws ih =>
    unfold grantHeads
    split
    · exact (ih _).trans (List.suffix_cons w ws)
    · exact List.suffix_rfl

/-- The grant pass stops at a head that is incompatible with the state (law L3). -/
theorem grantHeads_head (hd : Holding) (ws : List Wait) :
    ∀ w ∈ (grantHeads hd ws).2.head?, (grantHeads hd ws).1.compatible w.entry.mode = false := by
  induction ws generalizing hd with
  | nil => simp [grantHeads]
  | cons w ws ih =>
    unfold grantHeads
    split
    · exact ih _
    next hc => simpa using hc

theorem grantHeads_ne_shared_nil (hd : Holding) (ws : List Wait) (hs : hd ≠ .shared []) :
    (grantHeads hd ws).1 ≠ .shared [] := by
  induction ws generalizing hd with
  | nil => exact hs
  | cons w ws ih =>
    unfold grantHeads
    split
    · exact ih _ (add_ne_shared_nil _ _ _)
    · exact hs

/-- The stations of a holding and a wait list. -/
abbrev standingsOf (hd : Holding) (ws : List Wait) : List Station :=
  hd.holders.map (·.station) ++ ws.map (·.entry.station)

theorem stationsOf_eq (r : Record) : stationsOf r = standingsOf r.holding r.waits := rfl

/-- The grant pass makes waiters holders and loses none. -/
theorem grantHeads_perm (hd : Holding) (ws : List Wait) :
    (standingsOf (grantHeads hd ws).1 (grantHeads hd ws).2).Perm (standingsOf hd ws) := by
  induction ws generalizing hd with
  | nil => exact .refl _
  | cons w ws ih =>
    unfold grantHeads
    split
    next hc =>
      refine (ih _).trans ?_
      have hp := (add_holders_perm hd w.entry.mode { station := w.entry.station, yieldable := w.entry.yieldable } hc).map
        (·.station)
      exact (hp.append_right _).trans List.perm_middle.symm
    · exact .refl _

theorem grantHeads_ascending (hd : Holding) (ws : List Wait) (ha : Ascending (hd.holders.map (·.station)))
    (hn : (standingsOf hd ws).Nodup) : Ascending ((grantHeads hd ws).1.holders.map (·.station)) := by
  induction ws generalizing hd with
  | nil => exact ha
  | cons w ws ih =>
    unfold grantHeads
    split
    next hc =>
      have hp := (add_holders_perm hd w.entry.mode { station := w.entry.station, yieldable := w.entry.yieldable } hc).map
        (·.station)
      have hnew : (w.entry.station :: standingsOf hd ws).Nodup := List.perm_middle.nodup_iff.mp hn
      refine ih _ (add_ascending hd _ _ hc ha ?_) ((hp.append_right _).nodup_iff.mpr hnew)
      exact fun hm => (List.nodup_cons.mp hnew).1 (List.mem_append_left _ hm)
    · exact ha

@[simp] theorem grantPass_holding (r : Record) : r.grantPass.holding = (grantHeads r.holding r.waits).1 := rfl
@[simp] theorem grantPass_waits (r : Record) : r.grantPass.waits = (grantHeads r.holding r.waits).2 := rfl

theorem grantPass_yieldDemand (r : Record) : r.grantPass.yieldDemand = r.grantPass.demandedYield := rfl

theorem grantPass_stations (r : Record) : (stationsOf r.grantPass).Perm (stationsOf r) :=
  grantHeads_perm r.holding r.waits

/-- After the grant pass a sound record is lawful (R14, R16). -/
theorem grantPass_lawful {ms : Vector MemberState 16} {r : Record} (h : RecordSound ms r) :
    RecordLawful ms r.grantPass :=
  ⟨grantHeads_ne_shared_nil _ _ h.shared, grantHeads_ascending _ _ h.ascending h.once,
    (grantPass_stations r).nodup_iff.mpr h.once, grantHeads_head _ _,
    (classOrdered_iff _).mpr
      (((classOrdered_iff _).mp h.order).sublist ((grantHeads_suffix _ _).sublist.map _)),
    rfl, fun x hx => h.active x ((grantPass_stations r).mem_iff.mp hx)⟩

/-- The grant pass leaves a record alone whose head is incompatible with its state. -/
theorem grantHeads_of_head (hd : Holding) (ws : List Wait) (hh : ∀ w ∈ ws.head?, hd.compatible w.entry.mode = false) :
    grantHeads hd ws = (hd, ws) := by
  cases ws with
  | nil => rfl
  | cons w ws => simp [grantHeads, hh w rfl]

theorem grantPass_of_head (r : Record) (hh : ∀ w ∈ r.waits.head?, r.holding.compatible w.entry.mode = false) :
    r.grantPass = r.recomputeYield := by
  simp [Record.grantPass, grantHeads_of_head _ _ hh]

theorem grantPass_of_lawful {ms : Vector MemberState 16} {r : Record} (h : RecordLawful ms r) : r.grantPass = r := by
  obtain ⟨_, _, _, hh, _, hy, _⟩ := h
  rw [grantPass_of_head r hh, Record.recomputeYield, ← hy]

/-! ### Standing in a record -/

theorem holds_iff (r : Record) (x : Station) : r.holds x = true ↔ x ∈ r.holding.holders.map (·.station) := by
  simp [Record.holds]

theorem waitsFor_iff (r : Record) (x : Station) : r.waitsFor x = true ↔ x ∈ r.waits.map (·.entry.station) := by
  simp [Record.waitsFor]

theorem has_iff (r : Record) (x : Station) : r.has x = true ↔ x ∈ stationsOf r := by
  rw [Record.has, Bool.or_eq_true_iff, holds_iff, waitsFor_iff, stationsOf, List.mem_append]

theorem has_false_iff (r : Record) (x : Station) : r.has x = false ↔ x ∉ stationsOf r := by
  rw [← has_iff, Bool.not_eq_true]

/-! ### A station taken out of a record (R17, R35) -/

/-- The record before the grant pass that follows a taking out. -/
abbrev Record.without (r : Record) (x : Station) : Record :=
  { r with holding := r.holding.remove x, waits := r.waits.filter fun w => w.entry.station != x }

theorem takeOut_eq (r : Record) (x : Station) : r.takeOut x = (r.without x).grantPass := rfl

theorem stationsOf_without (r : Record) (x : Station) :
    stationsOf (r.without x) = (stationsOf r).filter fun y => y != x := by
  simp [stationsOf, List.filter_map, Function.comp_def]

theorem stationsOf_takeOut (r : Record) (x : Station) :
    (stationsOf (r.takeOut x)).Perm ((stationsOf r).filter fun y => y != x) :=
  stationsOf_without r x ▸ grantPass_stations (r.without x)

/-- A station taken out stands in the record no more. -/
@[simp] theorem has_takeOut (r : Record) (x : Station) : (r.takeOut x).has x = false := by
  rw [has_false_iff, (stationsOf_takeOut r x).mem_iff]
  simp

theorem without_sound {ms ms' : Vector MemberState 16} {r : Record} (h : RecordSound ms r) (x : Station)
    (hm : ∀ y, y ≠ x → ms[y] = .active → ms'[y] = .active) : RecordSound ms' (r.without x) where
  shared := remove_ne_shared_nil _ _
  ascending := by
    simpa using h.ascending.sublist ((List.filter_sublist (l := r.holding.holders)).map (·.station))
  once := stationsOf_without r x ▸ h.once.filter _
  order := (classOrdered_iff _).mpr (((classOrdered_iff _).mp h.order).sublist (List.filter_sublist.map _))
  active y hy := by
    obtain ⟨hy, hne⟩ := List.mem_filter.mp (stationsOf_without r x ▸ hy)
    exact hm y (by simpa using hne) (h.active y hy)

theorem takeOut_lawful {ms ms' : Vector MemberState 16} {r : Record} (h : RecordLawful ms r) (x : Station)
    (hm : ∀ y, y ≠ x → ms[y] = .active → ms'[y] = .active) : RecordLawful ms' (r.takeOut x) :=
  grantPass_lawful (without_sound (.of_lawful h) x hm)

/-- A lawful record in which a station does not stand is as it was after the station's taking out. -/
theorem takeOut_of_not_has {ms : Vector MemberState 16} {r : Record} (h : RecordLawful ms r) {x : Station}
    (hx : r.has x = false) : r.takeOut x = r := by
  obtain ⟨hh, hw⟩ : x ∉ r.holding.holders.map (·.station) ∧ x ∉ r.waits.map (·.entry.station) := by
    simpa [has_false_iff, stationsOf] using hx
  have hwaits : (r.waits.filter fun w => w.entry.station != x) = r.waits :=
    List.filter_eq_self.mpr fun w hwm => by
      simpa using fun he : w.entry.station = x => hw (List.mem_map.mpr ⟨w, hwm, he⟩)
  have hfilter : (r.holding.holders.filter fun h => h.station != x) = r.holding.holders :=
    List.filter_eq_self.mpr fun k hk => by
      simpa using fun he : k.station = x => hh (List.mem_map.mpr ⟨k, hk, he⟩)
  have hhold : r.holding.remove x = r.holding := by
    cases hr : r.holding with
    | free => rfl
    | exclusive k =>
      have : k.station ≠ x := fun he => hh (by simp [hr, Holding.holders, he])
      simp [Holding.remove, this]
    | shared hs =>
      simp only [hr, Holding.holders] at hfilter
      simp only [Holding.remove, hfilter]
      split
      · exact absurd hr h.1
      · rfl
  rw [takeOut_eq, Record.without, hhold, hwaits]
  exact grantPass_of_lawful h

/-! ### A holder or a waiter added -/

/-- The record with a holder added, before the grant pass (R31). -/
abbrev Record.withHolder (r : Record) (m : Mode) (h : Holder) : Record := { r with holding := r.holding.add m h }

/-- The record with a wait entry put in, before the grant pass (R32). -/
abbrev Record.withWait (r : Record) (w : Wait) : Record := { r with waits := insertWait w r.waits }

/-- A CLAIM granted leaves a sound record before its grant pass (R31). -/
theorem withHolder_sound {ms : Vector MemberState 16} {r : Record} (h : RecordSound ms r) {m : Mode} {k : Holder}
    (hc : r.holding.compatible m = true) (hx : r.has k.station = false) (ha : ms[k.station] = .active) :
    RecordSound ms (r.withHolder m k) := by
  rw [has_false_iff] at hx
  have hp : (stationsOf (r.withHolder m k)).Perm (k.station :: stationsOf r) :=
    ((add_holders_perm r.holding m k hc).map (·.station)).append_right _
  exact
    { shared := add_ne_shared_nil _ _ _
      ascending := add_ascending _ _ _ hc h.ascending fun hm => hx (List.mem_append_left _ hm)
      once := hp.nodup_iff.mpr (List.nodup_cons.mpr ⟨hx, h.once⟩)
      order := h.order
      active := fun z hz => by
        rcases List.mem_cons.mp (hp.mem_iff.mp hz) with rfl | hz
        · exact ha
        · exact h.active z hz }

/-- A CLAIM put into the wait list leaves a sound record before its grant pass (R32). -/
theorem withWait_sound {ms : Vector MemberState 16} {r : Record} (h : RecordSound ms r) {w : Wait}
    (hx : r.has w.entry.station = false) (ha : ms[w.entry.station] = .active) : RecordSound ms (r.withWait w) := by
  rw [has_false_iff] at hx
  have hp : (stationsOf (r.withWait w)).Perm (w.entry.station :: stationsOf r) :=
    (((insertWait_perm w r.waits).map (·.entry.station)).append_left _).trans List.perm_middle
  exact
    { shared := h.shared
      ascending := h.ascending
      once := hp.nodup_iff.mpr (List.nodup_cons.mpr ⟨hx, h.once⟩)
      order := insertWait_classOrdered w r.waits h.order
      active := fun z hz => by
        rcases List.mem_cons.mp (hp.mem_iff.mp hz) with rfl | hz
        · exact ha
        · exact h.active z hz }

end Sys2Proof.Machine
end

section
/-! PROOF. The pool of wait entries, and the laws of the whole table under each effect of a frame (R8, R12, R17, R29 to
R42). -/

namespace Sys2Proof.Machine

open Sys2Proof.Safety

/-! ### Tables by their entries -/

@[simp] theorem tableOf_getElem {α : Type} {n : Nat} (f : Fin n → α) (i : Nat) (h : i < n) :
    (tableOf n f)[i] = f ⟨i, h⟩ := by
  simp [tableOf]

@[simp] theorem mapTable_getElem {α β : Type} {n : Nat} (f : α → β) (v : Vector α n) (i : Nat) (h : i < n) :
    (mapTable f v)[i] = f v[i] := by
  simp [mapTable]

theorem set_getElem {α : Type} {n : Nat} (v : Vector α n) (i j : Fin n) (x : α) :
    (v.set i x)[j] = if j = i then x else v[j] := by
  simp only [Fin.getElem_fin, Vector.getElem_set, Fin.ext_iff, eq_comm]

@[simp] theorem set_getElem_self {α : Type} {n : Nat} (v : Vector α n) (i : Fin n) (x : α) : (v.set i x)[i] = x := by
  rw [set_getElem, if_pos rfl]

theorem set_getElem_of_ne {α : Type} {n : Nat} (v : Vector α n) {i j : Fin n} (x : α) (h : j ≠ i) :
    (v.set i x)[j] = v[j] := by
  rw [set_getElem, if_neg h]

theorem toList_eq_map {α : Type} {n : Nat} (v : Vector α n) : v.toList = (List.finRange n).map (v[·]) := by
  refine List.ext_getElem (by simp) fun i hi _ => ?_
  simp

/-! ### The slots of the wait lists -/

theorem mem_slotsOf (e : ReplicaEngine) (n : Nat) : n ∈ slotsOf e ↔ ∃ r : Resource, n ∈ e.records[r].slots := by
  simp [slotsOf, toList_eq_map]

/-- No slot is held twice: not within a record, and not by two records. -/
theorem slotsOf_nodup (e : ReplicaEngine) :
    (slotsOf e).Nodup ↔
      (∀ r : Resource, e.records[r].slots.Nodup) ∧
        ∀ r r' : Resource, r ≠ r' → ∀ n ∈ e.records[r].slots, n ∉ e.records[r'].slots := by
  have hp : (List.finRange 64).Pairwise (fun r r' : Resource => List.Disjoint e.records[r].slots e.records[r'].slots) ↔
      ∀ r r' : Resource, r ≠ r' → List.Disjoint e.records[r].slots e.records[r'].slots := by
    refine ⟨fun h r r' hne => ?_, fun h => (List.nodup_finRange 64).imp fun hne => h _ _ hne⟩
    rcases lt_or_gt_of_ne hne with hlt | hlt
    · simpa using List.pairwise_iff_getElem.mp h r r' (by simp) (by simp) hlt
    · simpa using (List.pairwise_iff_getElem.mp h r' r (by simp) (by simp) hlt).symm
  simp only [slotsOf, toList_eq_map, List.flatMap_map, List.nodup_flatMap, List.mem_finRange, forall_const]
  exact and_congr_right fun _ => hp

theorem slots_sublist {r r' : Record} (h : r.waits.Sublist r'.waits) : r.slots.Sublist r'.slots := h.map _

theorem grantPass_slots (r : Record) : r.grantPass.slots.Sublist r.slots :=
  slots_sublist (grantHeads_suffix _ _).sublist

theorem takeOut_slots (r : Record) (x : Station) : (r.takeOut x).slots.Sublist r.slots :=
  (grantPass_slots (r.without x)).trans (slots_sublist List.filter_sublist)

@[simp] theorem mem_slotsLeft (before after : Record) (n : Nat) :
    n ∈ slotsLeft before after ↔ n ∈ before.slots ∧ n ∉ after.slots := by
  simp [slotsLeft]

@[simp] theorem freeSlots_getElem (pool : Vector Bool 96) (left : List Nat) (i : Nat) (h : i < 96) :
    (freeSlots pool left)[i] = (pool[i] && !left.contains i) := by
  simp [freeSlots]

theorem freeSlots_iff (pool : Vector Bool 96) (left : List Nat) (i : Fin 96) :
    (freeSlots pool left)[i] = true ↔ pool[i] = true ∧ i.val ∉ left := by
  simp

theorem pool_iff {e : ReplicaEngine} (h : PoolLawful e) (i : Fin 96) : e.pool[i] = true ↔ i.val ∈ slotsOf e := by
  rw [h.2.2 i, List.contains_iff_mem]

/-- Law L4 is kept where entries leave wait lists and just those are freed. -/
theorem poolLawful_of_freed {e e' : ReplicaEngine} (h : PoolLawful e)
    (hs : ∀ r : Resource, e'.records[r].slots.Sublist e.records[r].slots)
    (hp : ∀ i : Fin 96, e'.pool[i] = true ↔
      e.pool[i] = true ∧ ¬ ∃ r : Resource, i.val ∈ e.records[r].slots ∧ i.val ∉ e'.records[r].slots) :
    PoolLawful e' := by
  obtain ⟨hin, hout⟩ := (slotsOf_nodup e).mp h.1
  have hsub : ∀ n, n ∈ slotsOf e' → n ∈ slotsOf e := fun n hn => by
    obtain ⟨r, hr⟩ := (mem_slotsOf e' n).mp hn
    exact (mem_slotsOf e n).mpr ⟨r, (hs r).subset hr⟩
  refine ⟨(slotsOf_nodup e').mpr ⟨fun r => (hin r).sublist (hs r), fun r r' hne n hn hn' =>
    hout r r' hne n ((hs r).subset hn) ((hs r').subset hn')⟩, fun n hn => h.2.1 n (hsub n hn), fun i => ?_⟩
  rw [Bool.eq_iff_iff, List.contains_iff_mem, hp, pool_iff h, mem_slotsOf, mem_slotsOf]
  constructor
  · rintro ⟨⟨r, hr⟩, hno⟩
    exact ⟨r, not_not.mp fun hn => hno ⟨r, hr, hn⟩⟩
  · rintro ⟨r, hr⟩
    refine ⟨⟨r, (hs r).subset hr⟩, fun ⟨r', hb, hn⟩ => ?_⟩
    have hrr : r ≠ r' := fun he => hn (he ▸ hr)
    exact hout r r' hrr _ ((hs r).subset hr) hb

theorem lowestFree_spec {pool : Vector Bool 96} {i : Fin 96} (hi : lowestFree pool = some i) : pool[i] = false := by
  simpa using List.find?_some hi

/-- A record rewritten keeps law L4 where its wait list has only lost entries. -/
theorem poolLawful_rewrite {e : ReplicaEngine} (h : PoolLawful e) (r : Resource) {after : Record}
    (hs : after.slots.Sublist e.records[r].slots) : PoolLawful (e.rewrite r e.records[r] after) := by
  have hrec (r' : Resource) : (e.rewrite r e.records[r] after).records[r'] = if r' = r then after else e.records[r'] :=
    set_getElem _ _ _ _
  refine poolLawful_of_freed h (fun r' => ?_) fun i => ?_
  · rw [hrec]
    split
    next hr => exact hr ▸ hs
    · exact List.Sublist.refl _
  · refine (freeSlots_iff _ _ i).trans (and_congr_right fun _ => not_congr ?_)
    simp only [hrec, mem_slotsLeft]
    refine ⟨fun hk => ⟨r, by simpa using hk⟩, fun ⟨r', hk⟩ => ?_⟩
    split at hk
    next hr => exact hr ▸ hk
    · exact absurd hk.1 hk.2

/-! ### The laws of the table -/

/-- The laws of the records and of the pool, apart from those of the valid flag and of the load image. -/
structure RecordsLawful (e : ReplicaEngine) : Prop where
  records : ∀ r : Resource, RecordLawful e.members e.records[r]
  pool : PoolLawful e

theorem RecordsLawful.of_table {e : ReplicaEngine} (h : TableLawful e) : RecordsLawful e := ⟨h.1, h.2.1⟩

section
variable {e : ReplicaEngine} (h : RecordsLawful e)
include h

/-- A lawful record in the place of another. -/
theorem RecordsLawful.set (r : Resource) {after : Record} (hr : RecordLawful e.members after) (r' : Resource) :
    RecordLawful e.members (e.records.set r after)[r'] := by
  rw [set_getElem]
  split
  · exact hr
  · exact h.records r'

/-- A record rewritten to a lawful one, with slots that it had, keeps the laws. -/
theorem RecordsLawful.rewrite (r : Resource) {after : Record} (hr : RecordLawful e.members after)
    (hs : after.slots.Sublist e.records[r].slots) : RecordsLawful (e.rewrite r e.records[r] after) :=
  ⟨h.set r hr, poolLawful_rewrite h.pool r hs⟩

/-- A wait entry put in with a free pool entry keeps law L4 (R8). -/
theorem RecordsLawful.insert (r : Resource) {i : Fin 96} (hi : e.pool[i] = false) {w : Wait} (hw : w.slot = i.val) :
    PoolLawful { e with records := e.records.set r (e.records[r].withWait w), pool := takeSlot e.pool i } := by
  obtain ⟨hin, hout⟩ := (slotsOf_nodup e).mp h.pool.1
  have hfree (r' : Resource) : i.val ∉ e.records[r'].slots := fun hn =>
    Bool.false_ne_true (hi.symm.trans ((pool_iff h.pool i).mpr ((mem_slotsOf e _).mpr ⟨r', hn⟩)))
  have hperm : (e.records[r].withWait w).slots.Perm (i.val :: e.records[r].slots) :=
    hw ▸ (insertWait_perm w e.records[r].waits).map Wait.slot
  have hmem (n : Nat) (r' : Resource) :
      n ∈ (e.records.set r (e.records[r].withWait w))[r'].slots ↔ (r' = r ∧ n = i.val) ∨ n ∈ e.records[r'].slots := by
    rw [set_getElem]
    split
    next hr => rw [hperm.mem_iff, List.mem_cons, hr]; simp
    next hr => simp [hr]
  refine ⟨(slotsOf_nodup _).mpr ⟨fun r' => ?_, fun r' r'' hne n hn hn' => ?_⟩, fun n hn => ?_, fun j => ?_⟩
  · rw [set_getElem]
    split
    · exact hperm.nodup_iff.mpr (List.nodup_cons.mpr ⟨hfree r, hin r⟩)
    · exact hin r'
  · rcases (hmem n r').mp hn with ⟨hr, hi⟩ | hn <;> rcases (hmem n r'').mp hn' with ⟨hr', hi'⟩ | hn'
    · exact hne (hr.trans hr'.symm)
    · exact hfree r'' (hi ▸ hn')
    · exact hfree r' (hi' ▸ hn)
    · exact hout r' r'' hne n hn hn'
  · obtain ⟨r', hn⟩ := (mem_slotsOf _ n).mp hn
    rcases (hmem n r').mp hn with ⟨_, rfl⟩ | hn
    · exact i.isLt
    · exact h.pool.2.1 n ((mem_slotsOf e n).mpr ⟨r', hn⟩)
  · have hj : e.pool[j] = true ↔ ∃ r' : Resource, j.val ∈ e.records[r'].slots :=
      (pool_iff h.pool j).trans (mem_slotsOf e _)
    rw [Bool.eq_iff_iff, List.contains_iff_mem, mem_slotsOf, takeSlot, set_getElem]
    simp only [hmem]
    split
    next hji => simpa using ⟨r, .inl ⟨rfl, congrArg Fin.val hji⟩⟩
    next hji =>
      rw [hj]
      simp [Fin.val_inj, hji]

end

/-! ### The outcomes of a CLAIM (R30 to R33) -/

section
variable (e : ReplicaEngine) (x : Station) (r : Resource) (m : Mode) (c : ClaimClass) (y : Bool)

/-- The wait entry of a CLAIM, with the pool entry that holds it. -/
abbrev waitOf (i : Fin 96) : Wait := { slot := i.val, entry := { station := x, mode := m, cls := c, yieldable := y } }

theorem claim_of_has (h : e.records[r].has x = true) : e.claim x r m c y = (e, .already) := by
  simp only [ReplicaEngine.claim, h, if_true]

theorem claim_of_grantsAtOnce (h : e.records[r].has x = false) (hg : e.records[r].grantsAtOnce m c = true) :
    e.claim x r m c y =
      (e.rewrite r (e.records[r].withHolder m { station := x, yieldable := y })
        (e.records[r].withHolder m { station := x, yieldable := y }).grantPass, .granted) := by
  simp only [ReplicaEngine.claim, h, hg, if_true, Bool.false_eq_true, if_false]

theorem claim_of_full (h : e.records[r].has x = false) (hg : e.records[r].grantsAtOnce m c = false)
    (hf : lowestFree e.pool = none) : e.claim x r m c y = (e, .refused) := by
  simp only [ReplicaEngine.claim, h, hg, hf, Bool.false_eq_true, if_false]

theorem claim_of_free (h : e.records[r].has x = false) (hg : e.records[r].grantsAtOnce m c = false) {i : Fin 96}
    (hf : lowestFree e.pool = some i) :
    e.claim x r m c y =
      ({ e with pool := takeSlot e.pool i }.rewrite r (e.records[r].withWait (waitOf x m c y i))
        (e.records[r].withWait (waitOf x m c y i)).grantPass, .waiting) := by
  simp only [ReplicaEngine.claim, h, hg, hf, Bool.false_eq_true, if_false]

end

theorem compatible_of_grantsAtOnce {r : Record} {m : Mode} {c : ClaimClass} (h : r.grantsAtOnce m c = true) :
    r.holding.compatible m = true := by
  unfold Record.grantsAtOnce at h
  exact (Bool.and_eq_true_iff.mp h).1

section
variable {e : ReplicaEngine} (h : RecordsLawful e)
include h

/-- A CLAIM of an ACTIVE member keeps the laws (R30 to R33). -/
theorem RecordsLawful.claim {x : Station} (hx : e.members[x] = .active) (r : Resource) (m : Mode) (c : ClaimClass)
    (y : Bool) : RecordsLawful (e.claim x r m c y).1 := by
  have hr := RecordSound.of_lawful (h.records r)
  cases hn : e.records[r].has x with
  | true => rwa [claim_of_has e x r m c y hn]
  | false =>
    cases hg : e.records[r].grantsAtOnce m c with
    | true =>
      rw [claim_of_grantsAtOnce e x r m c y hn hg]
      have hs := withHolder_sound (k := { station := x, yieldable := y }) hr (compatible_of_grantsAtOnce hg) hn hx
      have := h.rewrite r (grantPass_lawful hs) (grantPass_slots _)
      exact ⟨this.records, this.pool⟩
    | false =>
      cases hf : lowestFree e.pool with
      | none => rwa [claim_of_full e x r m c y hn hg hf]
      | some i =>
        rw [claim_of_free e x r m c y hn hg hf]
        have hs := withWait_sound (w := waitOf x m c y i) hr hn hx
        refine ⟨h.set r (grantPass_lawful hs), ?_⟩
        have hp := h.insert r (lowestFree_spec hf) (w := waitOf x m c y i) rfl
        have := poolLawful_rewrite hp r (after := (e.records[r].withWait (waitOf x m c y i)).grantPass)
          (by rw [set_getElem_self]; exact grantPass_slots _)
        rw [set_getElem_self] at this
        simpa only [ReplicaEngine.rewrite, Vector.set_set] using this

/-- A DROP of an ACTIVE member keeps the laws (R35). -/
theorem RecordsLawful.drop (x : Station) (r : Resource) : RecordsLawful (e.drop x r).1 := by
  have ht := h.rewrite r (takeOut_lawful (ms' := e.members) (h.records r) x fun _ _ => id) (takeOut_slots _ x)
  unfold ReplicaEngine.drop
  dsimp only
  (repeat' split)
  · exact ht
  · exact ht
  · exact h

/-- The removal of a station keeps the laws, whatever its member record becomes (R17). -/
theorem RecordsLawful.removeStation (x : Station) (m : MemberState) : RecordsLawful (e.removeStation x m) := by
  have hrec (r : Resource) : (e.removeStation x m).records[r] = e.records[r].takeOut x := by
    simp [ReplicaEngine.removeStation]
  refine ⟨fun r => ?_, poolLawful_of_freed h.pool (fun r => ?_) fun i => ?_⟩
  · rw [hrec]
    refine takeOut_lawful (h.records r) x fun y hy ha => ?_
    exact (set_getElem_of_ne _ _ hy).trans ha
  · rw [hrec]
    exact takeOut_slots _ x
  · refine (freeSlots_iff _ _ i).trans (and_congr_right fun _ => not_congr ?_)
    simp only [hrec, toList_eq_map, List.flatMap_map, List.mem_flatMap, mem_slotsLeft, List.mem_finRange, true_and]

/-- A member that stands in no record may take any state, and any may become ACTIVE. -/
theorem RecordsLawful.setMember (x : Station) (m : MemberState) (hm : e.members[x] = .active → m = .active) :
    RecordsLawful (e.setMember x m) := by
  refine ⟨fun r => ?_, h.pool⟩
  obtain ⟨h1, h2, h3, h4, h5, h6, h7⟩ := h.records r
  refine ⟨h1, h2, h3, h4, h5, h6, fun y hy => ?_⟩
  have ha := h7 y hy
  simp only [ReplicaEngine.setMember]
  rw [set_getElem]
  split
  next hyx => exact hm (hyx ▸ ha)
  · exact ha

/-- Every effect of a frame keeps the laws of the records and the pool (R29 to R42). -/
theorem RecordsLawful.effectsOf (f : Frame) : RecordsLawful (effectsOf e f).replica := by
  cases hb : f.body with
  | claim r m c y =>
    simp only [Machine.effectsOf, hb, claimEffects]
    split
    next ha => exact h.claim ha r m c y
    · exact h
  | drop r =>
    simp only [Machine.effectsOf, hb, dropEffects]
    (repeat' split)
    · exact h.drop _ _
    · exact h
    · exact h
  | presence synced d =>
    simp only [Machine.effectsOf, hb, presenceEffects]
    split
    · exact h.setMember _ _ fun _ => rfl
    · exact h
  | expel t why =>
    simp only [Machine.effectsOf, hb, expelEffects]
    split
    · exact h.removeStation _ _
    · exact h
  | join =>
    simp only [Machine.effectsOf, hb, joinEffects]
    split
    next ha => exact h.setMember _ _ fun k => by simp [ha] at k
    · exact h.removeStation _ _
  | leave =>
    simp only [Machine.effectsOf, hb, leaveEffects]
    split
    · exact h
    · exact h.removeStation _ _
  | snapshot p =>
    simp only [Machine.effectsOf, hb]
    exact h

end

end Sys2Proof.Machine
end

section
/-! PROOF. Wire records and the table rebuilt from a load image: what they carry, the laws they keep, and the pool taken in
resource order and list order (R6, R8, R22, R23, R100). -/

namespace Sys2Proof.Machine

open Sys2Proof.Safety

/-! ### Wire records -/

theorem code_cases (c : BitVec 2) : c = 0 ∨ c = 1 ∨ c = 2 ∨ c = 3 := by decide +revert

/-- A wire record that fits the encoding: as many holders as its state code has. -/
theorem wellFormed_iff (w : WireRecord) :
    w.wellFormed = true ↔
      w.waits.length < 64 ∧ (w.code = 1 → w.holders.length = 1) ∧ (w.code = 2 → Ascending (w.holders.map (·.station))) ∧
        (w.code ≠ 1 → w.code ≠ 2 → w.holders = []) := by
  unfold WireRecord.wellFormed
  rcases code_cases w.code with h | h | h | h <;> simp [h]

/-- The holder part of a wire record that fits: FREE, the one exclusive holder, or the set of shared holders. -/
theorem wireHolding_cases (w : WireRecord) (hw : w.wellFormed = true) (h3 : w.code ≠ 3) :
    (w.code = 0 ∧ w.holders = [] ∧ w.holding = .free) ∨
    (∃ h, w.code = 1 ∧ w.holders = [h] ∧ w.holding = .exclusive h) ∨
    (w.code = 2 ∧ w.holding = .shared w.holders) := by
  obtain ⟨_, h1, _, h0⟩ := (wellFormed_iff w).mp hw
  rcases code_cases w.code with h | h | h | h
  · have hs : w.holders = [] := h0 (by simp [h]) (by simp [h])
    exact .inl ⟨h, hs, by simp [WireRecord.holding, h, hs]⟩
  · obtain ⟨k, hs⟩ := List.length_eq_one_iff.mp (h1 h)
    exact .inr (.inl ⟨k, h, hs, by simp [WireRecord.holding, h, hs]⟩)
  · exact .inr (.inr ⟨h, by simp [WireRecord.holding, h]⟩)
  · exact absurd h h3

theorem repeats_iff (xs : List Station) : repeats xs = false ↔ xs.Nodup := by
  induction xs with
  | nil => simp [repeats]
  | cons x xs ih => simp [repeats, ih]

/-- The checks of R23 on a record that fits the encoding, as laws. -/
theorem lawful_iff (ms : Vector MemberState 16) (w : WireRecord) (hw : w.wellFormed = true) :
    w.lawful ms = true ↔ RecordLoads ms w := by
  have hhead : w.code ≠ 3 → ((!(w.waits.take 1).any fun v => w.holding.compatible v.mode) = true ↔
      ∀ v ∈ w.waits.head?, (w.code = 1 ∨ w.code = 2) ∧ (w.code = 2 → v.mode = .exclusive)) := fun h3 => by
    cases hws : w.waits with
    | nil => simp
    | cons v vs =>
      rcases wireHolding_cases w hw h3 with ⟨hc, _, hh⟩ | ⟨k, hc, _, hh⟩ | ⟨hc, hh⟩ <;>
        cases hm : v.mode <;> simp [hh, hc, hm, Holding.compatible]
  have hact : (w.stations.all fun x => decide (ms[x] = .active)) = true ↔
      (∀ h ∈ w.holders, ms[h.station] = .active) ∧ ∀ v ∈ w.waits, ms[v.station] = .active := by
    simp [WireRecord.stations]
  have hone : (!repeats w.stations) = true ↔
      (w.holders.map (·.station) ++ w.waits.map (·.station)).Nodup := by
    rw [Bool.not_eq_true', repeats_iff]
    rfl
  unfold WireRecord.lawful RecordLoads
  by_cases h3 : w.code = 3
  · simp [h3]
  · have h2 : (!(w.code == 2 && w.holders.isEmpty)) = true ↔ (w.code = 2 → w.holders ≠ []) := by
      simp [imp_iff_not_or]
    rw [show (w.stations.all fun x => ms[x] == .active) = w.stations.all fun x => decide (ms[x] = .active) from rfl]
    simp only [Bool.and_eq_true, hhead h3, hone, hact, h2, classOrdered_iff, decide_eq_true_iff, bne_iff_ne, and_assoc]
    rfl

/-! ### A table record on the wire -/

@[simp] theorem toWire_waits (r : Record) : r.toWire.waits = r.waits.map (·.entry) := rfl
@[simp] theorem toWire_holders (r : Record) : r.toWire.holders = r.holding.holders := rfl
@[simp] theorem toWire_code (r : Record) : r.toWire.code = r.holding.code := rfl

/-- Sixteen stations leave at most fifteen to wait, as the head of a wait list has a holder before it (R6). -/
theorem waits_length_le {ms : Vector MemberState 16} {r : Record} (h : RecordLawful ms r) : r.waits.length ≤ 15 := by
  obtain ⟨hs, _, hn, hh, _⟩ := h
  have hlen : (stationsOf r).length ≤ 16 := by simpa using hn.length_le_card
  simp only [stationsOf, List.length_append, List.length_map] at hlen
  cases hw : r.waits with
  | nil => simp
  | cons w ws =>
    have hne := holders_of_incompatible r.holding hs w.entry.mode (hh w (by simp [hw]))
    have := List.length_pos_iff.mpr hne
    rw [hw] at hlen
    omega

theorem toWire_wellFormed {ms : Vector MemberState 16} {r : Record} (h : RecordLawful ms r) :
    r.toWire.wellFormed = true := by
  have hw := waits_length_le h
  obtain ⟨_, ha, _⟩ := h
  refine (wellFormed_iff _).mpr ⟨by simp; omega, ?_⟩
  cases hr : r.holding <;> simp_all [Holding.code, Holding.holders]

theorem holderBytes_length (w : WireRecord) : w.holderBytes.length ≤ 4 := by
  unfold WireRecord.holderBytes halfBytes
  (repeat' split) <;> simp

theorem toWire_bytes_length {ms : Vector MemberState 16} {r : Record} (h : RecordLawful ms r) :
    r.toWire.bytes.length ≤ 20 := by
  have hw := waits_length_le h
  have hb := holderBytes_length r.toWire
  simp only [WireRecord.bytes, List.length_cons, List.length_append, List.length_map, toWire_waits]
  omega

/-- The bytes of records on the wire, each of which has at most n. -/
theorem flatMap_bytes_length {n : Nat} {ws : List WireRecord} (h : ∀ w ∈ ws, w.bytes.length ≤ n) :
    (ws.flatMap WireRecord.bytes).length ≤ ws.length * n := by
  rw [List.length_flatMap]
  simpa using List.sum_le_card_nsmul (ws.map fun w => w.bytes.length) n (by simpa using h)

/-! ### The records of a load image (R23) -/

section
variable (n : Nat)

@[simp] theorem numberWaits_entries (ws : List WaitEntry) : (numberWaits n ws).map (·.entry) = ws := by
  induction ws generalizing n with
  | nil => rfl
  | cons w ws ih => simp [numberWaits, ih]

@[simp] theorem numberWaits_slots (ws : List WaitEntry) : (numberWaits n ws).map (·.slot) = List.range' n ws.length := by
  induction ws generalizing n with
  | nil => rfl
  | cons w ws ih => simp [numberWaits, ih, List.range'_succ]

@[simp] theorem rebuild_length (ws : List WireRecord) : (rebuild n ws).length = ws.length := by
  induction ws generalizing n with
  | nil => rfl
  | cons w ws ih => simp [rebuild, ih]

theorem waitTotal_cons (w : WireRecord) (ws : List WireRecord) : waitTotal (w :: ws) = w.waits.length + waitTotal ws := by
  simp [waitTotal]

theorem rebuild_slots (ws : List WireRecord) : (rebuild n ws).flatMap Record.slots = List.range' n (waitTotal ws) := by
  induction ws generalizing n with
  | nil => rfl
  | cons w ws ih =>
    simp only [rebuild, List.flatMap_cons, ih, waitTotal_cons, Record.slots, Record.recomputeYield, numberWaits_slots]
    exact List.range'_append_1

/-- The records rebuilt are those that were sent. -/
theorem rebuild_toWire {ws : List WireRecord} (hw : ∀ w ∈ ws, w.wellFormed = true ∧ w.code ≠ 3) :
    (rebuild n ws).map Record.toWire = ws := by
  induction ws generalizing n with
  | nil => rfl
  | cons w ws ih =>
    obtain ⟨hwf, h3⟩ := hw w (by simp)
    rw [rebuild, List.map_cons, ih _ fun v hv => hw v (by simp [hv])]
    congr 1
    rcases wireHolding_cases w hwf h3 with ⟨hc, hs, hh⟩ | ⟨k, hc, hs, hh⟩ | ⟨hc, hh⟩ <;>
      obtain ⟨code, holders, waits⟩ := w <;>
      simp_all [Record.toWire, Record.recomputeYield, Holding.code, Holding.holders]

theorem rebuild_yieldDemand (ws : List WireRecord) : ∀ r ∈ rebuild n ws, r.yieldDemand = r.demandedYield := by
  induction ws generalizing n with
  | nil => simp [rebuild]
  | cons w ws ih =>
    simp only [rebuild, List.mem_cons]
    rintro r (rfl | hr)
    · rfl
    · exact ih _ r hr

end

/-- A record whose wire form loads is lawful (R23). -/
theorem recordLawful_of_loads {ms : Vector MemberState 16} {r : Record} (h : RecordLoads ms r.toWire)
    (hw : r.toWire.wellFormed = true) (hy : r.yieldDemand = r.demandedYield) : RecordLawful ms r := by
  obtain ⟨_, h2, _, hn, ho, hh, hah, haw⟩ := h
  obtain ⟨_, _, hasc, _⟩ := (wellFormed_iff _).mp hw
  have hmap : r.waits.map (·.entry.station) = (r.waits.map (·.entry)).map (·.station) := by simp
  refine ⟨fun hs => ?_, ?_, ?_, fun w hwm => ?_, (classOrdered_iff _).mpr ho, hy, fun x hx => ?_⟩
  · exact h2 (by simp [hs, Holding.code]) (by simp [hs, Holding.holders])
  · cases hr : r.holding with
    | free => simp [Holding.holders]
    | exclusive k => simp [Holding.holders]
    | shared hs => simpa [hr, Holding.code, Holding.holders] using hasc
  · rw [stationsOf, hmap]
    exact hn
  · obtain ⟨hc, hm⟩ := hh w.entry (by simpa [List.head?_map] using ⟨w, hwm, rfl⟩)
    cases hr : r.holding with
    | free => simp [hr, Holding.code] at hc
    | exclusive k => cases w.entry.mode <;> rfl
    | shared hs =>
      have he : w.entry.mode = .exclusive := hm (by simp [hr, Holding.code])
      rw [he]
      rfl
  · rw [stationsOf, hmap, List.mem_append, List.mem_map, List.mem_map] at hx
    rcases hx with ⟨k, hk, rfl⟩ | ⟨v, hv, rfl⟩
    · exact hah k hk
    · exact haw v hv

/-! ### The load image become the replica (R23) -/

section
variable {i : LoadImage} (hlen : i.records.length = 64)
  (hw : ∀ w ∈ i.records, w.wellFormed = true ∧ w.lawful i.members = true)
include hlen

theorem complete_records : i.complete.records.toList = rebuild 0 i.records := by
  refine List.ext_getElem (by simp [hlen]) fun k hk hk' => ?_
  simp only [LoadImage.complete, Vector.getElem_toList, tableOf_getElem]
  rw [List.getD_eq_getElem?_getD, List.getElem?_eq_getElem hk', Option.getD_some]

theorem complete_slots : slotsOf i.complete = List.range (waitTotal i.records) := by
  rw [slotsOf, complete_records hlen, rebuild_slots, List.range_eq_range']

theorem complete_yieldDemand (r : Resource) : i.complete.records[r].yieldDemand = i.complete.records[r].demandedYield := by
  refine rebuild_yieldDemand 0 i.records _ ?_
  rw [← complete_records hlen]
  simp

include hw

theorem complete_toWire (r : Resource) : i.records[r.val]? = some i.complete.records[r].toWire := by
  have hwire : ∀ w ∈ i.records, w.wellFormed = true ∧ w.code ≠ 3 := fun w hm =>
    ⟨(hw w hm).1, ((lawful_iff _ _ (hw w hm).1).mp (hw w hm).2).1⟩
  have h : i.complete.records.toList.map Record.toWire = i.records := by
    rw [complete_records hlen, rebuild_toWire 0 hwire]
  rw [← h]
  simp

theorem complete_recordLawful (r : Resource) : RecordLawful i.members i.complete.records[r] := by
  have hm : i.complete.records[r].toWire ∈ i.records := List.mem_of_getElem? (complete_toWire hlen hw r)
  obtain ⟨hwf, hl⟩ := hw _ hm
  exact recordLawful_of_loads ((lawful_iff _ _ hwf).mp hl) hwf (complete_yieldDemand hlen r)

/-- The replica that a whole load image becomes is lawful. -/
theorem complete_lawful (htotal : waitTotal i.records ≤ Config.poolSize) : RecordsLawful i.complete := by
  refine ⟨complete_recordLawful hlen hw, ?_, fun n hn => ?_, fun k => ?_⟩
  · rw [complete_slots hlen]
    exact List.nodup_range
  · rw [complete_slots hlen, List.mem_range] at hn
    exact hn.trans_le htotal
  · rw [Bool.eq_iff_iff, List.contains_iff_mem, complete_slots hlen, List.mem_range]
    simp [LoadImage.complete]

end

/-! ### A part that goes on with a load image -/

/-- The load image with the records of its next part (R23). -/
abbrev LoadImage.extended (i : LoadImage) (recs : List WireRecord) : LoadImage :=
  { i with records := i.records ++ recs, nextPart := i.nextPart + 1, count := i.count + 1 }

/-- The condition under which a part goes on with a load image, for a part as the wire carries it (R23). -/
theorem partFollows_iff {i : LoadImage} {count : Half} {k : Fin 8} {recs : List WireRecord}
    (hw : ∀ w ∈ recs, w.wellFormed = true) :
    PartFollows i count k recs ↔
      i.nextPart = k.val + 1 ∧ i.count = count ∧ recs.all (WireRecord.lawful i.members) = true ∧
        waitTotal (i.records ++ recs) ≤ Config.poolSize := by
  have hl : recs.all (WireRecord.lawful i.members) = true ↔ ∀ w ∈ recs, RecordLoads i.members w := by
    rw [List.all_eq_true]
    exact forall₂_congr fun w hm => lawful_iff _ _ (hw w hm)
  rw [PartFollows, hl, eq_comm (a := count)]
  rfl

theorem loadPart_records {e : ReplicaEngine} {i : LoadImage} (hi : e.load = some i) (count : Half) (k : Fin 8)
    {recs : List WireRecord} (hw : ∀ w ∈ recs, w.wellFormed = true) (hf : PartFollows i count k recs) :
    e.loadPart count (.records k recs) =
      if k.val = 7 then ((i.extended recs).complete, .completed)
      else ({ e with load := some (i.extended recs) }, .loaded) := by
  simp only [ReplicaEngine.loadPart, hi]
  rw [if_pos ((partFollows_iff hw).mp hf)]

theorem loadPart_broken {e : ReplicaEngine} (count : Half) (k : Fin 8) {recs : List WireRecord}
    (hw : ∀ w ∈ recs, w.wellFormed = true) (hf : ∀ i ∈ e.load, ¬ PartFollows i count k recs) :
    e.loadPart count (.records k recs) = ({ e with load := none }, .broken) := by
  unfold ReplicaEngine.loadPart
  dsimp only
  split
  · rfl
  next i hi => rw [if_neg fun hk => hf i hi ((partFollows_iff hw).mpr hk)]

end Sys2Proof.Machine
end

section
/-! PROOF. The frames that a station holds are ones that the wire can carry: those that decoding gives, and those that an
attempt encodes from a lawful table (R98 to R100, R104). -/

namespace Sys2Proof.Machine

open Sys2Proof.Safety

/-! ### What decoding gives -/

theorem takeWaits_length {n : Nat} {bs rest : List Byte} {ws : List WaitEntry} (h : takeWaits n bs = some (ws, rest)) :
    ws.length = n ∧ n + rest.length = bs.length := by
  unfold takeWaits at h
  split at h
  · exact nomatch h
  next hlt =>
    obtain ⟨rfl, rfl⟩ := by simpa using h
    simp only [List.length_map, List.length_take, List.length_drop]
    omega

/-- The holders that two station sets carry are in ascending order (R100). -/
theorem holdersOfSets_ascending (a b : Half) : Ascending ((holdersOfSets a b).map (·.station)) := by
  have h : (allStations.filter fun i => a.getLsbD i.val).Pairwise (· < ·) :=
    (List.pairwise_lt_finRange 16).sublist List.filter_sublist
  simpa [holdersOfSets, Function.comp_def] using h

/-- A record taken from the front of the bytes fits the encoding, and uses up the bytes that it has. -/
theorem takeRecord_spec {bs rest : List Byte} {w : WireRecord} (h : takeRecord bs = some (w, rest)) :
    w.wellFormed = true ∧ w.bytes.length + rest.length = bs.length := by
  cases bs with
  | nil => exact nomatch h
  | cons b bs =>
    have hafter {code : BitVec 2} {holders : List Holder} {tail : List Byte}
        (hk : (takeWaits (b.toNat % 64) tail).map (fun p =>
          (({ code := code, holders := holders, waits := p.1 } : WireRecord), p.2)) = some (w, rest)) :
        w.code = code ∧ w.holders = holders ∧ w.waits.length < 64 ∧ w.waits.length + rest.length = tail.length := by
      obtain ⟨⟨ws, r⟩, hw, he⟩ := Option.map_eq_some_iff.mp hk
      obtain ⟨hn, hl⟩ := takeWaits_length hw
      obtain ⟨rfl, rfl⟩ := by simpa using he
      exact ⟨rfl, rfl, by simp only; omega, by simp only; omega⟩
    unfold takeRecord at h
    dsimp only at h
    split at h
    next hc =>
      split at h
      · obtain ⟨h1, h2, h3, h4⟩ := hafter h
        refine ⟨(wellFormed_iff w).mpr ⟨h3, by simp [h2], by simp [h1, hc], by simp [h1, hc]⟩, ?_⟩
        simp [WireRecord.bytes, WireRecord.holderBytes, h1, h2, hc]
        omega
      · exact nomatch h
    next hc1 =>
      split at h
      next hc =>
        split at h
        · obtain ⟨h1, h2, h3, h4⟩ := hafter h
          refine ⟨(wellFormed_iff w).mpr ⟨h3, by simp [h1, hc], fun _ => ?_, by simp [h1, hc]⟩, ?_⟩
          · rw [h2]
            exact holdersOfSets_ascending _ _
          · simp [WireRecord.bytes, WireRecord.holderBytes, halfBytes, h1, hc]
            omega
        · exact nomatch h
      next hc2 =>
        obtain ⟨h1, h2, h3, h4⟩ := hafter h
        refine ⟨(wellFormed_iff w).mpr ⟨h3, fun k => absurd (h1 ▸ k) hc1, fun k => absurd (h1 ▸ k) hc2, fun _ _ => h2⟩, ?_⟩
        simp only [WireRecord.bytes, WireRecord.holderBytes, h1, hc1, hc2, if_false]
        simp
        omega

theorem takeRecords_spec {n : Nat} {bs rest : List Byte} {ws : List WireRecord} (h : takeRecords n bs = some (ws, rest)) :
    ws.length = n ∧ (∀ w ∈ ws, w.wellFormed = true) ∧ (ws.flatMap WireRecord.bytes).length + rest.length = bs.length := by
  induction n generalizing bs ws with
  | zero =>
    obtain ⟨rfl, rfl⟩ := by simpa [takeRecords] using h
    simp
  | succ n ih =>
    unfold takeRecords at h
    split at h
    · exact nomatch h
    next w tail hw =>
      split at h
      · exact nomatch h
      next vs _ hv =>
        obtain ⟨rfl, rfl⟩ := by simpa using h
        obtain ⟨hwf, hl⟩ := takeRecord_spec hw
        obtain ⟨hn, hall, hvl⟩ := ih hv
        refine ⟨by simp [hn], by simpa [hwf] using hall, ?_⟩
        simp only [List.flatMap_cons, List.length_append]
        omega

/-- The part that a payload carries has the payload's length, and eight records that fit where it carries records. -/
theorem partOf_spec {bs : List Byte} {p : Part} (h : partOf bs = some p) :
    p.payload.length = bs.length ∧
      ∀ k recs, p = .records k recs → recs.length = 8 ∧ ∀ w ∈ recs, w.wellFormed = true := by
  unfold partOf at h
  split at h
  · exact nomatch h
  · split at h
    · split at h
      · obtain rfl := by simpa using h
        simp [Part.payload, memberBytes]
      · exact nomatch h
    · split at h
      · split at h
        next recs hr =>
          obtain rfl := by simpa using h
          obtain ⟨hn, hall, hl⟩ := takeRecords_spec hr
          refine ⟨by simpa [Part.payload] using hl, ?_⟩
          rintro k recs' ⟨⟩
          exact ⟨hn, hall⟩
        · exact nomatch h
      · exact nomatch h

section
variable (r t why : Byte)

theorem bodyOf_claim (bits : Byte) :
    bodyOf 1 [r, bits] =
      if h : r.toNat < 64 then
        some (.claim ⟨r.toNat, h⟩ (if bits.getLsbD 0 then .exclusive else .shared)
          (if bits.getLsbD 1 then .urgent else .ordinary) (bits.getLsbD 2))
      else none := rfl

theorem bodyOf_expel :
    bodyOf 4 [t, why] =
      if h : t.toNat < 16 then
        if why = 1 then some (.expel ⟨t.toNat, h⟩ .silent)
        else if why = 2 then some (.expel ⟨t.toNat, h⟩ .disagree)
        else none
      else none := rfl

end

/-- The body of a payload has the payload's length (R99, R104), and a snapshot part is the one it carries. -/
theorem bodyOf_spec {kind : Nat} {payload : List Byte} {b : Body} (h : bodyOf kind payload = some b) :
    b.payload.length = payload.length ∧ ∀ p, b = .snapshot p → partOf payload = some p := by
  have hnone {P : Prop} (k : none = some b) : P := by cases k
  match kind, payload with
  | 0, _ => exact hnone h
  | 1, [] | 1, [_] | 1, _ :: _ :: _ :: _ => exact hnone h
  | 1, [r, bits] =>
    rw [bodyOf_claim] at h
    split at h <;> cases h
    exact ⟨rfl, nofun⟩
  | 2, [] | 2, _ :: _ :: _ => exact hnone h
  | 2, [r] =>
    cases h
    exact ⟨rfl, nofun⟩
  | 3, [] | 3, [_] | 3, [_, _] | 3, _ :: _ :: _ :: _ :: _ => exact hnone h
  | 3, [synced, hi, lo] =>
    cases h
    exact ⟨rfl, nofun⟩
  | 4, [] | 4, [_] | 4, _ :: _ :: _ :: _ => exact hnone h
  | 4, [t, why] =>
    rw [bodyOf_expel] at h
    (repeat' split at h) <;> cases h <;> exact ⟨rfl, nofun⟩
  | 5, [] =>
    cases h
    exact ⟨rfl, nofun⟩
  | 6, [] =>
    cases h
    exact ⟨rfl, nofun⟩
  | 5, _ :: _ | 6, _ :: _ => exact hnone h
  | 7, payload =>
    obtain ⟨p, hp, rfl⟩ := Option.map_eq_some_iff.mp h
    refine ⟨(partOf_spec hp).1, ?_⟩
    rintro q ⟨⟩
    exact hp
  | _ + 8, _ => exact hnone h

/-- A frame fits the wire where its payload fits its length byte and its records, if any, are eight that fit. -/
theorem frame_wellFormed {f : Frame} (hl : f.body.payload.length < 256)
    (hr : ∀ k recs, f.body = .snapshot (.records k recs) → recs.length = 8 ∧ ∀ w ∈ recs, w.wellFormed = true) :
    f.wellFormed = true := by
  unfold Frame.wellFormed
  rw [Bool.and_eq_true]
  refine ⟨by simpa using hl, ?_⟩
  split
  next k recs hb =>
    obtain ⟨hn, hall⟩ := hr k recs hb
    simpa [hn] using hall
  all_goals rfl

/-- The records of a part that fits the wire. -/
theorem records_of_wellFormed {f : Frame} (hf : f.wellFormed = true) {k : Fin 8} {recs : List WireRecord}
    (hb : f.body = .snapshot (.records k recs)) : recs.length = 8 ∧ ∀ w ∈ recs, w.wellFormed = true := by
  unfold Frame.wellFormed at hf
  rw [hb, Bool.and_eq_true] at hf
  simpa using hf.2

/-- What the receiver finds whole fits the wire. -/
theorem decodeFrame_wellFormed {bytes : List Byte} {f : Frame} (h : decodeFrame bytes = some f) : f.wellFormed = true := by
  unfold decodeFrame at h
  split at h
  next b0 flags c1 c0 len rest =>
    split at h
    · exact nomatch h
    next hlen =>
      dsimp only at h
      split at h
      · exact nomatch h
      · obtain ⟨body, hbody, rfl⟩ := Option.map_eq_some_iff.mp h
        obtain ⟨hl, hpart⟩ := bodyOf_spec hbody
        refine frame_wellFormed ?_ fun k recs hb => ?_
        · have := len.isLt
          simp only [List.length_take] at hl
          simp only
          omega
        · obtain rfl : body = .snapshot (.records k recs) := hb
          exact (partOf_spec (hpart _ rfl)).2 k recs rfl
  · exact nomatch h

/-! ### What an attempt encodes -/

/-- A part of a lawful table fits the wire (R22). -/
theorem part_payload_length {e : ReplicaEngine} (h : ∀ r : Resource, RecordLawful e.members e.records[r]) (k : Fin 9) :
    (e.part k).payload.length < 256 := by
  unfold ReplicaEngine.part
  split
  · simp [Part.payload, memberBytes]
  · have hb : ∀ w ∈ ((e.records.toList.drop (8 * (k.val - 1))).take 8).map Record.toWire, w.bytes.length ≤ 20 := by
      intro w hw
      obtain ⟨r, hr, rfl⟩ := List.mem_map.mp hw
      have hr := List.mem_of_mem_drop (List.mem_of_mem_take hr)
      rw [toList_eq_map, List.mem_map] at hr
      obtain ⟨i, _, rfl⟩ := hr
      exact toWire_bytes_length (h i)
    have := flatMap_bytes_length hb
    simp only [Part.payload, List.length_cons, List.length_map, List.length_take] at this ⊢
    omega

theorem frameOf_wellFormed {s : State} (h : ∀ r : Resource, RecordLawful s.re.members s.re.records[r]) (what : Sent) :
    (s.frameOf what).wellFormed = true := by
  cases what with
  | entry i =>
    refine frame_wellFormed ?_ ?_ <;> cases i <;>
      simp [State.frameOf, State.bodyOfSent, State.bodyOfItem, Body.payload, halfBytes]
  | part k =>
    refine frame_wellFormed ?_ fun j recs hb => ?_
    · exact part_payload_length h k
    · simp only [State.frameOf, State.bodyOfSent, Body.snapshot.injEq, ReplicaEngine.part] at hb
      split at hb
      · exact nomatch hb
      next hk =>
        obtain ⟨_, rfl⟩ := by simpa using hb
        refine ⟨by simp; omega, fun w hw => ?_⟩
        obtain ⟨r, hr, rfl⟩ := List.mem_map.mp (List.mem_of_mem_drop (List.mem_of_mem_take hw))
        rw [toList_eq_map, List.mem_map] at hr
        obtain ⟨i, _, rfl⟩ := hr
        exact toWire_wellFormed (h i)

end Sys2Proof.Machine
end

section
/-! PROOF. Every operation that a command starts with keeps the laws of the claim table, of a load in progress and of the
frames held (O57, laws L1 to L7). -/

namespace Sys2Proof.Machine

open Sys2Proof.Safety

/-! ### Tables with their laws -/

theorem tableLawful_of_valid {e : ReplicaEngine} (h : RecordsLawful e) (hv : e.valid = true)
    (hl : ∀ i ∈ e.load, ImageLawful i) : TableLawful e :=
  ⟨h.records, h.pool, fun k => absurd (hv.symm.trans k) (by decide), hl⟩

theorem tableLawful_withLoad {e : ReplicaEngine} (h : TableLawful e) (l : Option LoadImage) (hl : ∀ i ∈ l, ImageLawful i) :
    TableLawful { e with load := l } :=
  ⟨h.1, h.2.1, h.2.2.1, hl⟩

theorem tableLawful_discardLoad {e : ReplicaEngine} (h : TableLawful e) : TableLawful e.discardLoad :=
  tableLawful_withLoad h none nofun

theorem recordLawful_empty (ms : Vector MemberState 16) : RecordLawful ms Record.empty := by
  simp [Record.empty, RecordLawful, stationsOf, Holding.holders, classOrdered, Record.demandedYield]

/-- A table of empty records with a pool of free entries is lawful, whatever its members. -/
theorem recordsLawful_empty (e : ReplicaEngine) (hr : e.records = ReplicaEngine.empty.records)
    (hp : e.pool = ReplicaEngine.empty.pool) : RecordsLawful e := by
  have hrec (r : Resource) : e.records[r] = Record.empty := by simp [hr, ReplicaEngine.empty]
  have hslots : slotsOf e = [] := List.eq_nil_iff_forall_not_mem.mpr fun n hn => by
    obtain ⟨r, hr⟩ := (mem_slotsOf e n).mp hn
    rw [hrec] at hr
    exact nomatch hr
  refine ⟨fun r => hrec r ▸ recordLawful_empty e.members, by simp [hslots], by simp [hslots], fun i => ?_⟩
  simp [hslots, hp, ReplicaEngine.empty]

theorem tableLawful_empty : TableLawful ReplicaEngine.empty :=
  have h := recordsLawful_empty ReplicaEngine.empty rfl rfl
  ⟨h.records, h.pool, fun _ => ⟨rfl, rfl, rfl, rfl⟩, nofun⟩

theorem tableLawful_founded (me : Station) : TableLawful (ReplicaEngine.founded me) :=
  tableLawful_of_valid (recordsLawful_empty _ rfl rfl) rfl nofun

/-- The effects of a frame with the count advanced keep the laws of a valid table. -/
theorem tableLawful_effects {e : ReplicaEngine} (h : TableLawful e) (hv : e.valid = true) (f : Frame) :
    TableLawful (effectsOf e f).replica.advance := by
  obtain ⟨_, hv', hl'⟩ := effectsOf_keeps e f
  have hr := (RecordsLawful.of_table h).effectsOf f
  exact tableLawful_of_valid ⟨hr.records, hr.pool⟩ (hv'.trans hv) (hl' ▸ h.2.2.2)

/-- A part handed for loading keeps the laws of the table and of the load image (R23). -/
theorem tableLawful_loadPart {e : ReplicaEngine} (h : TableLawful e) (count : Half) {p : Part}
    (hp : ∀ k recs, p = .records k recs → recs.length = 8 ∧ ∀ w ∈ recs, w.wellFormed = true) :
    TableLawful (e.loadPart count p).1 := by
  have hbroken : TableLawful ({ e with load := none } : ReplicaEngine) := tableLawful_withLoad h none nofun
  cases p with
  | members ms =>
    refine tableLawful_withLoad h _ ?_
    rintro i ⟨⟩
    simp [ImageLawful, waitTotal]
  | records k recs =>
    obtain ⟨hlen, hwf⟩ := hp k recs rfl
    by_cases hf : ∃ i ∈ e.load, PartFollows i count k recs
    · obtain ⟨i, hi, hf⟩ := hf
      obtain ⟨_, h8, hn, hw, _⟩ := h.2.2.2 i hi
      obtain ⟨hk, _, hall, htotal⟩ := (partFollows_iff hwf).mp hf
      have hlen' : (i.records ++ recs).length = 8 * i.nextPart := by
        rw [List.length_append, hn, hlen]
        omega
      have hwell : ∀ w ∈ i.records ++ recs, w.wellFormed = true ∧ w.lawful i.members = true := fun w hm =>
        (List.mem_append.mp hm).elim (hw w) fun hm => ⟨hwf w hm, List.all_eq_true.mp hall w hm⟩
      rw [loadPart_records hi count k hwf hf]
      split
      next h7 =>
        refine tableLawful_of_valid (complete_lawful ?_ hwell htotal) rfl nofun
        rw [hlen', hk, h7]
      next h7 =>
        refine tableLawful_withLoad h _ ?_
        rintro j ⟨⟩
        exact ⟨by simp, by simp only; omega, by simp only [hlen']; omega, hwell, htotal⟩
    · rw [loadPart_broken count k hwf fun i hi hk => hf ⟨i, hi, hk⟩]
      exact hbroken

/-! ### The table and the frames of a state -/

/-- The laws of the claim table and of the frames held, which a step must keep. -/
structure TableSafe (s : State) : Prop where
  table : TableLawful s.re
  frames : FramesLawful s.xi

variable {s t : State}

theorem TableSafe.of_kept (h : TableSafe s) (hre : t.re = s.re) (hxi : t.xi = s.xi) : TableSafe t :=
  ⟨hre ▸ h.table, hxi ▸ h.frames⟩

section
variable (h : TableSafe s)
include h

theorem TableSafe.withSc (b : StationController) : TableSafe (s.withSc b) := ⟨h.table, h.frames⟩
theorem TableSafe.withTc (b : TenureController) : TableSafe (s.withTc b) := ⟨h.table, h.frames⟩
theorem TableSafe.withTq (b : TransmitQueue) : TableSafe (s.withTq b) := ⟨h.table, h.frames⟩
theorem TableSafe.withBu (b : BindingUnit) : TableSafe (s.withBu b) := ⟨h.table, h.frames⟩
theorem TableSafe.withCl (b : ConfigLoader) : TableSafe (s.withCl b) := ⟨h.table, h.frames⟩
theorem TableSafe.withMp (b : ManagementPort) : TableSafe (s.withMp b) := ⟨h.table, h.frames⟩
theorem TableSafe.withLines (l : Lines) : TableSafe (s.withLines l) := ⟨h.table, h.frames⟩
theorem TableSafe.withSilence (v : Vector Silence 16) : TableSafe (s.withSilence v) := ⟨h.table, h.frames⟩
theorem TableSafe.withXi {x : ExchangeInterface} (hx : FramesLawful x) : TableSafe (s.withXi x) := ⟨h.table, hx⟩
theorem TableSafe.withRe {e : ReplicaEngine} (he : TableLawful e) : TableSafe (s.withRe e) := ⟨he, h.frames⟩

end

theorem frames_entryDiscarded {x : ExchangeInterface} (h : FramesLawful x) : FramesLawful x.entryDiscarded := by
  refine ⟨h.1, fun a ha => ?_⟩
  obtain ⟨b, hb, rfl⟩ := Option.map_eq_some_iff.mp ha
  exact h.2 b hb

theorem frames_cutAttempt {x : ExchangeInterface} (h : FramesLawful x) : FramesLawful x.cutAttempt := by
  unfold ExchangeInterface.cutAttempt
  split
  · exact h
  next a ha =>
    split
    · exact ⟨h.1, nofun⟩
    · refine ⟨h.1, ?_⟩
      rintro b ⟨⟩
      exact h.2 a ha

theorem frames_forState {x : ExchangeInterface} (h : FramesLawful x) (st : StationState) :
    FramesLawful (x.forState st) := by
  unfold ExchangeInterface.forState
  split
  · exact h
  · exact ⟨nofun, h.2⟩

theorem frames_discardTo (h : FramesLawful s.xi) (q : TransmitQueue) : FramesLawful (discardTo q s).xi := by
  unfold discardTo
  dsimp only
  split
  · exact frames_entryDiscarded h
  · exact h

theorem frames_beginAttempt (h : TableSafe s) (what : Sent) : FramesLawful (beginAttempt what s).xi := by
  refine ⟨?_, ?_⟩
  · unfold beginAttempt
    simp only [State.withXi_xi]
    split
    · exact nofun
    · exact h.frames.1
  · rintro a ⟨⟩
    exact frameOf_wellFormed h.table.1 what

theorem askNext_table (h : TableSafe s) : TableSafe (askNext s) := by
  refine ⟨by simpa using h.table, ?_⟩
  unfold askNext
  dsimp only
  split
  · exact h.frames
  · refine frames_beginAttempt ⟨?_, ?_⟩ _
    · split <;> simpa using h.table
    · split <;> simpa using h.frames

theorem noteWork_table (h : TableSafe s) : TableSafe (noteWork s) := h.of_kept (by simp) (by simp)

theorem withTenure_table (h : TableSafe s) (t : TenureState) : TableSafe (s.withTenure t) :=
  h.of_kept (by simp) (by simp)

theorem holdingDecision_table (h : TableSafe s) (r : Bool) : TableSafe (holdingDecision r s) := by
  unfold holdingDecision
  dsimp only
  split
  · exact askNext_table (noteWork_table h)
  · exact withTenure_table (noteWork_table h) _
  · exact (noteWork_table h).of_kept (by simp) (by simp)

theorem attemptReport_table (h : TableSafe s) (r : Bool) : TableSafe (attemptReport r s) := by
  unfold attemptReport
  split
  · exact holdingDecision_table (h.withTc _) r
  all_goals exact h

theorem contenderCloses_table (h : TableSafe s) (won : Bool) : TableSafe (contenderCloses won s) := by
  unfold contenderCloses
  dsimp only
  (repeat' split)
  · exact askNext_table ((h.withTc _).withTc _)
  · exact holdingDecision_table ((h.withTc _).withTc _) false
  · exact withTenure_table (h.withTc _) _
  · exact withTenure_table (h.withTc _) _

theorem contentionCloses_table (h : TableSafe s) (o : Option Station) : TableSafe (contentionCloses o s) := by
  unfold contentionCloses
  split
  · split
    · exact contenderCloses_table (h.withLines _) _
    all_goals
      dsimp only
      split
      · exact h.of_kept rfl rfl
      · exact h.of_kept (by simp) (by simp)
  all_goals exact h.of_kept rfl rfl

theorem tellWork_table (h : TableSafe s) : TableSafe (tellWork s) := by
  unfold tellWork
  dsimp only
  split
  · exact (noteWork_table h).of_kept (by simp) (by simp)
  · exact withTenure_table (noteWork_table h) _
  · exact noteWork_table (askNext_table (withTenure_table (noteWork_table h) _))
  · exact noteWork_table h

theorem settle_table (h : TableSafe s) : TableSafe (settle s) := (tellWork_table h).of_kept rfl rfl

/-! ### The station controller -/

theorem frames_placeOffline (h : FramesLawful s.xi) : FramesLawful (placeOffline s).xi := by
  unfold placeOffline
  split
  · exact h
  · exact frames_cutAttempt h

theorem enterState_table (h : TableSafe s) (st : StationState) (c : Cause) : TableSafe (enterState st c s) := by
  refine ⟨by simpa using tableLawful_discardLoad h.table, ?_⟩
  unfold enterState
  dsimp only
  simp only [postNotice_keeps, State.withSc_xi, State.withXi_xi]
  have hd : FramesLawful (s.withRe s.re.discardLoad).xi := h.frames
  have hq : FramesLawful
      (if st.queueEmptied then emptyQueue (s.withRe s.re.discardLoad) else s.withRe s.re.discardLoad).xi := by
    split
    · exact frames_discardTo hd _
    · exact hd
  refine frames_forState ?_ st
  split
  · simpa using hq
  · exact frames_placeOffline hq

theorem teardown_table (h : TableSafe s) (why : LossReason) : TableSafe (teardown why s) := by
  refine ⟨by simpa using tableLawful_empty, ?_⟩
  have hf : FramesLawful (purgeQueue (wholesaleLoss why s)).xi := frames_discardTo (by simpa using h.frames) _
  simpa [teardown] using hf

theorem teardownIf_table (h : TableSafe s) (why : LossReason) : TableSafe (teardownIfInTable why s) := by
  unfold teardownIfInTable
  split
  · exact teardown_table h why
  · exact h

theorem isolate_table (h : TableSafe s) (c : Cause) : TableSafe (isolate c s) := by
  unfold isolate
  split
  · exact enterState_table ((teardownIf_table h _).withSc _) _ _
  · exact h

theorem enterFault_table (h : TableSafe s) (r : FaultReason) (c : Cause) : TableSafe (enterFault r c s) :=
  enterState_table (h.withSc _) _ _

theorem twinReport_table (h : TableSafe s) : TableSafe (twinReport s) := by
  unfold twinReport
  split
  · exact enterFault_table (teardownIf_table h _) _ _
  · exact h

theorem selfExpelled_table (h : TableSafe s) (why : ExpelReason) : TableSafe (selfExpelled why s) := by
  unfold selfExpelled
  split
  · exact enterState_table (teardown_table h _) _ _
  · exact h

theorem foreignReport_table (h : TableSafe s) : TableSafe (foreignReport s) := by
  unfold foreignReport
  split
  · exact enterState_table (teardown_table h _) _ _
  · exact h

theorem joinAgain_table (h : TableSafe s) (c : Cause) : TableSafe (joinAgain c s) :=
  enterState_table (h.withTq _) _ _

theorem deadlineTakesEffect_table (h : TableSafe s) : TableSafe (deadlineTakesEffect s) := by
  unfold deadlineTakesEffect
  split
  · exact joinAgain_table h _
  · exact enterState_table h _ _

theorem loadEnded_table (h : TableSafe s) : TableSafe (loadEnded s) := by
  unfold loadEnded
  split
  · exact deadlineTakesEffect_table h
  all_goals exact h

theorem completedLoad_table (h : TableSafe s) : TableSafe (completedLoad s) := by
  have he := enterState_table h .confirming .snapshotLoaded
  unfold completedLoad
  dsimp only
  split
  · exact (he.withSilence _).withTq _
  all_goals exact joinAgain_table (teardown_table (he.withSilence _) _) _

theorem takePart_table (h : TableSafe s) (count : Half) {p : Part}
    (hp : ∀ k recs, p = .records k recs → recs.length = 8 ∧ ∀ w ∈ recs, w.wellFormed = true) :
    TableSafe (takePart count p s) := by
  have hl : TableSafe (s.withRe (s.re.loadPart count p).1) := ⟨tableLawful_loadPart h.table count hp, h.frames⟩
  unfold takePart
  dsimp only
  split
  · exact hl
  · exact completedLoad_table hl
  · exact loadEnded_table hl

theorem frameWhileAwaiting_table (h : TableSafe s) {f : Frame} (hf : f.wellFormed = true) :
    TableSafe (frameWhileAwaiting f s) := by
  unfold frameWhileAwaiting
  split
  next p hb => exact takePart_table h _ fun k recs hp => records_of_wellFormed hf (hp ▸ hb)
  all_goals
    unfold frameOutsideRun
    split
    · exact loadEnded_table ⟨tableLawful_discardLoad h.table, h.frames⟩
    · exact h

/-! ### The application of a frame -/

theorem takeUpClaims_table (h : TableSafe s) : TableSafe (takeUpClaims s) := h.of_kept (by simp) (by simp)

theorem askSilentExpels_table (h : TableSafe s) (ts : List Station) : TableSafe (askSilentExpels ts s) :=
  h.of_kept (by simp) (by simp)

theorem confirmedReport_table (h : TableSafe s) : TableSafe (confirmedReport s) := by
  unfold confirmedReport
  split
  · exact takeUpClaims_table (askSilentExpels_table (enterState_table h _ _) _)
  all_goals exact h

theorem membershipReports_table (h : TableSafe s) (me : Station) (before : ReplicaEngine) (x : Effects) :
    TableSafe (membershipReports me before x s) := by
  unfold membershipReports
  dsimp only
  have hm : TableSafe
      (match x.member with
      | none => s
      | some (y, m) =>
        if y ≠ me then memberReport y m s
        else if before.members[me] = .joining ∧ m = .active then confirmedReport s
        else s) := by
    (repeat' split)
    · exact h
    · exact h.of_kept (by simp) (by simp)
    · exact confirmedReport_table h
    · exact h
  split
  · exact hm
  · split
    · exact selfExpelled_table hm _
    · exact hm

theorem applyFrame_table (h : TableSafe s) (own : Bool) (f : Frame) : TableSafe (applyFrame own f s) := by
  unfold applyFrame
  split
  next hv =>
    split
    · split
      · exact foreignReport_table h
      · refine ⟨?_, by simpa using h.frames⟩
        obtain ⟨h1, h2, _, h4⟩ := h.table
        simpa using tableLawful_of_valid (e := s.re.advance) ⟨h1, h2⟩ hv h4
    · rw [applyFully_eq]
      exact membershipReports_table ⟨by simpa using tableLawful_effects h.table hv f, by simpa using h.frames⟩ _ _ _
  · exact h

theorem otherFrameAccepted_table (h : TableSafe s) {f : Frame} (hf : f.wellFormed = true) :
    TableSafe (otherFrameAccepted f s) := by
  have hh : TableSafe (silenceHeard f.sender s) := h.of_kept (by simp) (by simp)
  unfold otherFrameAccepted
  dsimp only
  split
  · exact hh.withSc _
  · exact hh.withSc _
  · exact frameWhileAwaiting_table hh hf
  all_goals exact hh

theorem found_table (h : TableSafe s) : TableSafe (found s) := by
  have hf : TableSafe (s.withRe (ReplicaEngine.founded s.me)) := ⟨tableLawful_founded s.me, h.frames⟩
  rw [found_eq]
  exact takeUpClaims_table ((enterState_table hf _ _).withSilence _)

theorem ownJoinAccepted_table (h : TableSafe s) : TableSafe (ownJoinAccepted s) := by
  unfold ownJoinAccepted
  split
  · split
    · exact enterState_table h _ _
    · exact found_table h
  all_goals exact h

theorem leaveEnds_table (h : TableSafe s) (c : Cause) : TableSafe (leaveEnds c s) := by
  unfold leaveEnds
  split
  · exact enterState_table h _ _
  all_goals exact h

theorem ownFrameAccepted_table (h : TableSafe s) {f : Frame} (hf : f.wellFormed = true) :
    TableSafe (ownFrameAccepted f s) := by
  unfold ownFrameAccepted
  dsimp only
  have hm : TableSafe (s.withSc { s.sc with satisfied := s.sc.satisfied || s.sc.presenceTimer }) := h.of_kept rfl rfl
  have ha : TableSafe
      (if s.sc.state == .awaitSnapshot then
        frameWhileAwaiting f (s.withSc { s.sc with satisfied := s.sc.satisfied || s.sc.presenceTimer })
      else s.withSc { s.sc with satisfied := s.sc.satisfied || s.sc.presenceTimer }) := by
    split
    · exact frameWhileAwaiting_table hm hf
    · exact hm
  split
  · exact ownJoinAccepted_table ha
  · exact leaveEnds_table ha _
  · exact ha.of_kept (by simp) (by simp)
  all_goals exact ha

/-! ### The exchange interface -/

theorem withRx_table (h : TableSafe s) {x : Rx} (hx : ∀ f ∈ x.frame?, f.wellFormed = true) (n : Nat) :
    TableSafe (s.withXi { s.xi with rx := x, rejectStreak := n }) :=
  ⟨h.table, hx, h.frames.2⟩

theorem startMark_table (h : TableSafe s) : TableSafe (startMark s) := by
  unfold startMark
  split
  · exact withRx_table h (x := .taking) nofun s.xi.rejectStreak
  · exact h

theorem signalReject_table (h : TableSafe s) : TableSafe (signalReject s) := by
  have hc : TableSafe (countUp .rejectsSignalled (s.withXi { s.xi with rx := .damaged })) :=
    (withRx_table h (x := .damaged) nofun s.xi.rejectStreak).of_kept (by simp) (by simp)
  unfold signalReject
  dsimp only
  split
  · exact hc.withXi ⟨hc.frames.1, hc.frames.2⟩
  · refine isolate_table (hc.withXi ?_) _
    exact hc.frames

theorem closingMark_table (h : TableSafe s) (bytes : List Byte) : TableSafe (closingMark bytes s) := by
  unfold closingMark
  split
  · split
    next f hf =>
      refine withRx_table h (x := .whole f) ?_ s.xi.rejectStreak
      rintro g ⟨⟩
      exact decodeFrame_wellFormed hf
    · exact signalReject_table h
  all_goals exact h

theorem truncation_table (h : TableSafe s) : TableSafe (truncation s) := by
  unfold truncation
  split
  · exact withRx_table h (x := .none) nofun s.xi.rejectStreak
  all_goals exact h

theorem windowCloses_table (h : TableSafe s) (rejected : Bool) : TableSafe (windowCloses rejected s) := by
  unfold windowCloses
  split
  next f hx =>
    have hf : f.wellFormed = true := h.frames.1 f (by simp [hx, Rx.frame?])
    have hh : TableSafe (heardReport f (s.withXi { s.xi with rx := .none, rejectStreak := 0 })) :=
      (withRx_table h (x := .none) nofun 0).of_kept (by simp) (by simp)
    unfold wholeWindow handOver
    dsimp only
    (repeat' split)
    · exact hh
    · exact twinReport_table hh
    · exact otherFrameAccepted_table (applyFrame_table hh false f) hf
  · exact withRx_table h (x := .none) nofun s.xi.rejectStreak
  all_goals exact h

theorem closingMarkSent_table (h : TableSafe s) : TableSafe (closingMarkSent s) := by
  refine ⟨h.table, h.frames.1, fun a ha => ?_⟩
  obtain ⟨b, hb, rfl⟩ := Option.map_eq_some_iff.mp ha
  have := h.frames.2 b hb
  split <;> exact this

theorem ownAccepted_table (h : TableSafe s) {a : Attempt} (hf : a.frame.wellFormed = true) :
    TableSafe (ownAccepted a s) := by
  have hq : TableSafe (if a.discarded then s else runEnded (s.withTq (s.tq.accepted a.sent))) := by
    split
    · exact h
    · exact h.of_kept (by simp) (by simp)
  have ho := ownFrameAccepted_table (applyFrame_table hq true a.frame) hf
  exact attemptReport_table ⟨by simpa using ho.table, by simpa using ho.frames⟩ false

theorem reportDropped_table (h : TableSafe s) (what : Sent) : TableSafe (reportDropped what s) := by
  unfold reportDropped
  split
  · exact h.of_kept (by simp) (by simp)
  · exact h.of_kept (by simp) (by simp)
  · exact h
  · exact h
  · exact leaveEnds_table h _
  all_goals exact h

theorem advanceDropStreak_table (h : TableSafe s) : TableSafe (advanceDropStreak s) := by
  unfold advanceDropStreak
  split
  · exact h.withXi ⟨h.frames.1, h.frames.2⟩
  · refine isolate_table (h.withXi ?_) _
    exact h.frames

theorem ownDropped_table (h : TableSafe s) (a : Attempt) : TableSafe (ownDropped a s) := by
  have hr : TableSafe (reportDropped a.sent (runEnded (s.withTq (s.tq.dropped a.sent)))) :=
    reportDropped_table (h.of_kept (by simp) (by simp)) _
  exact attemptReport_table (advanceDropStreak_table (hr.of_kept (by simp) (by simp))) _

theorem ownWindowCloses_table (h : TableSafe s) (rejected : Bool) : TableSafe (ownWindowCloses rejected s) := by
  have hx : TableSafe (s.withXi { s.xi with attempt := none }) := ⟨h.table, h.frames.1, nofun⟩
  unfold ownWindowCloses
  dsimp only
  split
  · exact h
  next a ha =>
    (repeat' split)
    · exact h
    · exact hx
    · exact ownAccepted_table hx (h.frames.2 a ha)
    · exact attemptReport_table hx _
    · exact attemptReport_table hx _
    · exact ownDropped_table hx _

/-! ### Timers and configuration -/

theorem deadlineExpires_table (h : TableSafe s) : TableSafe (deadlineExpires s) := by
  unfold deadlineExpires
  split
  · split
    · exact h.of_kept rfl rfl
    · exact deadlineTakesEffect_table h
  all_goals exact h

theorem holdOffExpires_table (h : TableSafe s) : TableSafe (holdOffExpires s) := by
  unfold holdOffExpires
  split
  · exact enterState_table (h.withSc _) _ _
  · exact h

theorem configurationFault_table (h : TableSafe s) (r : FaultReason) (c : Cause) (d : FaultDetail) :
    TableSafe (configurationFault r c d s) :=
  enterFault_table (h.withCl _) _ _

theorem freeze_table (h : TableSafe s) (img : Vector Byte 30) : TableSafe (freeze img s) :=
  enterState_table ((((h.withCl _).withSc _).withTc _).withBu _) _ _

theorem takeImage_table (h : TableSafe s) (img : Vector Byte 30) : TableSafe (takeImage img s) := by
  unfold takeImage
  split
  · exact freeze_table h img
  · exact configurationFault_table h _ _ _
  · exact configurationFault_table h _ _ _

theorem memoryAnswered_table (h : TableSafe s) (img : Vector Byte 30) : TableSafe (memoryAnswered img s) := by
  unfold memoryAnswered
  split
  · exact takeImage_table h img
  all_goals exact h

theorem memoryNotAnswered_table (h : TableSafe s) : TableSafe (memoryNotAnswered s) := by
  have he : TableSafe (endFailedRead s) := h.of_kept rfl rfl
  unfold memoryNotAnswered
  split
  · dsimp only
    split
    · exact he
    · exact configurationFault_table he _ _ _
  all_goals exact h

theorem releaseReset_table (h : TableSafe s) (sid : Station) (cfgsrc : Bool) : TableSafe (releaseReset sid cfgsrc s) := by
  have hx : TableSafe (s.withXi { s.xi with number := some sid }) := ⟨h.table, h.frames⟩
  unfold releaseReset
  split
  · dsimp only
    split
    · exact enterState_table (hx.withCl _) _ _
    · exact enterState_table (hx.withCl _) _ _
  all_goals exact h

theorem leadsTo_table (h : TableSafe s) : LeadsTo TableSafe s where
  stay := h
  atEnd _ hu := settle_table hu
  port _ _ hu := hu.of_kept rfl rfl
  reset _ := ⟨tableLawful_empty, nofun, nofun⟩
  release := releaseReset_table h
  rise _ := h.of_kept (by simp) (by simp)
  fall _ := h.of_kept (by simp) (by simp)
  latch _ := h.of_kept (by simp) (by simp)
  marked := startMark_table h
  closed := closingMark_table h
  truncated := truncation_table h
  window := windowCloses_table h
  sent := closingMarkSent_table h
  ownWindow := ownWindowCloses_table h
  xtenOn := h.of_kept (by simp) (by simp)
  contention := contentionCloses_table h
  xtenOff := h.of_kept (by simp) (by simp)
  quiet := h.of_kept (by simp) (by simp)
  xwantOn := h.of_kept (by simp) (by simp)
  xwantOff := h.of_kept (by simp) (by simp)
  listened := by
    unfold listenEnds
    split
    · exact joinAgain_table h _
    · exact h
  deadline := deadlineExpires_table h
  holdOff := holdOffExpires_table h
  period := h.of_kept (by simp) (by simp)
  answered := memoryAnswered_table h
  notAnswered := memoryNotAnswered_table h
  written _ := h.of_kept rfl rfl
  started _ := takeImage_table h _
  left _ := enterState_table ((teardown_table h .left).withTq _) _ _
  rejoined _ := enterState_table h _ _

end Sys2Proof.Machine
end

section
/-! PROOF. Law L11 at a station that stays in its table: a step keeps the applied count or advances it by one (R12); and
with it the laws of the table at every step (O57). -/

namespace Sys2Proof.Machine

open Sys2Proof.Safety

/-! ### The count of a state -/

/-- A replica that is still valid has its count kept, or advanced by one. -/
def CountsOn (s t : State) : Prop := t.re.valid = true → t.re.count = s.re.count ∨ t.re.count = s.re.count + 1

variable {s t : State}

theorem CountsOn.of_re (h : t.re = s.re) : CountsOn s t := fun _ => .inl (by rw [h])

theorem CountsOn.of_count (h : t.re.count = s.re.count) : CountsOn s t := fun _ => .inl h

/-- What leaves the count leaves it also where it discards a load image, and where it follows on such a step. -/
def CountKept (s t : State) : Prop := t.re.valid = true → s.re.valid = true ∧ t.re.count = s.re.count

theorem CountKept.of_re (h : t.re = s.re) : CountKept s t := fun hv => ⟨h ▸ hv, by rw [h]⟩

theorem CountKept.trans {u : State} (h : CountKept s t) (k : CountKept t u) : CountKept s u := fun hv =>
  have ⟨hv, hu⟩ := k hv
  have ⟨hv, ht⟩ := h hv
  ⟨hv, hu.trans ht⟩

theorem CountKept.countsOn (h : CountKept s t) : CountsOn s t := fun hv => .inl (h hv).2

theorem CountsOn.of_invalid (h : t.re.valid = false) : CountsOn s t := fun k => absurd (k.symm.trans h) (by decide)

/-! ### The states that a frame leads to from a table -/

/-- The station is in none of the states on the way into a table. -/
abbrev OffTheWayIn (st : StationState) : Prop := st ≠ .joinPending ∧ st ≠ .awaitSnapshot

/-- A frame's application counts on, and leads to no state on the way into a table. -/
abbrev StaysOn (s t : State) : Prop := CountsOn s t ∧ OffTheWayIn t.sc.state

theorem enterState_countKept (st : StationState) (c : Cause) (s : State) : CountKept s (enterState st c s) :=
  fun hv => by simpa using hv

theorem teardownIf_countKept (why : LossReason) (s : State) : CountKept s (teardownIfInTable why s) := by
  unfold teardownIfInTable
  split
  · exact fun hv => by simp [ReplicaEngine.empty] at hv
  · exact .of_re rfl

theorem isolate_countKept (c : Cause) (s : State) : CountKept s (isolate c s) := by
  unfold isolate
  split
  · exact (teardownIf_countKept .isolated s).trans ((CountKept.of_re rfl).trans (enterState_countKept .isolated c _))
  · exact .of_re rfl

theorem twinReport_countKept (s : State) : CountKept s (twinReport s) := by
  unfold twinReport enterFault
  split
  · exact (teardownIf_countKept .twin s).trans ((CountKept.of_re rfl).trans (enterState_countKept .fault .twin _))
  · exact .of_re rfl

theorem foreignReport_staysOn (h : s.sc.state.inTable = true) : StaysOn s (foreignReport s) := by
  unfold foreignReport
  rw [if_pos h]
  exact ⟨.of_invalid (by simp [ReplicaEngine.empty]), by simp [OffTheWayIn]⟩

theorem selfExpelled_staysOn (why : ExpelReason) (h : StaysOn s t) : StaysOn s (selfExpelled why t) := by
  unfold selfExpelled
  split
  · refine ⟨.of_invalid (by simp [ReplicaEngine.empty]), ?_⟩
    simp only [enterState_sc, change_state]
    split <;> simp [OffTheWayIn]
  · exact h

theorem confirmedReport_staysOn (h : StaysOn s t) : StaysOn s (confirmedReport t) := by
  unfold confirmedReport
  split
  · exact ⟨fun hv => by simpa using h.1 (by simpa using hv), by simp [OffTheWayIn]⟩
  all_goals exact h

theorem memberReport_staysOn (x : Station) (m : MemberState) (h : StaysOn s t) : StaysOn s (memberReport x m t) := by
  refine ⟨fun hv => by simpa using h.1 (by simpa using hv), ?_⟩
  have hs : (memberReport x m t).sc.state = t.sc.state := by
    unfold memberReport
    split <;> simp
  exact hs ▸ h.2

theorem membershipReports_staysOn (h : StaysOn s t) (me : Station) (before : ReplicaEngine) (x : Effects) :
    StaysOn s (membershipReports me before x t) := by
  unfold membershipReports
  dsimp only
  have hm : StaysOn s
      (match x.member with
      | none => t
      | some (y, m) =>
        if y ≠ me then memberReport y m t
        else if before.members[me] = .joining ∧ m = .active then confirmedReport t
        else t) := by
    (repeat' split)
    · exact h
    · exact memberReport_staysOn _ _ h
    · exact confirmedReport_staysOn h
    · exact h
  split
  · exact hm
  · split
    · exact selfExpelled_staysOn _ hm
    · exact hm

theorem applyFrame_staysOn (hs : s.sc.state.inTable = true) (own : Bool) (f : Frame) : StaysOn s (applyFrame own f s) := by
  have hw : OffTheWayIn s.sc.state := by constructor <;> rintro he <;> simp [he, StationState.inTable] at hs
  unfold applyFrame
  split
  · split
    · split
      · exact foreignReport_staysOn hs
      · exact ⟨fun _ => .inr (by simp [ReplicaEngine.advance]), by simpa using hw⟩
    · rw [applyFully_eq]
      refine membershipReports_staysOn ⟨fun _ => .inr ?_, by simpa using hw⟩ _ _ _
      simp [ReplicaEngine.advance, (effectsOf_keeps s.re f).1]
  · exact ⟨.of_re rfl, hw⟩

theorem otherFrameAccepted_count (h : StaysOn s t) (f : Frame) : CountsOn s (otherFrameAccepted f t) := by
  have hs : (silenceHeard f.sender t).sc.state = t.sc.state := by
    unfold silenceHeard
    split <;> simp
  have hh : CountsOn s (silenceHeard f.sender t) := fun hv => by simpa using h.1 (by simpa using hv)
  unfold otherFrameAccepted
  dsimp only
  split
  · exact hh
  · exact hh
  next ha => exact absurd (hs.symm.trans ha) h.2.2
  all_goals exact hh

theorem leaveEnds_count (c : Cause) (h : CountsOn s t) : CountsOn s (leaveEnds c t) := by
  unfold leaveEnds
  split
  · exact fun hv => by simpa using h (by simpa using hv)
  all_goals exact h

theorem ownFrameAccepted_count (h : StaysOn s t) (f : Frame) : CountsOn s (ownFrameAccepted f t) := by
  have hn : (t.sc.state == .awaitSnapshot) = false := by simpa using h.2.2
  unfold ownFrameAccepted
  simp only [hn, Bool.false_eq_true, if_false]
  split
  · unfold ownJoinAccepted
    split
    next hj => exact absurd hj h.2.1
    all_goals exact h.1
  · exact leaveEnds_count _ h.1
  · exact fun hv => by simpa using h.1 (by simpa using hv)
  all_goals exact h.1

/-! ### The windows -/

theorem windowCloses_count (hs : s.sc.state.inTable = true) (rejected : Bool) : CountsOn s (windowCloses rejected s) := by
  unfold windowCloses
  split
  next f _ =>
    have hre : (heardReport f (s.withXi { s.xi with rx := .none, rejectStreak := 0 })).re = s.re := by simp
    have hsc : (heardReport f (s.withXi { s.xi with rx := .none, rejectStreak := 0 })).sc = s.sc := by
      unfold heardReport
      split <;> simp_all [StationState.inTable]
    unfold wholeWindow handOver
    dsimp only
    generalize heardReport f (s.withXi { s.xi with rx := .none, rejectStreak := 0 }) = u at hre hsc
    split
    · exact .of_re hre
    · split
      · have := (twinReport_countKept u).countsOn
        rwa [CountsOn, hre] at this
      · obtain ⟨hc, hw⟩ := applyFrame_staysOn (s := u) (by rwa [hsc]) false f
        rw [CountsOn, hre] at hc
        exact otherFrameAccepted_count ⟨hc, hw⟩ f
  all_goals exact .of_re rfl

theorem ownAccepted_count (hs : s.sc.state.inTable = true) (a : Attempt) : CountsOn s (ownAccepted a s) := by
  have hq (u : State) (hsc : u.sc = s.sc) (hre : u.re = s.re) :
      CountsOn s (ownFrameAccepted a.frame (applyFrame true a.frame u)) := by
    obtain ⟨hc, hw⟩ := applyFrame_staysOn (s := u) (by rwa [hsc]) true a.frame
    rw [CountsOn, hre] at hc
    exact ownFrameAccepted_count ⟨hc, hw⟩ a.frame
  intro hv
  refine Or.imp (fun k => ?_) (fun k => ?_)
    (hq (if a.discarded then s else runEnded (s.withTq (s.tq.accepted a.sent))) ?_ ?_ ?_)
  · simpa [ownAccepted] using k
  · simpa [ownAccepted] using k
  · split <;> simp
  · split <;> simp
  · simpa [ownAccepted] using hv

theorem leaveEnds_countKept (c : Cause) (s : State) : CountKept s (leaveEnds c s) := by
  unfold leaveEnds
  split
  · exact enterState_countKept _ _ _
  all_goals exact .of_re rfl

theorem reportDropped_countKept (what : Sent) (s : State) : CountKept s (reportDropped what s) := by
  unfold reportDropped
  split
  · exact .of_re (by simp)
  · exact .of_re (by simp)
  · exact .of_re rfl
  · exact .of_re rfl
  · exact leaveEnds_countKept _ _
  all_goals exact .of_re rfl

theorem advanceDropStreak_countKept (s : State) : CountKept s (advanceDropStreak s) := by
  unfold advanceDropStreak
  split
  · exact .of_re rfl
  · exact (CountKept.of_re rfl).trans (isolate_countKept _ _)

theorem ownDropped_countKept (a : Attempt) (s : State) : CountKept s (ownDropped a s) := by
  unfold ownDropped
  dsimp only
  generalize hu : runEnded (s.withTq (s.tq.dropped a.sent)) = u
  have hr : CountKept s (reportDropped a.sent u) :=
    (CountKept.of_re (by simp [← hu])).trans (reportDropped_countKept a.sent u)
  have hp : CountKept s (postNotice (droppedNotice a.sent) (countUp .framesDropped (reportDropped a.sent u))) :=
    hr.trans (.of_re (by simp))
  exact (hp.trans (advanceDropStreak_countKept _)).trans (.of_re (by simp))

theorem ownWindowCloses_count (hs : s.sc.state.inTable = true) (rejected : Bool) :
    CountsOn s (ownWindowCloses rejected s) := by
  unfold ownWindowCloses
  dsimp only
  split
  · exact .of_re rfl
  next a ha =>
    (repeat' split)
    · exact .of_re rfl
    · exact .of_re rfl
    · exact ownAccepted_count (s := s.withXi { s.xi with attempt := none }) hs a
    · exact .of_re (by simp)
    · exact .of_re (by simp)
    · exact (ownDropped_countKept a (s.withXi { s.xi with attempt := none })).countsOn

/-! ### The other operations -/

theorem startMark_re (s : State) : (startMark s).re = s.re := by
  unfold startMark
  split <;> rfl

theorem closingMark_countKept (bytes : List Byte) (s : State) : CountKept s (closingMark bytes s) := by
  unfold closingMark
  split
  · split
    · exact .of_re rfl
    · unfold signalReject
      dsimp only
      split
      · exact .of_re rfl
      · exact (CountKept.of_re rfl).trans (isolate_countKept _ _)
  all_goals exact .of_re rfl

theorem truncation_re (s : State) : (truncation s).re = s.re := by
  unfold truncation
  split <;> rfl

theorem joinAgain_countKept (c : Cause) (s : State) : CountKept s (joinAgain c s) :=
  (CountKept.of_re rfl).trans (enterState_countKept _ _ _)

theorem deadlineExpires_countKept (s : State) : CountKept s (deadlineExpires s) := by
  unfold deadlineExpires deadlineTakesEffect
  split
  · split
    · exact .of_re rfl
    · split
      · exact joinAgain_countKept _ _
      · exact enterState_countKept _ _ _
  all_goals exact .of_re rfl

theorem configurationFault_countKept (r : FaultReason) (c : Cause) (d : FaultDetail) (s : State) :
    CountKept s (configurationFault r c d s) :=
  fun hv => by simpa [configurationFault, enterFault] using hv

theorem freeze_countKept (img : Vector Byte 30) (s : State) : CountKept s (freeze img s) :=
  fun hv => by simpa [freeze] using hv

theorem takeImage_countKept (img : Vector Byte 30) (s : State) : CountKept s (takeImage img s) := by
  unfold takeImage
  split
  · exact freeze_countKept img s
  · exact configurationFault_countKept _ _ _ _
  · exact configurationFault_countKept _ _ _ _

theorem memoryAnswered_countKept (img : Vector Byte 30) (s : State) : CountKept s (memoryAnswered img s) := by
  unfold memoryAnswered
  split
  · exact takeImage_countKept img s
  all_goals exact .of_re rfl

theorem memoryNotAnswered_countKept (s : State) : CountKept s (memoryNotAnswered s) := by
  unfold memoryNotAnswered
  split
  · dsimp only
    split
    · exact .of_re rfl
    · exact CountKept.trans (t := endFailedRead s) (.of_re rfl) (configurationFault_countKept _ _ _ _)
  all_goals exact .of_re rfl

theorem releaseReset_countKept (sid : Station) (cfgsrc : Bool) (s : State) : CountKept s (releaseReset sid cfgsrc s) := by
  unfold releaseReset
  split
  · dsimp only
    split <;> exact fun hv => by simpa using hv
  all_goals exact .of_re rfl

/-- Law L11 at a station in its table: every operation keeps the count or advances it by one. -/
theorem leadsTo_countsOn (hs : s.sc.state.inTable = true) : LeadsTo (CountsOn s) s where
  stay := .of_re rfl
  atEnd u hu := by simpa [CountsOn] using hu
  port _ _ hu := hu
  reset _ := .of_invalid rfl
  release sid cfgsrc := (releaseReset_countKept sid cfgsrc s).countsOn
  rise _ := .of_re (by simp)
  fall _ := .of_re (by simp)
  latch _ := .of_re (by simp)
  marked := .of_re (startMark_re s)
  closed bytes := (closingMark_countKept bytes s).countsOn
  truncated := .of_re (truncation_re s)
  window := windowCloses_count hs
  sent := .of_re rfl
  ownWindow := ownWindowCloses_count hs
  xtenOn := .of_re (by simp)
  contention _ := .of_re (by simp)
  xtenOff := .of_re (by simp)
  quiet := .of_re (by simp)
  xwantOn := .of_re (by simp)
  xwantOff := .of_re (by simp)
  listened := by
    unfold listenEnds
    split
    · exact (joinAgain_countKept _ s).countsOn
    · exact .of_re rfl
  deadline := (deadlineExpires_countKept s).countsOn
  holdOff := by
    unfold holdOffExpires
    split
    · exact ((CountKept.of_re rfl).trans (enterState_countKept _ _ _)).countsOn
    · exact .of_re rfl
  period := .of_re (by simp)
  answered img := (memoryAnswered_countKept img s).countsOn
  notAnswered := (memoryNotAnswered_countKept s).countsOn
  written _ := .of_re rfl
  started _ := (takeImage_countKept _ s).countsOn
  left _ := .of_invalid (by simp [leaveTable, ReplicaEngine.empty])
  rejoined _ := (enterState_countKept _ _ s).countsOn

/-- Settles O57: the table's laws by the operations one at a time, the count by those of a station in its table. -/
theorem stepsKeepTheTable : Obligations.StepsKeepTheTable := by
  intro s t ⟨htable, hframes⟩ ht
  have hsafe : TableSafe s := ⟨htable, hframes⟩
  have ⟨htable', hframes'⟩ := LeadsTo.step hsafe (fun _ => leadsTo_table ⟨hsafe.table, hsafe.frames⟩) ht
  refine ⟨htable', hframes', fun _ hin => ?_⟩
  exact LeadsTo.step (Q := CountsOn s) (.of_re rfl) (fun rest => leadsTo_countsOn (s := { s with pending := rest }) hin) ht

end Sys2Proof.Machine
end

section
/-! PROOF. The reset values (O4), the table of R13 (O10) and the refusals of the management reads (O46). -/

namespace Sys2Proof.Machine

open Sys2Proof.Safety

/-! ### The reset values -/

/-- Settles O4, block by block: each table is a replicate, and the rest is the reset form itself. -/
theorem resetValuesOfTheRules : Obligations.ResetValuesOfTheRules := by
  have hline (n : BindingNo) : (Vector.replicate 12 false)[n] = false := Vector.getElem_replicate n.isLt
  refine ⟨fun r => Vector.getElem_replicate r.isLt, fun i => Vector.getElem_replicate i.isLt,
    fun x => Vector.getElem_replicate x.isLt, rfl, rfl, rfl, rfl, rfl,
    fun n => ⟨hline n, hline n, hline n, hline n⟩, ?_⟩
  refine ⟨rfl, rfl, rfl, rfl, rfl, rfl, rfl, rfl, rfl, rfl, rfl, rfl, rfl, rfl, rfl, rfl, rfl, rfl, rfl, rfl, rfl, rfl,
    rfl, rfl, rfl, rfl, fun x => Vector.getElem_replicate x.isLt, rfl, fun i => Vector.getElem_replicate i.isLt, ?_⟩
  exact ⟨rfl, rfl, rfl, rfl, rfl, rfl, rfl, rfl, rfl, rfl, rfl⟩

/-! ### Compatibility (R13) -/

theorem compatible_exclusive_iff (h : Holding) : h.compatible .exclusive = true ↔ h = .free := by
  cases h <;> simp [Holding.compatible]

theorem compatible_shared_iff (h : Holding) : h.compatible .shared = true ↔ h = .free ∨ ∃ hs, h = .shared hs := by
  cases h <;> simp [Holding.compatible]

/-- Settles O10, by the states of a record and by the grant pass's own test of the head. -/
theorem compatibilityOfModes : Obligations.CompatibilityOfModes := by
  refine ⟨compatible_exclusive_iff, compatible_shared_iff, fun r m c h => compatible_of_grantsAtOnce h,
    fun h w ws => ⟨?_, ?_⟩⟩
  · intro hw
    rw [grantHeads, if_neg (by simp [hw])]
  · intro hw
    rw [grantHeads, if_pos hw]

/-! ### The management reads (R184, R186) -/

theorem ready_of_portReady {s : State} (h : PortReady s) : s.mp.ready = true := by
  unfold ManagementPort.ready
  rw [h]
  rfl

/-- A read at a port that can take a command settles its answer and changes nothing else. -/
theorem readEvent_of_portReady {s : State} (h : PortReady s) (received : List Byte) (a : State → Answer) :
    readEvent received a s = .next { s with mp := taken s received (a s).response } := by
  unfold readEvent takeRead
  rw [if_pos (ready_of_portReady h)]
  rfl

theorem resourceArg_of_gt {b : Byte} (h : 63 < b.toNat) : resourceArg b = none := dif_neg (by omega)

theorem resourceArg_of_le {b : Byte} (h : b.toNat ≤ 63) : resourceArg b = some ⟨b.toNat, by omega⟩ := dif_pos (by omega)

theorem bindingArg_of_gt {b : Byte} (h : 11 < b.toNat) : bindingArg b = none := dif_neg (by omega)

theorem bindingArg_of_le {b : Byte} (h : b.toNat ≤ 11) : bindingArg b = some ⟨b.toNat, by omega⟩ := dif_pos (by omega)

theorem runInImage_iff (offset number : Byte) :
    runInImage offset number = true ↔ offset.toNat ≤ 29 ∧ offset.toNat + number.toNat ≤ 30 := by
  simp [runInImage]

/-- An unknown command at a port that can take it is answered as a read is, with BAD_ARGUMENT. -/
theorem execUnknownCommand_of_wellFormed {code : Byte} (h : (Instr.unknownCommand code).wellFormed = true) (s : State) :
    execUnknownCommand code s = readEvent [code] (fun _ => Answer.only .badArgument) s := by
  unfold execUnknownCommand
  rw [if_neg (by simpa [Instr.wellFormed] using h)]

/-- Settles O46: each read settles the answer of its own checks, taken in their order. -/
theorem readsAreRefused : Obligations.ReadsAreRefused := by
  intro s h
  have answered (received : List Byte) {a : State → Answer} (st : Status) (ha : a s = Answer.only st) :
      readEvent received a s = .next { s with mp := taken s received [st.code] } := by
    rw [readEvent_of_portReady h, ha]
    rfl
  refine ⟨fun hv => ?_, fun b hb => ?_, fun b hb hv => ?_, fun b hb => ?_, fun b hb hn => ?_, fun o n hr => ?_,
    fun o n ho hn hst => ?_, fun code hc => ?_⟩
  · exact answered [2] .noTable (by simp [hv])
  · exact answered [3, b] .badArgument (by simp [resourceArg_of_gt hb])
  · exact answered [3, b] .noTable (by simp [resourceArg_of_le hb, hv])
  · exact answered [4, b] .badArgument (by simp [bindingArg_of_gt hb])
  · exact answered [4, b] .wrongState (by simp [bindingArg_of_le hb, BindingUnit.config, hn])
  · have hrun : runInImage o n = false := Bool.eq_false_iff.mpr fun k => by
      have := (runInImage_iff o n).mp k
      omega
    exact answered [8, o, n] .badArgument (by simp [hrun])
  · exact answered [8, o, n] .wrongState (by simp [(runInImage_iff o n).mpr ⟨ho, hn⟩, hst])
  · exact (execUnknownCommand_of_wellFormed hc s).trans (answered [code] .badArgument rfl)

end Sys2Proof.Machine
end

section
/-! PROOF. What the batch of a frame and the end of an event leave as it was: the board (the lines, latches and bindings of
the binding unit), the counters, the snapshot job and the entries in flight. -/

namespace Sys2Proof.Machine

open Sys2Proof.Safety

/-! ### The board -/

/-- The binding unit without its local claims. -/
def BindingUnit.board (b : BindingUnit) : BindingUnit := { b with claims := [] }

theorem boardKept_iff {s t : State} : BoardKept s t ↔ t.bu.board = s.bu.board := by
  simp only [BindingUnit.board, BindingUnit.mk.injEq, and_true]
  tauto

section
variable (s : State)

@[simp] theorem withClaims_board (cs : List LocalClaim) : (s.withClaims cs).bu.board = s.bu.board := rfl

@[simp] theorem putClaim_board (c : LocalClaim) : (putClaim c s).bu.board = s.bu.board := rfl

@[simp] theorem claimAfresh_board (c : LocalClaim) : (claimAfresh c s).bu.board = s.bu.board := rfl

@[simp] theorem enterHeld_board (c : LocalClaim) (d : Bool) : (enterHeld c d s).bu.board = s.bu.board := by
  unfold enterHeld
  dsimp only
  split <;> simp

@[simp] theorem enterDropping_board (c : LocalClaim) (d : Bool) : (enterDropping c d s).bu.board = s.bu.board := rfl

@[simp] theorem takeStanding_board (c : LocalClaim) (st : Standing) : (takeStanding c st s).bu.board = s.bu.board := by
  unfold takeStanding
  split <;> simp

@[simp] theorem takenReport_board (r : Resource) : (takenReport r s).bu.board = s.bu.board :=
  onClaim_keeps (·.bu.board) r _ (fun c s => by split <;> simp) s

@[simp] theorem claimOutcome_board (r : Resource) (o : ClaimOutcome) (st : Standing) :
    (claimOutcome r o st s).bu.board = s.bu.board :=
  onClaim_keeps (·.bu.board) r _ (fun c s => by (repeat' split) <;> simp) s

@[simp] theorem dropApplied_board (r : Resource) : (dropApplied r s).bu.board = s.bu.board :=
  onClaim_keeps (·.bu.board) r _ (fun c s => by (repeat' split) <;> simp) s

@[simp] theorem claimDropped_board (r : Resource) : (claimDropped r s).bu.board = s.bu.board :=
  onClaim_keeps (·.bu.board) r _ (fun c s => by (repeat' split) <;> simp) s

@[simp] theorem dropDropped_board (r : Resource) : (dropDropped r s).bu.board = s.bu.board :=
  onClaim_keeps (·.bu.board) r _ (fun c s => by (repeat' split) <;> simp) s

@[simp] theorem grantedEntry_board (r : Resource) (d : Bool) : (grantedEntry r d s).bu.board = s.bu.board :=
  onClaim_keeps (·.bu.board) r _ (fun c s => by split <;> simp) s

@[simp] theorem yieldEntry_board (r : Resource) (d : Bool) : (yieldEntry r d s).bu.board = s.bu.board :=
  onClaim_keeps (·.bu.board) r _ (fun c s => by (repeat' split) <;> simp) s

@[simp] theorem freedEntry_board : (freedEntry s).bu.board = s.bu.board :=
  foldl_keeps (·.bu.board) _ (fun s c => by split <;> simp) _ _

@[simp] theorem takeUpClaims_board : (takeUpClaims s).bu.board = s.bu.board :=
  foldl_keeps (·.bu.board) _ (fun s c => by split <;> simp) _ _

/-- A REMOVED entry alone clears a latch (R79). -/
theorem takeEntry_board {e : BatchEntry} (h : ∀ r, e ≠ .removed r) : (takeEntry s e).bu.board = s.bu.board := by
  cases e with
  | removed r => exact absurd rfl (h r)
  | _ => simp [takeEntry]

theorem takeBatch_board {es : List BatchEntry} (h : ∀ e ∈ es, ∀ r, e ≠ .removed r) :
    (takeBatch es s).bu.board = s.bu.board := by
  induction es generalizing s with
  | nil => rfl
  | cons e es ih =>
    exact (ih (takeEntry s e) fun e he => h e (by simp [he])).trans (takeEntry_board s (h e (by simp)))

@[simp] theorem askNext_board : (askNext s).bu.board = s.bu.board := by
  unfold askNext
  dsimp only
  split
  · rfl
  · simp only [beginAttempt_keeps]
    unfold reportTaken
    (repeat' split) <;> simp

@[simp] theorem holdingDecision_board (r : Bool) : (holdingDecision r s).bu.board = s.bu.board := by
  unfold holdingDecision
  dsimp only
  split <;> simp

@[simp] theorem attemptReport_board (r : Bool) : (attemptReport r s).bu.board = s.bu.board := by
  unfold attemptReport
  split <;> simp

@[simp] theorem tellWork_board : (tellWork s).bu.board = s.bu.board := by
  unfold tellWork
  dsimp only
  split <;> simp

@[simp] theorem settle_bu : (settle s).bu = (tellWork s).bu := rfl

@[simp] theorem settle_tq : (settle s).tq = (tellWork s).tq := rfl

@[simp] theorem settle_xi : (settle s).xi = (tellWork s).xi := rfl

@[simp] theorem settle_tc : (settle s).tc = (tellWork s).tc := rfl

end

/-! ### The counters of the port -/

theorem post_counter (n : Notice) (p : ManagementPort) :
    (p.post n).counters = { p.counters with noticesLost := (p.post n).counters.noticesLost } := by
  unfold ManagementPort.post
  split <;> rfl

theorem postNotice_mp (n : Notice) (s : State) : (postNotice n s).mp = s.mp.post n := rfl

/-- The port's counters but for that of the notices lost. -/
def Counters.lasting (c : Counters) : Counters := { c with noticesLost := 0 }

@[simp] theorem postNotice_lasting (n : Notice) (s : State) :
    (postNotice n s).mp.counters.lasting = s.mp.counters.lasting := by
  rw [postNotice_mp, post_counter]
  rfl

section
variable (s : State)

@[simp] theorem enterHeld_lasting (c : LocalClaim) (d : Bool) :
    (enterHeld c d s).mp.counters.lasting = s.mp.counters.lasting := by
  unfold enterHeld
  dsimp only
  split <;> simp

@[simp] theorem takeStanding_lasting (c : LocalClaim) (st : Standing) :
    (takeStanding c st s).mp.counters.lasting = s.mp.counters.lasting := by
  unfold takeStanding
  split <;> simp

@[simp] theorem postHoldLost_lasting (ns : List BindingNo) (r : Resource) (why : LossReason) :
    (postHoldLost ns r why s).mp.counters.lasting = s.mp.counters.lasting := by
  unfold postHoldLost
  split <;> simp

/-- The entries of a batch count nothing but notices lost. -/
@[simp] theorem takeEntry_lasting (e : BatchEntry) : (takeEntry s e).mp.counters.lasting = s.mp.counters.lasting := by
  have on (r : Resource) (f : LocalClaim → State → State)
      (h : ∀ c s, (f c s).mp.counters.lasting = s.mp.counters.lasting) :
      (onClaim r f s).mp.counters.lasting = s.mp.counters.lasting :=
    onClaim_keeps (·.mp.counters.lasting) r f h s
  cases e with
  | claimOutcome r o st => exact on r _ fun c s => by (repeat' split) <;> simp
  | dropApplied r d => exact on r _ fun c s => by (repeat' split) <;> simp
  | granted r m y d => exact on r _ fun c s => by split <;> simp
  | yield r d => exact on r _ fun c s => by (repeat' split) <;> simp
  | removed r => exact on r _ fun c s => by simp
  | freed => exact foldl_keeps (·.mp.counters.lasting) _ (fun s c => by split <;> simp) _ _

@[simp] theorem takeBatch_lasting (es : List BatchEntry) :
    (takeBatch es s).mp.counters.lasting = s.mp.counters.lasting :=
  foldl_keeps (·.mp.counters.lasting) takeEntry takeEntry_lasting es s

@[simp] theorem claimDropped_lasting (r : Resource) :
    (claimDropped r s).mp.counters.lasting = s.mp.counters.lasting :=
  onClaim_keeps (·.mp.counters.lasting) r _ (fun c s => by (repeat' split) <;> simp) s

@[simp] theorem dropDropped_lasting (r : Resource) :
    (dropDropped r s).mp.counters.lasting = s.mp.counters.lasting :=
  onClaim_keeps (·.mp.counters.lasting) r _ (fun c s => by (repeat' split) <;> simp) s

@[simp] theorem askExpel_framesApplied (x : Station) (why : ExpelReason) :
    (askExpel x why s).mp.counters.framesApplied = s.mp.counters.framesApplied := by
  unfold askExpel
  split <;> rfl

/-- Step 4 of R27 counts mismatches and expulsions alone. -/
@[simp] theorem checked_framesApplied (own : Bool) (f : Frame) :
    (checked own f s).mp.counters.framesApplied = s.mp.counters.framesApplied := by
  unfold checked checkFrame referenceCheck countComparison
  dsimp only
  (repeat' split) <;> simp [countUp, Counters.increment]

end

theorem framesApplied_of_lasting {c d : Counters} (h : c.lasting = d.lasting) : c.framesApplied = d.framesApplied := by
  have := congrArg Counters.framesApplied h
  exact this

@[simp] theorem applied_framesApplied (own : Bool) (f : Frame) (s : State) :
    (applied own f s).mp.counters.framesApplied = bump s.mp.counters.framesApplied := by
  unfold applied
  rw [framesApplied_of_lasting (takeBatch_lasting _ _)]
  unfold referenceDerived countRefusal
  dsimp only
  (repeat' split) <;> simp [countUp, Counters.increment]

/-! ### The snapshot job and the entries in flight -/

/-- What the queue's additions and withdrawals leave: the job with its mark, and the standing of every entry kept. -/
structure EntriesMoved (q q' : TransmitQueue) : Prop where
  job : q'.job = q.job
  reArm : q'.reArm = q.reArm
  inFlight : ∀ e ∈ q'.entries, e.inFlight = true → e ∈ q.entries

theorem EntriesMoved.refl (q : TransmitQueue) : EntriesMoved q q := ⟨rfl, rfl, fun _ he _ => he⟩

theorem EntriesMoved.trans {q q' q'' : TransmitQueue} (h : EntriesMoved q q') (k : EntriesMoved q' q'') :
    EntriesMoved q q'' :=
  ⟨k.job.trans h.job, k.reArm.trans h.reArm, fun e he hi => h.inFlight e (k.inFlight e he hi) hi⟩

theorem append_moved (q : TransmitQueue) (i : Item) : EntriesMoved q (q.append i) := by
  refine ⟨rfl, rfl, fun e he hi => ?_⟩
  rcases List.mem_append.mp he with h | h
  · exact h
  · obtain rfl := List.mem_singleton.mp h
    simp [Entry.fresh] at hi

theorem mem_of_mem_removeFirst {α : Type} {p : α → Bool} {as : List α} {a : α} (h : a ∈ removeFirst p as) : a ∈ as := by
  induction as with
  | nil => exact h
  | cons b bs ih =>
    unfold removeFirst at h
    split at h
    · exact List.mem_cons_of_mem b h
    · rcases List.mem_cons.mp h with rfl | h
      · exact List.mem_cons_self
      · exact List.mem_cons_of_mem b (ih h)

theorem removeFirst_moved (q : TransmitQueue) (p : Entry → Bool) :
    EntriesMoved q { q with entries := removeFirst p q.entries } :=
  ⟨rfl, rfl, fun _ he _ => mem_of_mem_removeFirst he⟩

theorem addClaim_moved (q : TransmitQueue) (r : Resource) (m : Mode) (c : ClaimClass) (y : Bool) :
    EntriesMoved q (q.addClaim r m c y) := by
  unfold TransmitQueue.addClaim
  split
  · exact .refl q
  · exact append_moved q _

theorem addDrop_moved (q : TransmitQueue) (r : Resource) : EntriesMoved q (q.addDrop r).1 := by
  unfold TransmitQueue.addDrop
  (repeat' split)
  · exact append_moved q _
  · exact .refl q
  · exact removeFirst_moved q _
  · exact .refl q

theorem withdrawWhere_moved (q : TransmitQueue) (p : Entry → Bool) : EntriesMoved q (q.withdrawWhere p).1 := by
  unfold TransmitQueue.withdrawWhere
  (repeat' split)
  · exact .refl q
  · exact .refl q
  · exact removeFirst_moved q _

theorem askExpel_moved (x : Station) (why : ExpelReason) (s : State) : EntriesMoved s.tq (askExpel x why s).tq := by
  unfold askExpel
  split
  · exact .refl _
  · simpa using append_moved s.tq _

theorem checked_moved (own : Bool) (f : Frame) (s : State) : EntriesMoved s.tq (checked own f s).tq := by
  have hc : EntriesMoved s.tq (referenceCheck f s).tq := by
    unfold referenceCheck
    dsimp only
    (repeat' split)
    · exact askExpel_moved f.sender .disagree (countUp .countMismatch s)
    · exact .refl _
    · exact askExpel_moved f.sender .disagree s
    · exact .refl _
  unfold checked checkFrame
  (repeat' split)
  · exact .refl _
  · exact hc
  · simpa using EntriesMoved.refl s.tq
  · exact .refl _

theorem claimAfresh_moved (c : LocalClaim) (s : State) : EntriesMoved s.tq (claimAfresh c s).tq :=
  addClaim_moved s.tq _ _ _ _

theorem onClaim_moved (r : Resource) (f : LocalClaim → State → State) (h : ∀ c s, EntriesMoved s.tq (f c s).tq)
    (s : State) : EntriesMoved s.tq (onClaim r f s).tq := by
  unfold onClaim
  split
  · exact .refl _
  · exact h _ s

theorem foldl_moved {α : Type} (f : State → α → State) (h : ∀ s a, EntriesMoved s.tq (f s a).tq) (as : List α) (s : State) :
    EntriesMoved s.tq (as.foldl f s).tq := by
  induction as generalizing s with
  | nil => exact .refl _
  | cons a as ih => exact (h s a).trans (ih _)

theorem takeEntry_moved (s : State) (e : BatchEntry) : EntriesMoved s.tq (takeEntry s e).tq := by
  cases e with
  | claimOutcome r o st =>
    refine onClaim_moved r _ (fun c s => ?_) s
    have hd (d : Bool) : EntriesMoved s.tq (enterDropping c d s).tq := addDrop_moved s.tq c.resource
    have ht : EntriesMoved s.tq (takeStanding c st s).tq := by
      unfold takeStanding
      split
      · simpa using EntriesMoved.refl s.tq
      · exact .refl _
      · exact claimAfresh_moved c s
    cases c.state with
    | sending =>
      cases o with
      | granted | already =>
        dsimp only
        split
        · exact hd _
        · exact ht
      | waiting =>
        dsimp only
        split
        · exact hd false
        · exact .refl _
      | refused =>
        dsimp only
        split <;> exact .refl _
    | _ => exact .refl _
  | dropApplied r d =>
    refine onClaim_moved r _ (fun c s => ?_) s
    (repeat' split)
    · exact claimAfresh_moved c s
    all_goals exact .refl _
  | granted r m y d =>
    refine onClaim_moved r _ (fun c s => ?_) s
    split
    · simpa using EntriesMoved.refl s.tq
    all_goals exact .refl _
  | yield r d =>
    refine onClaim_moved r _ (fun c s => ?_) s
    (repeat' split)
    all_goals exact .refl _
  | removed r =>
    refine onClaim_moved r _ (fun c s => ?_) s
    simpa [TransmitQueue.withdraw] using withdrawWhere_moved s.tq (Entry.isFor r)
  | freed =>
    refine foldl_moved _ (fun s c => ?_) _ s
    split
    · exact claimAfresh_moved c s
    · exact .refl _

theorem takeBatch_moved (es : List BatchEntry) (s : State) : EntriesMoved s.tq (takeBatch es s).tq :=
  foldl_moved takeEntry takeEntry_moved es s

theorem memberReport_moved (x : Station) (st : MemberState) (s : State) :
    EntriesMoved s.tq (memberReport x st s).tq := by
  cases st with
  | active => exact .refl _
  | joining => exact withdrawWhere_moved s.tq _
  | absent => exact withdrawWhere_moved s.tq _

end Sys2Proof.Machine
end

section
/-! PROOF. An accepted frame of another station at a station that stands in a table: what the window's close leaves, for
every kind of frame that is no report about this station itself. -/

namespace Sys2Proof.Machine

open Sys2Proof.Safety

/-! ### An event of a powered station -/

theorem event_of_powered {s : State} (h : s.powered = true) (f : State → State) : event f s = .next (settle (f s)) := by
  rw [event, if_pos h]

theorem exec_windowClose {s : State} (h : s.powered = true) (rejected : Bool) :
    exec (.windowClose rejected) s = .next (settle (windowCloses rejected s)) :=
  event_of_powered h _

/-! ### Reports about other stations (R51) -/

/-- The effects of a frame report nothing about station m as a member. -/
structure OfOthers (m : Station) (x : Effects) : Prop where
  member : ∀ p ∈ x.member, p.1 ≠ m
  expelled : ∀ p ∈ x.expelled, p.1 ≠ m

/-- The MEMBER report of a frame's effects, if they have one. -/
def reported (x : Effects) (s : State) : State :=
  match x.member with
  | none => s
  | some (y, st) => memberReport y st s

theorem membershipReports_of_others {m : Station} {x : Effects} (h : OfOthers m x) (before : ReplicaEngine) (s : State) :
    membershipReports m before x s = reported x s := by
  unfold membershipReports reported
  cases hm : x.member with
  | none =>
    cases he : x.expelled with
    | none => rfl
    | some p => simp [h.expelled p he]
  | some q =>
    cases he : x.expelled with
    | none => simp [h.member q hm]
    | some p => simp [h.member q hm, h.expelled p he]

theorem memberReport_sc (x : Station) (st : MemberState) (s : State) :
    (memberReport x st s).sc = { s.sc with silence := (memberReport x st s).sc.silence } := by
  cases st <;> rfl

theorem silenceHeard_sc (x : Station) (s : State) :
    (silenceHeard x s).sc = { s.sc with silence := (silenceHeard x s).sc.silence } := by
  unfold silenceHeard
  split <;> rfl

section
variable (x : Effects) (s : State)

@[simp] theorem reported_keeps :
    (reported x s).pending = s.pending ∧ (reported x s).powered = s.powered ∧
    (reported x s).unanswered = s.unanswered ∧ (reported x s).lines = s.lines ∧ (reported x s).xi = s.xi ∧
    (reported x s).tc = s.tc ∧ (reported x s).re = s.re ∧ (reported x s).bu = s.bu ∧ (reported x s).cl = s.cl ∧
    (reported x s).mp = s.mp ∧ (reported x s).pins = s.pins := by
  unfold reported
  split <;> simp

theorem reported_sc : (reported x s).sc = { s.sc with silence := (reported x s).sc.silence } := by
  unfold reported
  split
  · rfl
  · exact memberReport_sc _ _ s

theorem reported_moved : EntriesMoved s.tq (reported x s).tq := by
  unfold reported
  split
  · exact .refl _
  · exact memberReport_moved _ _ s

end

/-! ### The close of the window (R106) -/

/-- The receiver free again after a window, as the close leaves it. -/
def received (s : State) : State := s.withXi { s.xi with rx := .none, rejectStreak := 0 }

/-- The state that an accepted frame of another station leaves before the end of its event. -/
def afterFrame (f : Frame) (s : State) : State :=
  silenceHeard f.sender (reported (effectsOf s.re f) (applied false f (received s)))

theorem me_of_number {s : State} {m : Station} (h : s.xi.number = some m) : s.me = m := by simp [State.me, h]

@[simp] theorem received_keeps (s : State) :
    (received s).pending = s.pending ∧ (received s).powered = s.powered ∧ (received s).unanswered = s.unanswered ∧
    (received s).lines = s.lines ∧ (received s).sc = s.sc ∧ (received s).tc = s.tc ∧ (received s).tq = s.tq ∧
    (received s).re = s.re ∧ (received s).bu = s.bu ∧ (received s).cl = s.cl ∧ (received s).mp = s.mp ∧
    (received s).pins = s.pins := by
  simp [received]

@[simp] theorem received_me (s : State) : (received s).me = s.me := rfl

theorem inTable_iff (st : StationState) : st.inTable = true ↔ st = .confirming ∨ st = .active := by
  cases st <;> simp [StationState.inTable]

/-- In a table a HEARD report changes nothing (R139, R145, R161). -/
theorem heardReport_of_inTable {s : State} (h : s.sc.state.inTable = true) (f : Frame) : heardReport f s = s := by
  unfold heardReport
  rcases (inTable_iff _).mp h with hs | hs <;> rw [hs]

theorem otherFrameAccepted_of_inTable {s : State} (h : s.sc.state.inTable = true) (f : Frame) :
    otherFrameAccepted f s = silenceHeard f.sender s := by
  have hs : (silenceHeard f.sender s).sc.state = s.sc.state := by rw [silenceHeard_sc]
  unfold otherFrameAccepted
  rcases (inTable_iff _).mp h with ht | ht <;> simp only [hs, ht]

@[simp] theorem afterFrame_state (f : Frame) (s : State) : (afterFrame f s).sc.state = s.sc.state := by
  rw [afterFrame, silenceHeard_sc, reported_sc]
  simp

/-- The close of a clean window at a station in its table, for a frame that reports nothing about the station itself. -/
theorem exec_windowClose_of_others {s : State} {f : Frame} {m : Station} (h : HoldsWhole s f m)
    (hc : caughtForeign s.re f = false) (ho : OfOthers m (effectsOf s.re f)) :
    exec (.windowClose false) s = .next (settle (afterFrame f s)) := by
  obtain ⟨hp, _, hrx, hn, hm, hv, hin⟩ := h
  have hw : windowCloses false s = handOver f (received s) := by
    rw [windowCloses, hrx]
    exact congrArg (handOver f) (heardReport_of_inTable (s := received s) hin f)
  have ht : (received s).isTwin f = false := by simpa [State.isTwin, received, hn] using hm
  have ha : applyFrame false f (received s) = reported (effectsOf s.re f) (applied false f (received s)) := by
    have hv' : (received s).re.valid = true := hv
    have hme : (received s).me = m := me_of_number hn
    unfold applyFrame
    rw [if_pos hv', applyFully_eq, hme, membershipReports_of_others (x := effectsOf (received s).re f) ho]
    simp [hc]
  rw [exec_windowClose hp, hw, handOver, ht, ha, if_neg (by decide)]
  refine congrArg (Host.Outcome.next ∘ settle) (otherFrameAccepted_of_inTable ?_ f)
  rw [reported_sc]
  simpa using hin

/-! ### What the close leaves -/

/-- A frame of another station has been taken: the replica is that of its effects with the count advanced, FRAMES APPLIED
counts it, and the station state, the board and what lies outside the event are as they were. -/
structure FrameTaken (f : Frame) (s t : State) : Prop where
  re : t.re = (effectsOf s.re f).replica.advance
  counted : t.mp.counters.framesApplied = bump s.mp.counters.framesApplied
  state : t.sc.state = s.sc.state
  board : BoardKept s t
  outside : OutsideKept s t

/-- No batch of a frame that spares this station has a REMOVED entry (R50). -/
theorem ne_removed_of_mem_batchOf {me : Station} {f : Frame} {before : ReplicaEngine} {x : Effects}
    (h : ∀ p ∈ x.expelled, p.1 ≠ me) {e : BatchEntry} (he : e ∈ batchOf me false f before x) (r : Resource) :
    e ≠ .removed r := by
  have hn : ((x.expelled.map (·.1)) == some me) = false := by
    cases hx : x.expelled with
    | none => rfl
    | some p => simpa using h p hx
  rintro rfl
  simp only [batchOf, hn, Bool.false_eq_true, if_false, List.nil_append, List.mem_append, List.mem_flatMap] at he
  rcases he with ⟨r', _, h⟩ | h
  · unfold standingEntry at h
    (repeat' split at h) <;> simp_all
  · split at h <;> simp at h

theorem frameTaken_of_others {s : State} {f : Frame} (ho : OfOthers s.me (effectsOf s.re f)) :
    FrameTaken f s (settle (afterFrame f s)) where
  re := by simp [afterFrame]
  counted := by simp [afterFrame]
  state := by simp
  board := by
    rw [boardKept_iff, settle_bu, tellWork_board]
    simp only [afterFrame, silenceHeard_keeps, reported_keeps]
    unfold applied
    simp only [received_keeps, received_me]
    rw [takeBatch_board _ fun e he r => ne_removed_of_mem_batchOf ho.expelled he r]
    simp
  outside := ⟨by simp [afterFrame], by simp [afterFrame], by simp [afterFrame], by simp [afterFrame], by simp [afterFrame]⟩

end Sys2Proof.Machine
end

section
/-! PROOF. The CLAIM and the DROP of another station (O18, O19). -/

namespace Sys2Proof.Machine

open Sys2Proof.Safety

/-! ### The tests of a CLAIM (R8, R31) -/

theorem grantsAtOnce_iff (r : Record) (m : Mode) (c : ClaimClass) :
    r.grantsAtOnce m c = true ↔ r.holding.compatible m = true ∧ NoneAhead c r.waits := by
  have hcls (w : Wait) : ¬ w.entry.cls = .urgent ↔ w.entry.cls = .ordinary := by cases w.entry.cls <;> simp
  cases c with
  | ordinary => simp [Record.grantsAtOnce, NoneAhead, List.eq_nil_iff_forall_not_mem]
  | urgent => simp [Record.grantsAtOnce, NoneAhead, hcls]

theorem grantsAtOnce_false {r : Record} {m : Mode} {c : ClaimClass}
    (h : ¬ (r.holding.compatible m = true ∧ NoneAhead c r.waits)) : r.grantsAtOnce m c = false := by
  rwa [← grantsAtOnce_iff, Bool.not_eq_true] at h

theorem lowestFree_eq_none {pool : Vector Bool 96} (h : ∀ i : Fin 96, pool[i] = true) : lowestFree pool = none := by
  simpa [lowestFree, List.find?_eq_none] using h

/-! ### Frames that report no membership -/

theorem ofOthers_of_none {m : Station} {x : Effects} (hm : x.member = none) (he : x.expelled = none) : OfOthers m x where
  member := by simp [hm]
  expelled := by simp [he]

/-- The effects of a CLAIM, whatever its outcome, are those of the replica's operation or none. -/
theorem claim_ofOthers {e : ReplicaEngine} {f : Frame} {r : Resource} {md : Mode} {c : ClaimClass} {y : Bool}
    (hb : f.body = .claim r md c y) (m : Station) : OfOthers m (effectsOf e f) := by
  apply ofOthers_of_none <;> simp only [effectsOf, hb, claimEffects] <;> split <;> rfl

theorem drop_ofOthers {e : ReplicaEngine} {f : Frame} {b : Byte} (hb : f.body = .drop b) (m : Station) :
    OfOthers m (effectsOf e f) := by
  apply ofOthers_of_none <;> simp only [effectsOf, hb, dropEffects] <;> (repeat' split) <;> rfl

/-- A frame with no effect on the replica leaves it as it was but for the count (R12). -/
theorem FrameTaken.re_of_no_effect {f : Frame} {s t : State} (h : FrameTaken f s t)
    (he : (effectsOf s.re f).replica = s.re) : t.re = { s.re with count := s.re.count + 1 } := by
  rw [h.re, he]
  rfl

/-- The state after a frame that concerns no member: it is the one the close leads to. -/
theorem frameTaken {s : State} {f : Frame} {m : Station} (h : HoldsWhole s f m) (hc : caughtForeign s.re f = false)
    (ho : OfOthers m (effectsOf s.re f)) :
    ∃ t, exec (.windowClose false) s = .next t ∧ t = settle (afterFrame f s) ∧ FrameTaken f s t := by
  obtain ⟨_, _, _, hn, _⟩ := id h
  have ho' : OfOthers s.me (effectsOf s.re f) := (me_of_number hn).symm ▸ ho
  exact ⟨_, exec_windowClose_of_others h hc ho, rfl, frameTaken_of_others ho'⟩

/-! ### A CLAIM without effect (R9, R29, R30, R33) -/

theorem claimEffects_unchanged {e : ReplicaEngine} {x : Station} {r : Resource} {md : Mode} {c : ClaimClass} {y : Bool}
    (h : e.members[x] ≠ .active ∨ e.records[r].has x = true ∨
      (e.records[r].grantsAtOnce md c = false ∧ lowestFree e.pool = none)) :
    (claimEffects e x r md c y).replica = e := by
  unfold claimEffects
  split
  next ha =>
    rcases h with h | h | ⟨hg, hf⟩
    · exact absurd ha h
    · simp [Effects.none, claim_of_has e x r md c y h]
    · cases hh : e.records[r].has x with
      | true => simp [Effects.none, claim_of_has e x r md c y hh]
      | false => simp [Effects.none, claim_of_full e x r md c y hh hg hf]
  next => rfl

/-- Settles O18: in each of the three cases the CLAIM's effects are none. -/
theorem claimLeavesTheTable : Obligations.ClaimLeavesTheTable := by
  intro s f m r md c y h hc hb hcase
  obtain ⟨t, ht, _, hf⟩ := frameTaken h hc (claim_ofOthers hb m)
  have he : (effectsOf s.re f).replica = s.re := by
    simp only [effectsOf, hb]
    exact claimEffects_unchanged
      (hcase.imp_right (Or.imp_right fun ⟨hg, hp⟩ => ⟨grantsAtOnce_false hg, lowestFree_eq_none hp⟩))
  exact ⟨t, ht, hf.re_of_no_effect he, hf.counted, hf.state, hf.board, hf.outside⟩

/-! ### A DROP (R14, R29, R35) -/

theorem dropEffects_unchanged {e : ReplicaEngine} {x : Station} {b : Byte}
    (h : 64 ≤ b.toNat ∨ e.members[x] ≠ .active) : (dropEffects e x b).replica = e := by
  unfold dropEffects
  split
  next ha =>
    split
    next hb => exact absurd ha (h.resolve_left (by omega))
    next => rfl
  next => rfl

theorem dropEffects_of_active {e : ReplicaEngine} {x : Station} {b : Byte} {r : Resource} (hb : b.toNat = r.val)
    (hx : e.members[x] = .active) : (dropEffects e x b).replica = (e.drop x r).1 := by
  have hr : (⟨b.toNat, hb ▸ r.isLt⟩ : Resource) = r := Fin.ext hb
  unfold dropEffects
  rw [if_pos hx, dif_pos (hb ▸ r.isLt), hr]
  rfl

theorem drop_of_has {e : ReplicaEngine} {x : Station} {r : Resource} (h : e.records[r].has x = true) :
    (e.drop x r).1 = e.rewrite r e.records[r] (e.records[r].takeOut x) := by
  rw [Record.has, Bool.or_eq_true_iff] at h
  unfold ReplicaEngine.drop
  dsimp only
  split
  · rfl
  next hn => rw [if_pos (h.resolve_left hn)]

theorem drop_of_not_has {e : ReplicaEngine} {x : Station} {r : Resource} (h : e.records[r].has x = false) :
    (e.drop x r).1 = e := by
  obtain ⟨hh, hw⟩ := Bool.or_eq_false_iff.mp h
  simp only [ReplicaEngine.drop, hh, hw, Bool.false_eq_true, if_false]

/-- A DROP at a lawful record: its sender is taken out, also where it did not stand there (R35). -/
theorem drop_of_lawful {e : ReplicaEngine} {x : Station} {r : Resource} (h : RecordLawful e.members e.records[r]) :
    (e.drop x r).1.records = e.records.set r (e.records[r].takeOut x) ∧
    ∀ i : Fin 96,
      (e.drop x r).1.pool[i] = (e.pool[i] && !(slotsLeft e.records[r] (e.records[r].takeOut x)).contains i.val) := by
  by_cases hx : e.records[r].has x = true
  · rw [drop_of_has hx]
    exact ⟨rfl, fun i => by simp [ReplicaEngine.rewrite]⟩
  · have hn : e.records[r].has x = false := by simpa using hx
    rw [drop_of_not_has hn, takeOut_of_not_has h hn]
    exact ⟨by simp, fun i => by simp [slotsLeft]⟩

/-- Settles O19, by the DROP's effects at an ACTIVE sender and at any other. -/
theorem dropTakesItsSenderOut : Obligations.DropTakesItsSenderOut := by
  intro s f m b h hc hb
  obtain ⟨t, ht, _, hf⟩ := frameTaken h hc (drop_ofOthers hb m)
  obtain ⟨_, _, _, _, _, hv, _⟩ := h
  refine ⟨fun r hr hx hl => ?_, fun hn => ?_⟩
  · have he : (effectsOf s.re f).replica = (s.re.drop f.sender r).1 := by
      simp only [effectsOf, hb]
      exact dropEffects_of_active hr hx
    obtain ⟨hrec, hpool⟩ := drop_of_lawful (x := f.sender) hl
    obtain ⟨hmem, hcount, hval, _⟩ := drop_keeps s.re f.sender r
    have hre : t.re = (s.re.drop f.sender r).1.advance := by rw [hf.re, he]
    refine ⟨t, ht, ⟨by rw [hre]; exact hrec, has_takeOut _ _, by rw [hre]; exact hpool⟩, by rw [hre]; exact hmem, ?_, ?_,
      hf.counted, hf.state, hf.board, hf.outside⟩
    · rw [hre, ← hcount]
      rfl
    · rw [hre]
      exact hval.trans hv
  · have he : (effectsOf s.re f).replica = s.re := by
      simp only [effectsOf, hb]
      exact dropEffects_unchanged hn
    exact ⟨t, ht, hf.re_of_no_effect he, hf.state, hf.board, hf.outside⟩

end Sys2Proof.Machine
end

section
/-! PROOF. The membership frames, the PRESENCE and the SNAPSHOT parts of other stations (O20, O21): who is then the
reference, what becomes of the snapshot job, and what the silence records take. -/

namespace Sys2Proof.Machine

open Sys2Proof.Safety

/-! ### The reference (R11) -/

theorem lowestActive_iff (e : ReplicaEngine) (x : Station) :
    e.lowestActive = some x ↔ e.members[x] = .active ∧ ∀ y < x, e.members[y] ≠ .active := by
  rw [ReplicaEngine.lowestActive, allStations, ← Fin.find?_eq_find?_finRange, Fin.find?_eq_some_iff]
  simp only [beq_iff_eq, beq_eq_false_iff_ne, ne_eq]

theorem reference_iff (e : ReplicaEngine) (x : Station) :
    e.reference = some x ↔ e.valid = true ∧ e.members[x] = .active ∧ ∀ y < x, e.members[y] ≠ .active := by
  unfold ReplicaEngine.reference
  split
  next hv => simp only [lowestActive_iff, hv, true_and]
  next hv => simp [hv]

/-- The reference as it stands after one member record was set. -/
theorem reference_of_set {e e' : ReplicaEngine} {x : Station} {st : MemberState} (hv : e'.valid = e.valid)
    (hm : e'.members = e.members.set x st) {y : Station} (hy : y ≠ x) (h : e.reference = some y)
    (hx : st = .active → y < x) : e'.reference = some y := by
  obtain ⟨hval, hact, hlow⟩ := (reference_iff e y).mp h
  refine (reference_iff e' y).mpr ⟨hv.trans hval, ?_, fun z hz => ?_⟩
  · rwa [hm, set_getElem_of_ne _ _ hy]
  · rw [hm, set_getElem]
    split
    next hzx => exact fun ha => lt_asymm (hx ha) (hzx ▸ hz)
    next => exact hlow z hz

/-- A member made ACTIVE below the reference takes the role over. -/
theorem reference_of_set_active {e e' : ReplicaEngine} {x y : Station} (hv : e'.valid = e.valid)
    (hm : e'.members = e.members.set x .active) (hxy : x < y) (h : e.reference = some y) : e'.reference = some x := by
  obtain ⟨hval, _, hlow⟩ := (reference_iff e y).mp h
  refine (reference_iff e' x).mpr ⟨hv.trans hval, ?_, fun z hz => ?_⟩
  · rw [hm, set_getElem_self]
  · rw [hm, set_getElem_of_ne _ _ hz.ne]
    exact hlow z (hz.trans hxy)

/-! ### The snapshot job (R40, R47) -/

/-- Step 7 of R27 on the queue alone, at station me, which was the reference or not before. -/
def roleTaken (f : Frame) (me : Station) (was : Bool) (after : ReplicaEngine) (q : TransmitQueue) : TransmitQueue :=
  if f.isJoin && (after.reference == some me) && f.sender != me then q.arm
  else if was && !(after.reference == some me) then q.roleLost
  else q

theorem referenceDerived_tq (f : Frame) (was : Bool) (s : State) :
    (referenceDerived f was s).tq = roleTaken f s.me was s.re s.tq := by
  unfold referenceDerived roleTaken
  dsimp only
  split
  · rfl
  · split <;> rfl

/-- The queue after a frame of another station: additions and withdrawals before and after the change of the role. -/
theorem afterFrame_tq (f : Frame) (s : State) :
    ∃ q, EntriesMoved s.tq q ∧
      EntriesMoved (roleTaken f s.me (s.re.reference == some s.me) (effectsOf s.re f).replica.advance q)
        (afterFrame f s).tq := by
  refine ⟨(checked false f (received s)).tq, checked_moved false f (received s), ?_⟩
  have hm : (countRefusal false (effectsOf s.re f) (countUp .framesApplied
      ((checked false f (received s)).withRe (effectsOf s.re f).replica.advance))).me = s.me := by
    simp [State.me, received]
  have hq := referenceDerived_tq f (s.re.reference == some s.me) (countRefusal false (effectsOf s.re f)
    (countUp .framesApplied ((checked false f (received s)).withRe (effectsOf s.re f).replica.advance)))
  simp only [hm, countRefusal_keeps, countUp_keeps, State.withRe_re, State.withRe_tq] at hq
  rw [← hq]
  have hb := (takeBatch_moved (batchOf s.me false f s.re (effectsOf s.re f)) (referenceDerived f
    (s.re.reference == some s.me) (countRefusal false (effectsOf s.re f) (countUp .framesApplied
      ((checked false f (received s)).withRe (effectsOf s.re f).replica.advance)))))
  refine hb.trans ?_
  have hr := reported_moved (effectsOf s.re f) (applied false f (received s))
  simpa only [afterFrame, silenceHeard_keeps, applied, received_keeps, received_me] using hr

/-- The end of an event leaves the queue, the binding unit and the attempt to any station but a parked one. -/
theorem settle_of_not_parked {s : State} (h : s.tc.state ≠ .parked) :
    (settle s).tq = s.tq ∧ (settle s).bu = s.bu ∧ (settle s).xi = s.xi := tellWork_of_not_parked s h

@[simp] theorem afterFrame_tc (f : Frame) (s : State) : (afterFrame f s).tc = s.tc := by simp [afterFrame]

/-! ### The silence records (R167, R168) -/

theorem memberReport_silence (x : Station) {st : MemberState} (h : st ≠ .active) (s : State) :
    (memberReport x st s).sc.silence[x] = { watched := st == .joining, count := 0 } := by
  cases st with
  | active => exact absurd rfl h
  | joining => exact set_getElem_self _ _ _
  | absent => exact set_getElem_self _ _ _

/-- An accepted frame leaves a silence record whose count is 0. -/
theorem silenceHeard_of_zero {x : Station} {s : State} {b : Bool} (h : s.sc.silence[x] = { watched := b, count := 0 })
    (y : Station) : (silenceHeard y s).sc.silence[x] = { watched := b, count := 0 } := by
  unfold silenceHeard
  split
  · simp only [withSilence_sc]
    rw [set_getElem]
    split
    next hxy => rw [hxy.symm, h]
    next => exact h
  · exact h

/-- An accepted frame returns its sender's watched count to 0 (R168). -/
theorem silenceHeard_of_watched {x : Station} {s : State} (h : s.sc.silence[x].watched = true) :
    (silenceHeard x s).sc.silence[x] = { watched := true, count := 0 } := by
  unfold silenceHeard
  rw [if_pos h, withSilence_sc, set_getElem_self]
  exact congrArg (Silence.mk · 0) h

/-! ### A station taken out of the table (R17, R38, R39, R41) -/

/-- The effects take station x out of every record and set its member record. -/
structure TakesOut (e : ReplicaEngine) (x : Station) (st : MemberState) (y : Effects) : Prop where
  records : ∀ r : Resource, y.replica.records[r] = e.records[r].takeOut x
  members : y.replica.members = e.members.set x st
  member : y.member = some (x, st)
  expelled : ∀ p ∈ y.expelled, p.1 = x

theorem removal_takesOut (e : ReplicaEngine) (x : Station) (st : MemberState) : TakesOut e x st (removal e x st) where
  records r := by simp [removal, Effects.none, ReplicaEngine.removeStation]
  members := rfl
  member := rfl
  expelled := nofun

/-- A station that stands in no record of a lawful table is taken out of each by being left. -/
theorem takeOut_of_absent {e : ReplicaEngine} (h : TableLawful e) {x : Station} (hx : e.members[x] ≠ .active)
    (r : Resource) : e.records[r].takeOut x = e.records[r] := by
  refine takeOut_of_not_has (h.1 r) ?_
  rw [has_false_iff]
  obtain ⟨_, _, _, _, _, _, hact⟩ := h.1 r
  exact fun hm => hx (hact x hm)

theorem joinEffects_takesOut {e : ReplicaEngine} (h : TableLawful e) (x : Station) :
    TakesOut e x .joining (joinEffects e x) := by
  unfold joinEffects
  split
  next ha =>
    exact ⟨fun r => (takeOut_of_absent h (by simp [ha]) r).symm, rfl, rfl, nofun⟩
  next => exact removal_takesOut e x .joining

theorem expel_takesOut {e : ReplicaEngine} {f : Frame} {x : Station} {why : ExpelReason} (hb : f.body = .expel x why)
    (hs : e.members[f.sender] = .active) (hx : e.members[x] ≠ .absent) : TakesOut e x .absent (effectsOf e f) := by
  obtain ⟨hrec, hmem, hm, _⟩ := removal_takesOut e x .absent
  simp only [effectsOf, hb, expelEffects]
  rw [if_pos ⟨hs, hx⟩]
  exact ⟨hrec, hmem, hm, by rintro _ ⟨⟩; rfl⟩

theorem effectsOf_takesOut {e : ReplicaEngine} (h : TableLawful e) {f : Frame} {x : Station} {st : MemberState}
    (hk : (∃ why, f.body = .expel x why ∧ e.members[f.sender] = .active ∧ e.members[x] ≠ .absent ∧ st = .absent) ∨
      (f.body = .leave ∧ x = f.sender ∧ e.members[x] ≠ .absent ∧ st = .absent) ∨
      (f.body = .join ∧ x = f.sender ∧ st = .joining)) : TakesOut e x st (effectsOf e f) := by
  rcases hk with ⟨why, hb, hs, hx, rfl⟩ | ⟨hb, rfl, hx, rfl⟩ | ⟨hb, rfl, rfl⟩
  · exact expel_takesOut hb hs hx
  · simp only [effectsOf, hb, leaveEffects]
    rw [if_neg hx]
    exact removal_takesOut e _ .absent
  · simp only [effectsOf, hb]
    exact joinEffects_takesOut h _

theorem TakesOut.ofOthers {e : ReplicaEngine} {x : Station} {st : MemberState} {y : Effects} (h : TakesOut e x st y)
    {m : Station} (hx : x ≠ m) : OfOthers m y where
  member p hp := by
    obtain rfl := Option.some.inj (h.member.symm.trans hp)
    exact hx
  expelled p hp := h.expelled p hp ▸ hx

theorem TakesOut.silence {f : Frame} {s : State} {x : Station} {st : MemberState}
    (h : TakesOut s.re x st (effectsOf s.re f)) (hst : st ≠ .active) :
    (afterFrame f s).sc.silence[x] = { watched := st == .joining, count := 0 } := by
  refine silenceHeard_of_zero ?_ f.sender
  unfold reported
  rw [h.member]
  exact memberReport_silence x hst _

/-! ### A JOIN at the reference (R40, R86, R129, R130) -/

theorem joinEffects_members (e : ReplicaEngine) (x : Station) :
    (joinEffects e x).replica.members = e.members.set x .joining := by
  unfold joinEffects
  split <;> rfl

theorem join_ofOthers {e : ReplicaEngine} {f : Frame} (hb : f.body = .join) {m : Station} (hm : m ≠ f.sender) :
    OfOthers m (effectsOf e f) := by
  simp only [effectsOf, hb, joinEffects]
  split
  · exact ⟨by rintro _ ⟨⟩; exact hm.symm, nofun⟩
  · exact ⟨by rintro _ ⟨⟩; exact hm.symm, nofun⟩

/-- A snapshot job newly armed is handed by its first part. -/
theorem hand_of_armed {q : TransmitQueue} (hn : ∀ e ∈ q.entries, e.inFlight = false) (hj : q.job = .armed) :
    q.hand = ({ q with job := .running 0 (some 1) }, some { sent := .part 0, first := true }) := by
  have hf : q.entries.find? (·.inFlight) = none := List.find?_eq_none.mpr fun e he => by simp [hn e he]
  simp only [TransmitQueue.hand, hf, hj]

/-- A run that begins sets the pinned flag, and its first part goes onto the pair (R86, R129). -/
theorem askNext_of_run_begun {s : State} (hn : ∀ e ∈ s.tq.entries, e.inFlight = false) (hj : s.tq.job = .armed) :
    askNext s =
      beginAttempt (.part 0)
        ((s.withTq { s.tq with job := .running 0 (some 1) }).withTc { s.tc with pinned := true }) := by
  unfold askNext
  rw [hand_of_armed hn hj, hj]
  rfl

/-- A parked station told of an armed job begins the run at once, pinned. -/
theorem tellWork_of_parked_armed {s : State} (hst : s.tc.state = .parked) (hw : s.tc.hasWork = false)
    (hn : ∀ e ∈ s.tq.entries, e.inFlight = false) (hj : s.tq.job = .armed) :
    (tellWork s).tc.state = .holding ∧ (tellWork s).tc.pinned = true ∧ (tellWork s).tq.job = .running 0 (some 1) ∧
      (tellWork s).xi.attempt =
        some { frame := s.frameOf (.part 0), sent := .part 0, phase := .sending, discarded := false, unreported := false } := by
  have hwork : s.tq.hasWork = true := by simp [TransmitQueue.hasWork, hj, Job.hasWork]
  have htell : tellWork s = noteWork (askNext ((noteWork s).withTenure .holding)) := by
    unfold tellWork
    simp [noteWork, hst, hw, hwork]
  have hask := askNext_of_run_begun (s := (noteWork s).withTenure .holding) (by simpa using hn) (by simpa using hj)
  rw [htell, hask]
  exact ⟨rfl, rfl, rfl, rfl⟩

/-- The end of an event at a parked station with a job newly armed. -/
theorem settle_run_begins {s : State} (hst : s.tc.state = .parked) (hw : s.tc.hasWork = false)
    (hn : ∀ e ∈ s.tq.entries, e.inFlight = false) (hj : s.tq.job = .armed) (hv : s.re.valid = true) :
    (settle s).tc.state = .holding ∧ (settle s).tc.pinned = true ∧ (settle s).tq.job = .running 0 (some 1) ∧
      (settle s).pins.xten = .asserted ∧
      ∃ a, (settle s).xi.attempt = some a ∧ a.sent = .part 0 ∧ a.phase = .sending ∧
        a.frame.count = (settle s).re.count ∧ a.frame.body = .snapshot (.members (settle s).re.members) := by
  obtain ⟨hhold, hpin, hrun, hatt⟩ := tellWork_of_parked_armed hst hw hn hj
  refine ⟨hhold, hpin, hrun, ?_, _, hatt, rfl, rfl, ?_, ?_⟩
  · simp [State.drivenPins, TenureController.xtenDrive, hhold]
  · simp [State.frameOf, hv]
  · simp [State.frameOf, State.bodyOfSent, ReplicaEngine.part]

/-! ### Membership frames (O20) -/

theorem effectsOf_none_ofOthers {e : ReplicaEngine} {f : Frame} (h : effectsOf e f = Effects.none e) (m : Station) :
    OfOthers m (effectsOf e f) := ofOthers_of_none (by rw [h]; rfl) (by rw [h]; rfl)

theorem effectsOf_eq_none {e : ReplicaEngine} {f : Frame}
    (h : (∃ x why, f.body = .expel x why ∧ (e.members[f.sender] ≠ .active ∨ e.members[x] = .absent)) ∨
      (f.body = .leave ∧ e.members[f.sender] = .absent)) : effectsOf e f = Effects.none e := by
  rcases h with ⟨x, why, hb, hx⟩ | ⟨hb, hx⟩
  · simp only [effectsOf, hb, expelEffects]
    exact if_neg fun ⟨ha, hn⟩ => hx.elim (· ha) hn
  · simp only [effectsOf, hb, leaveEffects]
    exact if_pos hx

/-- A JOIN of another station takes the role from no reference. -/
theorem reference_of_join {e : ReplicaEngine} {f : Frame} (hb : f.body = .join) {m : Station} (hm : m ≠ f.sender)
    (h : e.reference = some m) : (effectsOf e f).replica.advance.reference = some m := by
  obtain ⟨-, hv, -⟩ := effectsOf_keeps e f
  refine reference_of_set (x := f.sender) (st := .joining) hv ?_ hm h nofun
  simp only [effectsOf, hb]
  exact joinEffects_members e f.sender

theorem arm_job {q : TransmitQueue} (h : q.job = .clear ∨ q.job = .armed) :
    q.arm.job = .armed ∧ q.arm.reArm = false := by
  unfold TransmitQueue.arm
  rcases h with h | h <;> simp [h]

theorem arm_entries (q : TransmitQueue) : q.arm.entries = q.entries := by
  unfold TransmitQueue.arm
  split <;> rfl

theorem arm_of_running {q : TransmitQueue} {k : Fin 9} {n : Option Nat} (h : q.job = .running k n) : q.arm = q := by
  unfold TransmitQueue.arm
  rw [h]

/-- Settles O20, by the effects that take a station out, by those of a no-op, and by the queue after a JOIN. -/
theorem membershipFrames : Obligations.MembershipFrames := by
  intro s f m h hc
  obtain ⟨_, ⟨hwork, _⟩, _, hn, hm, hv, _⟩ := id h
  refine ⟨fun x st htable hx hk => ?_, fun hk => ?_, fun hb => ?_⟩
  · have he := effectsOf_takesOut htable hk
    obtain ⟨t, ht, rfl, hf⟩ := frameTaken h hc (he.ofOthers hx)
    have hst : st ≠ .active := by rcases hk with ⟨_, _, _, _, rfl⟩ | ⟨_, _, _, rfl⟩ | ⟨_, _, rfl⟩ <;> decide
    obtain ⟨hcount, hvalid, _⟩ := effectsOf_keeps s.re f
    refine ⟨_, ht, fun r => ?_, ?_, ?_, ?_, ?_, hf.counted, hf.state, hf.board, hf.outside⟩
    · have hr : (settle (afterFrame f s)).re.records[r] = s.re.records[r].takeOut x := by
        rw [hf.re]
        exact he.records r
      exact ⟨hr, hr ▸ has_takeOut _ _⟩
    · rw [hf.re]
      exact he.members
    · rw [hf.re, ← hcount]
      rfl
    · rw [hf.re]
      exact hvalid.trans hv
    · simpa using he.silence hst
  · have he := effectsOf_eq_none hk
    obtain ⟨t, ht, _, hf⟩ := frameTaken h hc (effectsOf_none_ofOthers he m)
    exact ⟨t, ht, hf.re_of_no_effect (by rw [he]; rfl), hf.state, hf.board, hf.outside⟩
  · obtain ⟨t, ht, hte, hf⟩ := frameTaken h hc (join_ofOthers hb hm)
    obtain ⟨q, hq, hrole⟩ := afterFrame_tq f s
    rw [me_of_number hn, ← hf.re] at hrole
    have hjoin : f.isJoin = true := by simp [Frame.isJoin, hb]
    have armed (hr : t.re.reference = some m) : EntriesMoved q.arm (afterFrame f s).tq := by
      have hsender : f.sender ≠ m := hm.symm
      rwa [roleTaken, if_pos (by simp [hjoin, hr, hsender])] at hrole
    have htq (hp : s.tc.state ≠ .parked) : t.tq = (afterFrame f s).tq := by
      rw [hte, (settle_of_not_parked (by simpa using hp)).1]
    refine ⟨t, ht, fun hp hr => ?_, fun hp hr => ?_, fun hp hempty hr => ?_⟩
    · rw [htq hp, (armed hr).job, (armed hr).reArm]
      refine ⟨fun hj => arm_job (by rwa [hq.job]), fun k n hj => ?_⟩
      rw [arm_of_running (hq.job.trans hj), hq.job, hq.reArm]
      exact ⟨hj, rfl⟩
    · have hwas : ¬ s.re.reference = some m := fun hw => hr (hf.re ▸ reference_of_join hb hm hw)
      rw [roleTaken, if_neg (by simp [hr]), if_neg (by simp [hwas])] at hrole
      rw [htq hp, hrole.job, hrole.reArm, hq.job, hq.reArm]
      exact ⟨rfl, rfl⟩
    · have hidle : (afterFrame f s).tc.hasWork = false := by rw [afterFrame_tc, hwork, hempty]; rfl
      have hnone : ∀ e ∈ (afterFrame f s).tq.entries, e.inFlight = false := fun e he => by
        by_contra hi
        rw [Bool.not_eq_false] at hi
        have hmem : e ∈ q.entries := arm_entries q ▸ (armed hr).inFlight e he hi
        simpa [hempty, TransmitQueue.empty] using hq.inFlight e hmem hi
      have hjob : (afterFrame f s).tq.job = .armed := by
        rw [(armed hr).job]
        exact (arm_job (.inl (by rw [hq.job, hempty]; rfl))).1
      have hval : (afterFrame f s).re.valid = true := by
        obtain ⟨-, hvalid, -⟩ := effectsOf_keeps s.re f
        simpa [afterFrame, ReplicaEngine.advance, hv] using hvalid
      rw [hte]
      exact settle_run_begins (by simpa using hp) hidle hnone hjob hval

/-! ### A PRESENCE and a SNAPSHOT part (O21) -/

/-- The effects promote station x, or touch nothing: no record, no pool entry, no other member. -/
structure Promotes (e : ReplicaEngine) (f : Frame) (y : Effects) : Prop where
  replica :
    y.replica =
      { e with
        members :=
          if f.syncedPresence = true ∧ e.members[f.sender] = .joining then e.members.set f.sender .active
          else e.members }
  member : ∀ p ∈ y.member, p = (f.sender, .active)
  expelled : y.expelled = none
  freed : y.freed = false

theorem effectsOf_promotes (e : ReplicaEngine) {f : Frame}
    (hb : (∃ synced d, f.body = .presence synced d) ∨ ∃ p, f.body = .snapshot p) : Promotes e f (effectsOf e f) := by
  rcases hb with ⟨synced, d, hb⟩ | ⟨p, hb⟩
  · have hs : f.syncedPresence = synced := by simp [Frame.syncedPresence, hb]
    simp only [effectsOf, hb, presenceEffects]
    split
    next hc =>
      rw [Bool.and_eq_true, beq_iff_eq] at hc
      exact ⟨by rw [hs, if_pos hc]; rfl, by rintro _ ⟨⟩; rfl, rfl, rfl⟩
    next hc =>
      rw [Bool.and_eq_true, beq_iff_eq] at hc
      exact ⟨by rw [hs, if_neg hc]; rfl, nofun, rfl, rfl⟩
  · have hs : f.syncedPresence = false := by simp [Frame.syncedPresence, hb]
    simp only [effectsOf, hb]
    exact ⟨by simp [hs, Effects.none], nofun, rfl, rfl⟩

theorem Promotes.ofOthers {e : ReplicaEngine} {f : Frame} {y : Effects} (h : Promotes e f y) {m : Station}
    (hm : m ≠ f.sender) : OfOthers m y where
  member p hp := by rw [h.member p hp]; exact hm.symm
  expelled := by simp [h.expelled]

theorem holderOf_isSome (r : Record) (x : Station) : (r.holderOf x).isSome = r.holds x := by
  rw [Record.holderOf, Record.holds, List.isSome_find?]

/-- A record that a frame left as it was gives this station no entry (R50). -/
theorem standingEntry_self (me : Station) (byOutcome : Bool) (r : Resource) (k : Record) :
    standingEntry me false byOutcome r k k = [] := by
  unfold standingEntry
  rw [if_neg (by decide)]
  split
  · rfl
  next h hh =>
    have hk : k.holds me = true := by rw [← holderOf_isSome, hh]; rfl
    rw [if_pos hk, if_pos rfl]

theorem batchOf_of_records {me : Station} {f : Frame} {before : ReplicaEngine} {x : Effects}
    (hr : x.replica.records = before.records) (he : x.expelled = none) (hf : x.freed = false) :
    batchOf me false f before x = [] := by
  have hself (r : Resource) : standingEntry me false (ownClaimOn false f r) r before.records[r] before.records[r] = [] :=
    standingEntry_self _ _ _ _
  simp only [batchOf, hr, he, hf]
  simpa using fun r _ => hself r

theorem reported_of_promotes {e : ReplicaEngine} {f : Frame} {y : Effects} (h : Promotes e f y) (s : State) :
    reported y s = s := by
  unfold reported
  split
  · rfl
  next x st hm =>
    obtain ⟨rfl, rfl⟩ := Prod.mk.inj (h.member _ hm)
    rfl

/-- A frame with an empty batch leaves the binding unit alone. -/
theorem applied_bu_of_batch {f : Frame} {s : State} (h : batchOf s.me false f s.re (effectsOf s.re f) = []) :
    (applied false f s).bu = s.bu := by
  unfold applied
  rw [h]
  simp [takeBatch]

theorem hand_of_none {q : TransmitQueue} (h : q.hand.2 = none) : q.hand.1 = q := by
  revert h
  unfold TransmitQueue.hand
  (repeat' split) <;> simp

@[simp] theorem askNext_tq (s : State) : (askNext s).tq = s.tq.hand.1 := by
  unfold askNext
  dsimp only
  split
  next h => exact (hand_of_none h).symm
  · simp only [beginAttempt_keeps, reportTaken_keeps]
    split <;> rfl

/-- The end of an event leaves the job to a station that is not parked, or had work before, or has no job to begin. -/
theorem settle_job {s : State} (h : s.tc.state ≠ .parked ∨ s.tc.hasWork = true ∨ s.tq.job = .clear) :
    (settle s).tq.job = s.tq.job ∧ (settle s).tq.reArm = s.tq.reArm := by
  rcases h with h | h | h
  · rw [(settle_of_not_parked h).1]
    exact ⟨rfl, rfl⟩
  · rw [settle_tq]
    unfold tellWork
    dsimp only
    split
    · simp
    · simp
    next hf _ => simp [h] at hf
    · simp
  · have hand (q : TransmitQueue) (hq : q.job = .clear) : q.hand.1.job = q.job ∧ q.hand.1.reArm = q.reArm := by
      unfold TransmitQueue.hand
      (repeat' split) <;> simp_all
    rw [settle_tq]
    unfold tellWork
    dsimp only
    split
    · simp
    · simp
    · simpa using hand s.tq h
    · simp

theorem roleLost_of_armed {q : TransmitQueue} (h : q.job = .armed) : q.roleLost.job = .clear ∧ q.roleLost.reArm = false := by
  simp [TransmitQueue.roleLost, h]

theorem roleLost_of_not_armed {q : TransmitQueue} (h : q.job ≠ .armed) : q.roleLost = q := by
  unfold TransmitQueue.roleLost
  split
  next ha => exact absurd ha h
  all_goals rfl

/-- The role passes from station m by a promotion just where the member promoted ranks below it (R11, R47). -/
theorem role_passes_iff {e e' : ReplicaEngine} {f : Frame} {m : Station} (hm : m ≠ f.sender) (hv : e'.valid = e.valid)
    (hmem : e'.members =
      if f.syncedPresence = true ∧ e.members[f.sender] = .joining then e.members.set f.sender .active else e.members) :
    (e.reference = some m ∧ e'.reference ≠ some m) ↔
      f.syncedPresence = true ∧ e.members[f.sender] = .joining ∧ f.sender < m ∧ e.reference = some m := by
  by_cases hp : f.syncedPresence = true ∧ e.members[f.sender] = .joining
  · rw [if_pos hp] at hmem
    refine ⟨fun ⟨hr, hn⟩ => ⟨hp.1, hp.2, ?_, hr⟩, fun ⟨_, _, hlt, hr⟩ => ⟨hr, ?_⟩⟩
    · by_contra hlt
      exact hn (reference_of_set hv hmem hm hr fun _ => lt_of_le_of_ne (not_lt.mp hlt) hm)
    · rw [reference_of_set_active hv hmem hlt hr]
      simpa using hm.symm
  · rw [if_neg hp] at hmem
    have hsame : e'.reference = e.reference := by
      simp only [ReplicaEngine.reference, ReplicaEngine.lowestActive, hv, hmem]
    rw [hsame]
    exact ⟨fun ⟨hr, hn⟩ => absurd hr hn, fun ⟨hs, hj, _⟩ => absurd ⟨hs, hj⟩ hp⟩

/-- Settles O21, by the effects of a promotion, the empty batch, and the role that passes to a lower member. -/
theorem presenceAndSnapshotParts : Obligations.PresenceAndSnapshotParts := by
  intro s f m h hc hb
  obtain ⟨_, ⟨hwork, _⟩, _, hn, hm, hv, _⟩ := id h
  have he := effectsOf_promotes s.re hb
  obtain ⟨t, ht, hte, hf⟩ := frameTaken h hc (he.ofOthers hm)
  have hre : t.re = { s.re with
      members := if f.syncedPresence = true ∧ s.re.members[f.sender] = .joining then s.re.members.set f.sender .active
        else s.re.members
      count := s.re.count + 1 } := by rw [hf.re, he.replica]; rfl
  have hreported (u : State) : reported (effectsOf s.re f) u = u := reported_of_promotes he u
  have hbatch : batchOf s.me false f s.re (effectsOf s.re f) = [] :=
    batchOf_of_records (by rw [he.replica]) he.expelled he.freed
  refine ⟨t, ht, hre, fun hw => ?_, hf.counted, fun hp => ?_, ?_, hf.state, hf.board, hf.outside⟩
  · simp only [hte, settle_keeps, afterFrame, hreported]
    exact silenceHeard_of_watched (by simpa using hw)
  · rw [hte, (settle_of_not_parked (by simpa using hp)).2.1]
    simp only [afterFrame, silenceHeard_keeps, hreported]
    exact applied_bu_of_batch (s := received s) hbatch
  · have hjoin : f.isJoin = false := by rcases hb with ⟨_, _, hb⟩ | ⟨_, hb⟩ <;> simp [Frame.isJoin, hb]
    obtain ⟨q, hq, hrole⟩ := afterFrame_tq f s
    have hpass := role_passes_iff (e := s.re) (e' := t.re) hm (by rw [hre]) (by rw [hre])
    rw [me_of_number hn, ← hf.re, roleTaken, if_neg (by simp [hjoin])] at hrole
    simp only [Bool.and_eq_true, Bool.not_eq_true', beq_iff_eq, beq_eq_false_iff_ne, hpass] at hrole
    have htq : t.tq.job = (afterFrame f s).tq.job ∧ t.tq.reArm = (afterFrame f s).tq.reArm := by
      rw [hte]
      refine settle_job ?_
      by_cases hw : s.tc.hasWork = true
      · exact .inr (.inl (by simpa using hw))
      · have hj : s.tq.job = .clear := by
          rw [hwork, TransmitQueue.hasWork, Bool.or_eq_true, not_or] at hw
          cases hjob : s.tq.job <;> simp_all [Job.hasWork]
        refine .inr (.inr (hrole.job.trans ?_))
        rw [roleLost_of_not_armed (by simp [hq.job, hj]), ite_self, hq.job, hj]
    rw [htq.1, htq.2, hrole.job, hrole.reArm]
    refine ⟨fun ⟨hs, hj, hlt, hr⟩ => ?_, fun hlost ha => ?_, fun hnot => ?_⟩
    · exact reference_of_set_active (e := s.re) (by rw [hre]) (by rw [hre, if_pos ⟨hs, hj⟩]) hlt hr
    · rw [if_pos hlost]
      exact roleLost_of_armed (hq.job.trans ha)
    · rw [← hq.job, ← hq.reArm]
      split
      next hlost => rw [roleLost_of_not_armed fun ha => hnot ⟨hlost, hq.job ▸ ha⟩]; exact ⟨rfl, rfl⟩
      next => exact ⟨rfl, rfl⟩

end Sys2Proof.Machine
end

section
/-! PROOF. The local claim of one resource, through the operations on the Local Claim Table, the end of an event and the
levels of GNT and YLD (R57, R68, R76, R77). -/

namespace Sys2Proof.Machine

open Sys2Proof.Safety

/-! ### The look-up of a local claim -/

theorem claimFor_resource {b : BindingUnit} {r : Resource} {c : LocalClaim} (h : b.claimFor r = some c) :
    c.resource = r := by simpa using List.find?_some h

theorem claimFor_mem {b : BindingUnit} {r : Resource} {c : LocalClaim} (h : b.claimFor r = some c) : c ∈ b.claims :=
  List.mem_of_find?_eq_some h

/-- A look-up in a table whose claims are rewritten in place by a function that keeps their resources. -/
theorem find?_map_resource (g : LocalClaim → LocalClaim) (hg : ∀ d, (g d).resource = d.resource) (r : Resource)
    (cs : List LocalClaim) :
    (cs.map g).find? (fun c => c.resource == r) = (cs.find? fun c => c.resource == r).map g := by
  rw [List.find?_map]
  simp only [Function.comp_def, hg]

section
variable (s : State)

theorem putClaim_claimFor (c : LocalClaim) (r : Resource) :
    (putClaim c s).bu.claimFor r = (s.bu.claimFor r).map fun d => if d.resource = c.resource then c else d := by
  refine find?_map_resource _ (fun d => ?_) r s.bu.claims
  split
  next h => exact h.symm
  next => rfl

theorem putClaim_claimFor_same {c d : LocalClaim} {r : Resource} (hr : c.resource = r) (h : s.bu.claimFor r = some d) :
    (putClaim c s).bu.claimFor r = some c := by
  rw [putClaim_claimFor, h, Option.map_some, if_pos ((claimFor_resource h).trans hr.symm)]

theorem putClaim_claimFor_of_ne {c : LocalClaim} {r : Resource} (hr : c.resource ≠ r) :
    (putClaim c s).bu.claimFor r = s.bu.claimFor r := by
  rw [putClaim_claimFor]
  cases h : s.bu.claimFor r with
  | none => rfl
  | some d => rw [Option.map_some, if_neg fun he => hr (he.symm.trans (claimFor_resource h))]

/-- A local claim written back stands for its resource in every place of the table. -/
theorem mem_putClaim {c d : LocalClaim} (h : d ∈ (putClaim c s).bu.claims) (hr : d.resource = c.resource) : d = c := by
  obtain ⟨a, _, rfl⟩ := List.mem_map.mp h
  by_cases ha : a.resource = c.resource
  · exact if_pos ha
  · rw [if_neg ha] at hr
    exact absurd hr ha

theorem onClaim_of_some {r : Resource} {c : LocalClaim} (h : s.bu.claimFor r = some c)
    (f : LocalClaim → State → State) : onClaim r f s = f c s := by
  unfold onClaim
  rw [h]

theorem claimAfresh_claimFor_of_ne {c : LocalClaim} {r : Resource} (hr : c.resource ≠ r) :
    (claimAfresh c s).bu.claimFor r = s.bu.claimFor r := putClaim_claimFor_of_ne s (c := c.to .queued) hr

/-! ### What leaves a local claim as it is -/

/-- TAKEN moves a record in QUEUED alone (R61). -/
theorem takenReport_claimFor {r : Resource} {l : LocalClaim} (h : s.bu.claimFor r = some l) (hl : l.state ≠ .queued)
    (r' : Resource) : (takenReport r' s).bu.claimFor r = some l := by
  unfold takenReport onClaim
  split
  · exact h
  next c hc =>
    dsimp only
    split
    next hq =>
      have hne : c.resource ≠ r := fun he => by
        obtain rfl := he.symm.trans (claimFor_resource hc)
        exact hl (Option.some.inj (h.symm.trans hc) ▸ hq)
      exact (putClaim_claimFor_of_ne s (c := c.to .sending) hne).trans h
    all_goals exact h

theorem reportTaken_claimFor {r : Resource} {l : LocalClaim} (h : s.bu.claimFor r = some l) (hl : l.state ≠ .queued)
    (k : Handed) : (reportTaken k s).bu.claimFor r = some l := by
  unfold reportTaken
  split
  · split
    · exact takenReport_claimFor s h hl _
    · exact h
  all_goals exact h

theorem askNext_claimFor {r : Resource} {l : LocalClaim} (h : s.bu.claimFor r = some l) (hl : l.state ≠ .queued) :
    (askNext s).bu.claimFor r = some l := by
  unfold askNext
  dsimp only
  split
  · exact h
  · simp only [beginAttempt_keeps]
    refine reportTaken_claimFor _ ?_ hl _
    split <;> exact h

/-- The end of an event leaves a local claim that is not in QUEUED. -/
theorem settle_claimFor {r : Resource} {l : LocalClaim} (h : s.bu.claimFor r = some l) (hl : l.state ≠ .queued) :
    (settle s).bu.claimFor r = some l := by
  rw [settle_bu]
  unfold tellWork
  dsimp only
  split
  · simpa using h
  · simpa using h
  · simpa using askNext_claimFor ((noteWork s).withTenure .holding) h hl
  · simpa using h

/-- A FREED entry moves the records in REFUSED alone (R75). -/
theorem freedEntry_claimFor {r : Resource} (h : ∀ c ∈ s.bu.claims, c.resource = r → c.state ≠ .refused) :
    (freedEntry s).bu.claimFor r = s.bu.claimFor r := by
  unfold freedEntry
  generalize s.bu.claims = cs at h
  induction cs generalizing s with
  | nil => rfl
  | cons c cs ih =>
    rw [List.foldl_cons, ih _ fun d hd => h d (List.mem_cons_of_mem c hd)]
    split
    next hc => exact claimAfresh_claimFor_of_ne s fun he => h c List.mem_cons_self he hc
    next => rfl

end

/-! ### The levels of GNT and YLD -/

theorem board_fields {b b' : BindingUnit} (h : b.board = b'.board) :
    b.bindings = b'.bindings ∧ b.lines = b'.lines ∧ b.latches = b'.latches := by
  simp only [BindingUnit.board, BindingUnit.mk.injEq, and_true] at h
  exact h

theorem config_of_board {b b' : BindingUnit} (h : b.board = b'.board) (n : BindingNo) : b.config n = b'.config n := by
  rw [BindingUnit.config, BindingUnit.config, (board_fields h).1]

theorem request_of_board {b b' : BindingUnit} (h : b.board = b'.board) (n : BindingNo) : b.request n = b'.request n := by
  obtain ⟨_, hl, ha⟩ := board_fields h
  rw [BindingUnit.request, BindingUnit.request, config_of_board h, hl, ha]

/-- GNT at a binding of a resource that is held follows the request (R76). -/
theorem gntLevel_of_held {b : BindingUnit} {n : BindingNo} {k : BindingConfig} {l : LocalClaim}
    (hk : b.config n = some k) (he : k.enabled = true) (hc : b.claimFor k.resource = some l) (hl : l.state = .held) :
    gntLevel .active b n = b.request n := by
  simp [gntLevel, hk, he, hc, hl]

/-- YLD at such a binding goes with yield seen, where the claim is yieldable (R77). -/
theorem yldLevel_of_held {b : BindingUnit} {n : BindingNo} {k : BindingConfig} {l : LocalClaim}
    (hk : b.config n = some k) (he : k.enabled = true) (hc : b.claimFor k.resource = some l) (hl : l.state = .held) :
    yldLevel .active b n = (b.request n && (l.yieldSeen && l.yieldable)) := by
  simp [yldLevel, gntLevel_of_held hk he hc hl, hk, hc]

theorem settle_gnt (s : State) (n : BindingNo) : (settle s).pins.gnt[n] = gntLevel s.sc.state (settle s).bu n := by
  simp [State.drivenPins]

theorem settle_yld (s : State) (n : BindingNo) : (settle s).pins.yld[n] = yldLevel s.sc.state (settle s).bu n := by
  simp [State.drivenPins]

/-- The pins of a binding whose resource is held at the end of an event in ACTIVE, by the board before it. -/
theorem settle_pins_of_held {s u : State} (hst : u.sc.state = .active) (hb : (settle u).bu.board = s.bu.board)
    {n : BindingNo} {k : BindingConfig} {l : LocalClaim} (hk : s.bu.config n = some k) (he : k.enabled = true)
    (hc : (settle u).bu.claimFor k.resource = some l) (hl : l.state = .held) :
    (settle u).pins.gnt[n] = s.bu.request n ∧
      (settle u).pins.yld[n] = (s.bu.request n && (l.yieldSeen && l.yieldable)) := by
  have hk' : (settle u).bu.config n = some k := (config_of_board hb n).trans hk
  rw [settle_gnt, settle_yld, hst, gntLevel_of_held hk' he hc hl, yldLevel_of_held hk' he hc hl, request_of_board hb]
  exact ⟨rfl, rfl⟩

end Sys2Proof.Machine
end

section
/-! PROOF. A CLAIM that waits (O17) and a grant by another station's DROP (O26): the batch of a frame that touches one
record, and the local claim that it finds there. -/

namespace Sys2Proof.Machine

open Sys2Proof.Safety

/-! ### The batch of a frame on one record (R50) -/

theorem flatMap_of_single {α β : Type} {g : α → List β} {a : α} {as : List α} (hn : as.Nodup) (ha : a ∈ as)
    (h : ∀ b ≠ a, g b = []) : as.flatMap g = g a := by
  obtain ⟨l, r, rfl⟩ := List.append_of_mem ha
  rw [List.nodup_append, List.nodup_cons] at hn
  obtain ⟨_, ⟨har, _⟩, hd⟩ := hn
  have hl : l.flatMap g = [] := List.flatMap_eq_nil_iff.mpr fun b hb => h b fun he => hd b hb a (by simp) he
  have hr : r.flatMap g = [] := List.flatMap_eq_nil_iff.mpr fun b hb => h b fun he => har (he ▸ hb)
  simp [hl, hr]

/-- A frame of another station that expels none and rewrites one record: that record's entry, and FREED. -/
theorem batchOf_of_one_record {me : Station} {f : Frame} {before : ReplicaEngine} {x : Effects} {r : Resource}
    (hr : ∀ r' ≠ r, x.replica.records[r'] = before.records[r']) (he : x.expelled = none) :
    batchOf me false f before x =
      standingEntry me false false r before.records[r] x.replica.records[r] ++ (if x.freed then [.freed] else []) := by
  have hentry (r' : Resource) (h : r' ≠ r) :
      standingEntry me false (ownClaimOn false f r') r' before.records[r'] x.replica.records[r'] = [] := by
    rw [hr r' h]
    exact standingEntry_self _ _ _ _
  have hsingle := flatMap_of_single (List.nodup_finRange 64) (List.mem_finRange r) hentry
  unfold batchOf
  rw [he]
  simp only [Bool.false_eq_true, if_false, List.nil_append]
  exact congrArg (· ++ _) hsingle

theorem standingEntry_of_holder {me : Station} {byOutcome : Bool} {r : Resource} {before after : Record}
    (hb : before.holds me = true) (ha : after.holds me = true) :
    standingEntry me false byOutcome r before after =
      if before.yieldDemand = after.yieldDemand then [] else [.yield r after.yieldReport] := by
  rw [← holderOf_isSome, Option.isSome_iff_exists] at ha
  obtain ⟨h, hh⟩ := ha
  simp [standingEntry, hh, hb]

theorem standingEntry_of_granted {me : Station} {r : Resource} {before after : Record}
    (hb : before.holds me = false) (ha : after.holds me = true) :
    ∃ y, standingEntry me false false r before after = [.granted r after.holding.mode y after.yieldReport] := by
  rw [← holderOf_isSome, Option.isSome_iff_exists] at ha
  obtain ⟨h, hh⟩ := ha
  exact ⟨h.yieldable, by simp [standingEntry, hh, hb]⟩

/-! ### The state that the batch is taken in -/

/-- The state of an application before its batch (R27 steps 4 to 7). -/
def counted (own : Bool) (f : Frame) (s : State) : State :=
  referenceDerived f (s.re.reference == some s.me)
    (countRefusal own (effectsOf s.re f)
      (countUp .framesApplied ((checked own f s).withRe (effectsOf s.re f).replica.advance)))

theorem applied_eq (own : Bool) (f : Frame) (s : State) :
    applied own f s = takeBatch (batchOf s.me own f s.re (effectsOf s.re f)) (counted own f s) := rfl

@[simp] theorem counted_bu (own : Bool) (f : Frame) (s : State) : (counted own f s).bu = s.bu := by simp [counted]

@[simp] theorem countUp_notices (k : Counter) (s : State) : (countUp k s).mp.notices = s.mp.notices := rfl

@[simp] theorem askExpel_notices (x : Station) (why : ExpelReason) (s : State) :
    (askExpel x why s).mp.notices = s.mp.notices := by
  unfold askExpel
  split <;> rfl

@[simp] theorem checked_notices (own : Bool) (f : Frame) (s : State) : (checked own f s).mp.notices = s.mp.notices := by
  unfold checked checkFrame referenceCheck countComparison
  dsimp only
  (repeat' split) <;> simp

@[simp] theorem counted_notices (own : Bool) (f : Frame) (s : State) :
    (counted own f s).mp.notices = s.mp.notices := by
  unfold counted referenceDerived countRefusal
  dsimp only
  (repeat' split) <;> simp

theorem post_notices_congr {p q : ManagementPort} (h : p.notices = q.notices) (n : Notice) :
    (p.post n).notices = (q.post n).notices := by
  unfold ManagementPort.post
  rw [h]
  split <;> simp

theorem afterFrame_eq {f : Frame} {s : State} (hm : (effectsOf s.re f).member = none) :
    afterFrame f s = silenceHeard f.sender (takeBatch (batchOf s.me false f s.re (effectsOf s.re f)) (counted false f (received s))) := by
  simp [afterFrame, reported, hm, applied_eq]

/-! ### A wait entry put in (R7, R8, R32) -/

theorem lowestFree_eq_some {pool : Vector Bool 96} {i : Fin 96} (hi : pool[i] = false)
    (hlow : ∀ j < i, pool[j] = true) : lowestFree pool = some i := by
  rw [lowestFree, ← Fin.find?_eq_find?_finRange, Fin.find?_eq_some_iff]
  simp only [hi, Bool.not_false, true_and, Bool.not_eq_false']
  exact hlow

theorem slotsLeft_of_waits {before after : Record} (h : after.waits = before.waits) : slotsLeft before after = [] := by
  simp [slotsLeft, Record.slots, h]

theorem freeSlots_nil (pool : Vector Bool 96) : freeSlots pool [] = pool := by
  ext i hi
  simp

/-- A record whose wait list takes a CLAIM that is not granted at once (R16, R32). -/
theorem grantPass_withWait {ms : Vector MemberState 16} {k : Record} (h : RecordLawful ms k) {w : Wait}
    (hw : ¬ (k.holding.compatible w.entry.mode = true ∧ NoneAhead w.entry.cls k.waits)) :
    (k.withWait w).grantPass =
      { holding := k.holding, waits := insertWait w k.waits
        yieldDemand := (insertWait w k.waits).head?.map (·.entry.cls) == some .urgent } ∧
    (k.yieldDemand = true → ((insertWait w k.waits).head?.map (·.entry.cls) == some .urgent) = true) := by
  obtain ⟨hshared, _, _, hhead, horder, hyield, _⟩ := h
  obtain ⟨ahead, behind, hsplit, hins, _, hbehind⟩ := insertWait_split w k.waits horder
  have hinc : ∀ v ∈ (insertWait w k.waits).head?, k.holding.compatible v.entry.mode = false := by
    rw [hins]
    cases ahead with
    | nil =>
      rintro v ⟨⟩
      rw [hsplit, List.nil_append] at hw
      simpa using fun hc => hw ⟨hc, hbehind⟩
    | cons a as => exact fun v hv => hhead v (by rw [hsplit]; exact hv)
  have hholders : k.holding.holders.isEmpty = false := by
    obtain ⟨v, hv⟩ : ∃ v, v ∈ (insertWait w k.waits).head? := by rw [hins]; cases ahead <;> simp
    simpa using holders_of_incompatible k.holding hshared _ (hinc v hv)
  have hurgent (ws : List Wait) : urgentHead ws = (ws.head?.map (·.entry.cls) == some .urgent) := by
    cases ws <;> simp [urgentHead]
  refine ⟨?_, fun hd => ?_⟩
  · rw [grantPass_of_head _ hinc, Record.recomputeYield, Record.demandedYield, hholders, ← hurgent]
    rfl
  · rw [hyield, Record.demandedYield, hholders, hsplit] at hd
    rw [hins, ← hurgent]
    cases ahead with
    | nil =>
      cases behind with
      | nil => simp [urgentHead] at hd
      | cons b bs => simp [urgentHead, (hbehind b (by simp)).2] at hd
    | cons a as => simpa [urgentHead] using hd

/-- A CLAIM of an ACTIVE sender that waits: its entry, with the lowest free pool entry, is put in, and nothing else of the
replica changes but the yield demand. -/
theorem claimEffects_of_waiting {e : ReplicaEngine} {x : Station} {r : Resource} {md : Mode} {c : ClaimClass} {y : Bool}
    {i : Fin 96} (hx : e.members[x] = .active) (hl : RecordLawful e.members e.records[r])
    (hh : e.records[r].has x = false)
    (hw : ¬ (e.records[r].holding.compatible md = true ∧ NoneAhead c e.records[r].waits))
    (hi : lowestFree e.pool = some i) :
    (claimEffects e x r md c y).replica =
      { e with
        records :=
          e.records.set r
            { holding := e.records[r].holding, waits := insertWait (waitOf x md c y i) e.records[r].waits
              yieldDemand := (insertWait (waitOf x md c y i) e.records[r].waits).head?.map (·.entry.cls) == some .urgent }
        pool := e.pool.set i true } := by
  have hg := (grantPass_withWait hl (w := waitOf x md c y i) hw).1
  unfold claimEffects
  rw [if_pos hx, claim_of_free e x r md c y hh (grantsAtOnce_false hw) hi]
  have hs : slotsLeft (e.records[r].withWait (waitOf x md c y i)) (e.records[r].withWait (waitOf x md c y i)).grantPass =
      [] := slotsLeft_of_waits (by rw [hg])
  simp only [Effects.none, ReplicaEngine.rewrite, hs, freeSlots_nil, takeSlot]
  rw [hg]

/-! ### The local claim that a YIELD entry finds (R68) -/

theorem yieldEntry_of_held {s : State} {r : Resource} {l : LocalClaim} (h : s.bu.claimFor r = some l)
    (hl : l.state = .held) :
    (yieldEntry r true s).bu.claimFor r = some { l with yieldSeen := true } ∧
      (yieldEntry r true s).mp = if l.yieldSeen then s.mp else s.mp.post (.yieldAsked r) := by
  have hput := putClaim_claimFor_same s (c := { l with yieldSeen := true }) (r := r) (claimFor_resource (c := l) h) h
  unfold yieldEntry
  rw [onClaim_of_some s h]
  dsimp only
  split
  · cases hy : l.yieldSeen <;> exact ⟨hput, rfl⟩
  all_goals simp_all

/-- The batch of a CLAIM that waits, at a station that holds its resource: a YIELD entry where the demand became set. -/
theorem batchOf_of_waiting {f : Frame} {e : ReplicaEngine} {m : Station} {r : Resource} {k : Record} {md : Mode}
    {c : ClaimClass} {y : Bool} (hb : f.body = .claim r md c y)
    (he : (effectsOf e f).replica.records = e.records.set r k) (hk : k.holding = e.records[r].holding)
    (hmono : e.records[r].yieldDemand = true → k.yieldDemand = true) (hm : e.records[r].holds m = true) :
    batchOf m false f e (effectsOf e f) =
      if (!e.records[r].yieldDemand && k.yieldDemand) = true then [.yield r k.yieldReport] else [] := by
  have hquiet : (effectsOf e f).expelled = none ∧ (effectsOf e f).freed = false := by
    simp only [effectsOf, hb, claimEffects]
    split <;> exact ⟨rfl, rfl⟩
  have hkm : k.holds m = true := by rw [Record.holds, hk]; exact hm
  rw [batchOf_of_one_record (r := r) (fun r' hr => by rw [he, set_getElem_of_ne _ _ hr]) hquiet.1, hquiet.2, he,
    set_getElem_self, standingEntry_of_holder hm hkm]
  cases hd : e.records[r].yieldDemand with
  | true => simp [hmono hd]
  | false => cases k.yieldDemand <;> simp

/-- The local claim in HELD after such a CLAIM, with what was posted (R43, R68). -/
theorem held_after_waiting {s : State} {f : Frame} {r : Resource} {k : Record} {md : Mode} {c : ClaimClass} {y : Bool}
    {l : LocalClaim} (hb : f.body = .claim r md c y)
    (he : (effectsOf s.re f).replica.records = s.re.records.set r k) (hk : k.holding = s.re.records[r].holding)
    (hmono : s.re.records[r].yieldDemand = true → k.yieldDemand = true) (hm : s.re.records[r].holds s.me = true)
    (hl : s.bu.claimFor r = some l) (hheld : l.state = .held) {asked : Bool}
    (ha : asked = (!s.re.records[r].yieldDemand && k.yieldDemand)) :
    (settle (afterFrame f s)).bu.claimFor r = some { l with yieldSeen := l.yieldSeen || asked } ∧
      (settle (afterFrame f s)).mp.notices =
        (if asked && !l.yieldSeen then s.mp.post (.yieldAsked r) else s.mp).notices := by
  have hmember : (effectsOf s.re f).member = none := by
    simp only [effectsOf, hb, claimEffects]
    split <;> rfl
  have hbatch := batchOf_of_waiting hb he hk hmono hm
  rw [← ha] at hbatch
  have hc : (counted false f (received s)).bu.claimFor r = some l := by simpa using hl
  have hn : (counted false f (received s)).mp.notices = s.mp.notices := by simp
  simp only [settle_keeps]
  cases asked with
  | false =>
    simp only [Bool.false_eq_true, if_false] at hbatch
    refine ⟨settle_claimFor _ ?_ (by simp [hheld]), ?_⟩
    · simpa [afterFrame_eq hmember, hbatch, takeBatch] using hl
    · simp [afterFrame_eq hmember, hbatch, takeBatch]
  | true =>
    have hdemand : k.yieldReport.demand = true := by
      have := ha.symm
      rw [Bool.and_eq_true] at this
      exact this.2
    obtain ⟨hclaim, hmp⟩ := yieldEntry_of_held hc hheld
    simp only [if_true] at hbatch
    have hafter : afterFrame f s = silenceHeard f.sender (yieldEntry r true (counted false f (received s))) := by
      rw [afterFrame_eq hmember, hbatch]
      simp only [takeBatch, List.foldl_cons, List.foldl_nil, takeEntry, hdemand]
    refine ⟨settle_claimFor _ ?_ (by simp [hheld]), ?_⟩
    · simpa [hafter] using hclaim
    · rw [hafter]
      simp only [silenceHeard_keeps, hmp]
      cases l.yieldSeen
      · exact post_notices_congr hn _
      · exact hn

/-- Settles O17: the CLAIM's effects by the class-ordered insertion, and the local claim by the one YIELD entry that the
batch then has. -/
theorem claimWaits : Obligations.ClaimWaits := by
  intro s f m r md c y i h hb hx hl hh hw hi hlow
  obtain ⟨_, _, _, hn, _⟩ := id h
  have hc : caughtForeign s.re f = false := by simp [caughtForeign, hx]
  obtain ⟨t, ht, hte, hf⟩ := frameTaken h hc (claim_ofOthers hb m)
  obtain ⟨_, _, _, _, horder, _⟩ := id hl
  obtain ⟨ahead, behind, hsplit, hins, hahead, hbehind⟩ := insertWait_split (waitOf f.sender md c y i) _ horder
  have he := claimEffects_of_waiting (y := y) hx hl hh hw (lowestFree_eq_some hi hlow)
  have hmono := (grantPass_withWait hl (w := waitOf f.sender md c y i) hw).2
  rw [hins] at he hmono
  have hre : (effectsOf s.re f).replica = (claimEffects s.re f.sender r md c y).replica := by simp only [effectsOf, hb]
  have htre := hf.re
  rw [hre, he] at htre
  refine ⟨t, ht, ⟨ahead, behind, hsplit, hahead, hbehind, htre⟩, fun l hst hhold hlc hheld => ?_, hf.counted, hf.state,
    hf.board, hf.outside⟩
  have hmine : s.re.records[r].holds s.me = true := by rw [me_of_number hn]; exact hhold
  obtain ⟨hclaim, hnotices⟩ := held_after_waiting hb (congrArg _ (hre.trans he)) rfl hmono hmine hlc hheld
    (asked := !s.re.records[r].yieldDemand && t.re.records[r].yieldDemand)
    (by rw [htre]; exact congrArg (fun k : Record => !s.re.records[r].yieldDemand && k.yieldDemand) (set_getElem_self _ r _))
  rw [← hte] at hclaim hnotices
  refine ⟨hclaim, hnotices, fun n b hcfg hen hr => ?_⟩
  subst hr
  rw [hte] at hclaim ⊢
  obtain ⟨hg, hy⟩ := settle_pins_of_held (s := s) (u := afterFrame f s) (by simpa using hst)
    (hte ▸ boardKept_iff.mp hf.board) hcfg hen hclaim hheld
  rw [hg, hy, Bool.and_comm (_ || _), Bool.and_assoc]
  exact ⟨rfl, rfl⟩

/-! ### A grant by another station's DROP (R14, R67) -/

/-- The grant pass loses no holder. -/
theorem mem_grantHeads_holders {hd : Holding} {ws : List Wait} {h : Holder} (hm : h ∈ hd.holders) :
    h ∈ (grantHeads hd ws).1.holders := by
  induction ws generalizing hd with
  | nil => exact hm
  | cons w ws ih =>
    unfold grantHeads
    split
    next hc => exact ih ((add_holders_perm hd _ _ hc).mem_iff.mpr (List.mem_cons_of_mem _ hm))
    next => exact hm

/-- The head of the wait list of a resource that becomes FREE is made a holder (R14). -/
theorem holds_of_head {r : Record} (hf : r.holding = .free) {w : Wait} {ws : List Wait} (hw : r.waits = w :: ws) :
    r.grantPass.holds w.entry.station = true := by
  rw [holds_iff, List.mem_map]
  refine ⟨{ station := w.entry.station, yieldable := w.entry.yieldable }, ?_, rfl⟩
  rw [grantPass_holding, hf, hw, grantHeads, if_pos (compatible_free _)]
  exact mem_grantHeads_holders ((add_holders_perm _ _ _ (compatible_free _)).mem_iff.mpr List.mem_cons_self)

theorem byte_toNat_of_resource (r : Resource) : (byte r.val).toNat = r.val := by
  have := r.isLt
  simp only [byte, BitVec.toNat_ofNat]
  omega

/-- A GRANTED entry takes a record in WAITING to HELD, for every claim that the table has on the resource (R67). -/
theorem grantedEntry_of_waiting {s : State} {r : Resource} {c : LocalClaim} (d : Bool) (h : s.bu.claimFor r = some c)
    (hc : c.state = .waiting) :
    (grantedEntry r d s).bu = (putClaim { c.to .held with yieldSeen := d } s).bu := by
  unfold grantedEntry
  rw [onClaim_of_some s h]
  dsimp only
  rw [hc]
  unfold enterHeld
  dsimp only
  split <;> simp

/-- The local claim that such an entry finds stays in HELD through FREED, which moves the records in REFUSED alone. -/
theorem claimFor_after_grant {s : State} {r : Resource} {c : LocalClaim} (h : s.bu.claimFor r = some c)
    (hc : c.state = .waiting) {m : Mode} {y : Bool} {report : YieldReport} (freed : Bool) :
    (takeBatch ([.granted r m y report] ++ if freed then [.freed] else []) s).bu.claimFor r =
      some { c.to .held with yieldSeen := report.demand } := by
  have hbu := grantedEntry_of_waiting report.demand h hc
  have hheld : (grantedEntry r report.demand s).bu.claimFor r = some { c.to .held with yieldSeen := report.demand } := by
    rw [hbu]
    exact putClaim_claimFor_same s (claimFor_resource (c := c) h) h
  cases freed with
  | false => exact hheld
  | true =>
    refine (freedEntry_claimFor _ fun d hd hr => ?_).trans hheld
    change d ∈ (grantedEntry r report.demand s).bu.claims at hd
    rw [hbu] at hd
    have := mem_putClaim s hd (hr.trans (claimFor_resource (c := c) h).symm)
    simp [this, LocalClaim.to]

theorem holds_of_exclusive {k : Record} {h : Holder} (hk : k.holding = .exclusive h) (x : Station) :
    k.holds x = (h.station == x) := by simp [Record.holds, hk, Holding.holders]

/-- A DROP by the exclusive holder frees the resource for the grant pass (R35). -/
theorem without_of_exclusive {k : Record} {x : Station} {y : Bool}
    (hk : k.holding = .exclusive { station := x, yieldable := y }) (hw : ∀ v ∈ k.waits, v.entry.station ≠ x) :
    (k.without x).holding = .free ∧ (k.without x).waits = k.waits := by
  refine ⟨by simp [hk, Holding.remove], List.filter_eq_self.mpr fun v hv => ?_⟩
  simpa using hw v hv

/-- Settles O26: the batch is a GRANTED entry and FREED, and FREED leaves the claim then in HELD. -/
theorem grantByAnotherStationsDrop : Obligations.GrantByAnotherStationsDrop := by
  intro s f m r y w ws c h hst hb hx hholding hwaits hwm hws hnot hclaim hcw
  obtain ⟨_, _, _, hn, hm, _⟩ := id h
  have hc : caughtForeign s.re f = false := by simp [caughtForeign, hx]
  obtain ⟨t, ht, hte, hf⟩ := frameTaken h hc (drop_ofOthers hb m)
  have hhas : s.re.records[r].has f.sender = true := by
    rw [Record.has, holds_of_exclusive hholding, beq_self_eq_true, Bool.true_or]
  have hre : (effectsOf s.re f).replica = s.re.rewrite r s.re.records[r] (s.re.records[r].takeOut f.sender) := by
    rw [← drop_of_has hhas]
    simp only [effectsOf, hb]
    exact dropEffects_of_active (byte_toNat_of_resource r) hx
  have hquiet : (effectsOf s.re f).expelled = none ∧ (effectsOf s.re f).member = none := by
    simp only [effectsOf, hb, dropEffects]
    (repeat' split) <;> exact ⟨rfl, rfl⟩
  obtain ⟨hfree, hleft⟩ := without_of_exclusive hholding (by rw [hwaits]; exact hnot)
  have hafter : (s.re.records[r].takeOut f.sender).holds m = true := hwm ▸ holds_of_head hfree (hleft.trans hwaits)
  have hbefore : s.re.records[r].holds m = false := by
    rw [holds_of_exclusive hholding]
    simpa using hm.symm
  have hrec : (effectsOf s.re f).replica.records = s.re.records.set r (s.re.records[r].takeOut f.sender) := by rw [hre]; rfl
  have htr : t.re.records[r] = s.re.records[r].takeOut f.sender := by
    rw [hf.re]
    change (effectsOf s.re f).replica.records[r] = _
    rw [hrec, set_getElem_self]
  obtain ⟨yl, hentry⟩ := standingEntry_of_granted (r := r) hbefore hafter
  have hbatch := batchOf_of_one_record (me := m) (f := f) (before := s.re) (x := effectsOf s.re f) (r := r)
    (fun r' hr => by rw [hrec, set_getElem_of_ne _ _ hr]) hquiet.1
  rw [hrec, set_getElem_self, hentry] at hbatch
  have hheld : t.bu.claimFor r = some { c.to .held with yieldSeen := t.re.records[r].yieldDemand } := by
    rw [htr, hte]
    refine settle_claimFor _ ?_ (by simp [LocalClaim.to])
    rw [afterFrame_eq hquiet.2, me_of_number hn, hbatch]
    simp only [silenceHeard_keeps]
    exact claimFor_after_grant (by simpa using hclaim) hcw _
  refine ⟨t, ht, htr ▸ hafter, hheld, fun n b hcfg hen hr => ?_, ?_, hf.state.trans hst, hf.board, hf.outside⟩
  · subst hr
    rw [hte] at hheld ⊢
    exact (settle_pins_of_held (s := s) (u := afterFrame f s) (by simpa using hst) (hte ▸ boardKept_iff.mp hf.board) hcfg
      hen hheld rfl).1
  · rw [hf.re, hre]
    rfl

end Sys2Proof.Machine
end

section
/-! PROOF. A demand rise (O7): the request that a risen line makes, and the DROP that it withdraws from the queue. -/

namespace Sys2Proof.Machine

open Sys2Proof.Safety

/-! ### The one entry of a resource (R88) -/

/-- Where at most one entry of a list satisfies a test, the removal of the first is the removal of all. -/
theorem removeFirst_eq_filter {α : Type} {p : α → Bool} {as : List α}
    (h : as.Pairwise fun a b => ¬ (p a = true ∧ p b = true)) : removeFirst p as = as.filter (!p ·) := by
  induction as with
  | nil => rfl
  | cons a as ih =>
    obtain ⟨ha, has⟩ := List.pairwise_cons.mp h
    unfold removeFirst
    split
    next hp =>
      rw [List.filter_cons_of_neg (by simp [hp]), List.filter_eq_self.mpr fun b hb => ?_]
      simpa [hp] using ha b hb
    next hp => rw [List.filter_cons_of_pos (by simpa using hp), ih has]

theorem keyOf_eq_claimFamily (i : Item) (r : Resource) : keyOf i = .claimFamily r ↔ i.resource? = some r := by
  cases i <;> simp [keyOf, Item.resource?]

/-- No two entries of a queue under law L9 are of one resource. -/
theorem isFor_pairwise {q : TransmitQueue} (h : (q.entries.map fun e => keyOf e.item).Nodup) (r : Resource) :
    q.entries.Pairwise fun a b => ¬ (Entry.isFor r a = true ∧ Entry.isFor r b = true) := by
  refine (List.pairwise_map.mp h).imp fun {a b} hab ⟨ha, hb⟩ => hab ?_
  simp only [Entry.isFor, beq_iff_eq, ← keyOf_eq_claimFamily] at ha hb
  exact ha.trans hb.symm

/-- The withdrawal of an UNTAKEN CLAIM or DROP (R90). -/
theorem withdraw_of_untaken {q : TransmitQueue} (h : (q.entries.map fun e => keyOf e.item).Nodup) {r : Resource}
    {e : Entry} (he : q.entryFor r = some e) (hi : e.inFlight = false) :
    q.withdraw r = (withoutEntryFor q r, .withdrawn) := by
  have hf : q.entries.find? (Entry.isFor r) = some e := he
  have hr : removeFirst (Entry.isFor r) q.entries = q.entries.filter fun e => e.item.resource? != some r :=
    removeFirst_eq_filter (isFor_pairwise h r)
  simp [TransmitQueue.withdraw, TransmitQueue.withdrawWhere, hf, hi, hr]

/-- A withdrawal that finds no UNTAKEN entry answers so (R90). -/
theorem withdraw_of_not_untaken {q : TransmitQueue} {r : Resource} (h : ∀ e ∈ q.entryFor r, e.inFlight = true) :
    (q.withdraw r).2 = .inFlight ∨ (q.withdraw r).2 = .noneHeld := by
  unfold TransmitQueue.withdraw TransmitQueue.withdrawWhere
  split
  · exact .inr rfl
  next e he => rw [if_pos (h e he)]; exact .inl rfl

theorem entryFor_without (q : TransmitQueue) (r : Resource) : (withoutEntryFor q r).entryFor r = none := by
  simp [TransmitQueue.entryFor, Entry.isFor]

theorem addClaim_of_none {q : TransmitQueue} {r : Resource} (h : q.entryFor r = none) (m : Mode) (c : ClaimClass)
    (y : Bool) : q.addClaim r m c y = q.append (.claim r m c y) := by
  unfold TransmitQueue.addClaim
  rw [h]

/-! ### The request of a risen line (R55) -/

/-- The binding unit with the level of CLMn high, and the latch set where the rise sets it. -/
def raised (n : BindingNo) (s : State) : BindingUnit :=
  { s.bu with
    lines := s.bu.lines.set n true
    latches := if s.bu.isLatched n && s.sc.state == .active then s.bu.latches.set n true else s.bu.latches }

theorem raised_request {n : BindingNo} {s : State} {b : BindingConfig} (hst : s.sc.state = .active)
    (hb : s.bu.config n = some b) (he : b.enabled = true) : (raised n s).request n = true := by
  have hc : (raised n s).config n = some b := hb
  unfold BindingUnit.request
  rw [hc]
  cases ht : b.trigger with
  | level => simp only [he, ht]; simp [raised]
  | latched => simp only [he, ht]; simp [he, raised, BindingUnit.isLatched, hb, ht, hst]

/-- A rise that makes the demand of a local claim in ACTIVE takes the demand event (R58). -/
theorem lineRise_of_demand {n : BindingNo} {s : State} {b : BindingConfig} {c : LocalClaim} (hst : s.sc.state = .active)
    (hb : s.bu.config n = some b) (he : b.enabled = true) (hc : s.bu.claimFor b.resource = some c)
    (hn : n ∈ c.bindings) (hd : s.bu.demand c = false) : lineRise n s = demandRise c (s.withBu (raised n s)) := by
  have hrise : (raised n s).demand c = true := List.any_eq_true.mpr ⟨n, hn, raised_request hst hb he⟩
  have hc' : (s.withBu (raised n s)).bu.claimFor b.resource = some c := hc
  unfold lineRise changeRequest
  rw [hb]
  dsimp only
  rw [if_pos (by simp [he, hst])]
  change onClaim b.resource _ (s.withBu (raised n s)) = _
  rw [onClaim_of_some _ hc', hd]
  change (match false, (raised n s).demand c with
    | false, true => demandRise c (s.withBu (raised n s))
    | true, false => demandFall c (s.withBu (raised n s))
    | false, false => s.withBu (raised n s)
    | true, true => s.withBu (raised n s)) = _
  rw [hrise]

theorem exec_rise_of_low {n : BindingNo} {s : State} (hp : s.powered = true) (hst : s.sc.state ≠ .reset)
    (hn : s.bu.lines[n] = false) : exec (.rise n) s = .next (settle (lineRise n s)) := by
  have hlow : ¬ (s.sc.state = .reset ∨ s.bu.lines[n] = true) := by simpa using ⟨hst, hn⟩
  exact (event_of_powered hp fun s => if s.sc.state = .reset ∨ s.bu.lines[n] = true then s else lineRise n s).trans
    (congrArg (Host.Outcome.next ∘ settle) (if_neg hlow))

@[simp] theorem demandRise_board (c : LocalClaim) (s : State) : (demandRise c s).bu.board = s.bu.board := by
  unfold demandRise
  dsimp only
  (repeat' split) <;> simp

/-! ### The state taken from a standing (R65, R70, R73) -/

theorem takeStanding_standing (c : LocalClaim) (k : Record) (x : Station) (s : State) :
    takeStanding c (k.standing x) s =
      if k.holds x = true then enterHeld c k.yieldDemand s
      else if k.waitsFor x = true then putClaim (c.to .waiting) s
      else claimAfresh c s := by
  unfold Record.standing
  rw [← holderOf_isSome]
  cases k.holderOf x with
  | some h => rfl
  | none => cases k.waitsFor x <;> rfl

theorem enterHeld_bu (c : LocalClaim) (d : Bool) (s : State) :
    (enterHeld c d s).bu = (putClaim { c.to .held with yieldSeen := d } s).bu := by
  unfold enterHeld
  dsimp only
  split <;> simp

theorem enterHeld_mp (c : LocalClaim) (d : Bool) (s : State) :
    (enterHeld c d s).mp = if d then s.mp.post (.yieldAsked c.resource) else s.mp := by
  unfold enterHeld
  dsimp only
  split <;> rfl

/-- GNT is low at a binding whose resource is not held (R76). -/
theorem gntLevel_of_not_held {st : StationState} {b : BindingUnit} {n : BindingNo} {k : BindingConfig} {l : LocalClaim}
    (hk : b.config n = some k) (hc : b.claimFor k.resource = some l) (hl : l.state ≠ .held) : gntLevel st b n = false := by
  simp [gntLevel, hk, hc, hl]

/-- A demand rise in DROPPING with the DROP in flight or gone (R70). -/
theorem demandRise_of_not_untaken {c : LocalClaim} {s : State} (hc : c.state = .dropping) (hr : c.reclaim = false)
    (h : ∀ e ∈ s.tq.entryFor c.resource, e.inFlight = true) : demandRise c s = putClaim { c with reclaim := true } s := by
  simp only [demandRise, hc, hr, Bool.false_eq_true, if_false]
  rcases withdraw_of_not_untaken h with hw | hw <;> rw [hw]

/-- A demand rise in DROPPING with the DROP untaken: it is withdrawn, and the state is taken from the replica (R70). -/
theorem demandRise_of_untaken {c : LocalClaim} {s : State} {r : Resource} (hcr : c.resource = r)
    (hc : c.state = .dropping) (hr : c.reclaim = false) (hq : (s.tq.entries.map fun e => keyOf e.item).Nodup) {e : Entry}
    (he : s.tq.entryFor r = some e) (hi : e.inFlight = false) (hv : s.re.valid = true) :
    demandRise c s =
      if s.re.records[r].holds s.me = true then
        enterHeld c s.re.records[r].yieldDemand (s.withTq (withoutEntryFor s.tq r))
      else if s.re.records[r].waitsFor s.me = true then putClaim (c.to .waiting) (s.withTq (withoutEntryFor s.tq r))
      else claimAfresh c (s.withTq (withoutEntryFor s.tq r)) := by
  subst hcr
  rw [← takeStanding_standing]
  simp only [demandRise, hc, hr, Bool.false_eq_true, if_false, withdraw_of_untaken hq he hi, query_valid _ _ _ hv]

/-- Settles O7, by the states of the local claim that takes the demand event. -/
theorem demandRiseHandsAClaim : Obligations.DemandRiseHandsAClaim := by
  intro n s b c hp hst hpark hline hcfg hen hc hn hd
  have hres : c.resource = b.resource := claimFor_resource hc
  obtain ⟨u, hu⟩ : ∃ u, u = s.withBu (raised n s) := ⟨_, rfl⟩
  have huc : u.bu.claimFor b.resource = some c := hu ▸ hc
  have hutq : u.tq = s.tq := by simp [hu]
  have hump : u.mp = s.mp := by simp [hu]
  have hexec : exec (.rise n) s = .next (settle (demandRise c u)) := by
    rw [hu, ← lineRise_of_demand hst hcfg hen hc hn hd]
    exact exec_rise_of_low hp (by simp [hst]) hline
  obtain ⟨htq, hbu, -⟩ := settle_of_not_parked (s := demandRise c u) (by simpa [hu] using hpark)
  have hboard : (settle (demandRise c u)).bu.board = (raised n s).board := by rw [hbu, demandRise_board, hu]; rfl
  have hcfg' : (settle (demandRise c u)).bu.config n = some b := (config_of_board hboard n).trans hcfg
  have low {l : LocalClaim} (hl : (demandRise c u).bu.claimFor b.resource = some l) (hh : l.state ≠ .held) :
      (settle (demandRise c u)).pins.gnt[n] = false := by
    rw [settle_gnt]
    exact gntLevel_of_not_held hcfg' (hbu ▸ hl) hh
  refine ⟨_, hexec, by simp [hu], by simp [hu], ?_, ?_, ?_, ?_, ?_⟩ <;> simp only [htq, hbu, settle_keeps]
  · intro hcs
    have hr : demandRise c u = claimAfresh c u := by simp only [demandRise, hcs]
    have hl : (demandRise c u).bu.claimFor b.resource = some (c.to .queued) := by
      rw [hr]
      exact putClaim_claimFor_same u hres huc
    exact ⟨hl, by rw [hr, ← hutq]; rfl, low hl (by simp [LocalClaim.to]), by simp [hr, hump]⟩
  · intro hcs
    have hr : demandRise c u = putClaim { c with cancel := false } u := by simp only [demandRise, hcs]
    have hl : (demandRise c u).bu.claimFor b.resource = some { c with cancel := false } := by
      rw [hr]
      exact putClaim_claimFor_same u (c := { c with cancel := false }) hres huc
    exact ⟨hl, by rw [hr, ← hutq]; rfl, low hl (by simp [hcs]), by simp [hr, hump]⟩
  · intro m e hcs hrc hq hm hv he hi
    obtain ⟨_, hkeys, _⟩ := hq
    obtain ⟨v, hvdef⟩ : ∃ v, v = u.withTq (withoutEntryFor s.tq b.resource) := ⟨_, rfl⟩
    have hvc : v.bu.claimFor b.resource = some c := hvdef ▸ huc
    have hvtq : v.tq = withoutEntryFor s.tq b.resource := by simp [hvdef]
    have hvmp : v.mp = s.mp := by simp [hvdef, hump]
    have hr : demandRise c u =
        if s.re.records[b.resource].holds m = true then enterHeld c s.re.records[b.resource].yieldDemand v
        else if s.re.records[b.resource].waitsFor m = true then putClaim (c.to .waiting) v
        else claimAfresh c v := by
      have := demandRise_of_untaken (s := u) hres hcs hrc (by rw [hutq]; exact hkeys) (by rw [hutq]; exact he) hi
        (by simpa [hu] using hv)
      rw [hutq, ← hvdef] at this
      simpa [hu, State.me, hm] using this
    split
    next hh =>
      rw [if_pos hh] at hr
      have hl : (demandRise c u).bu.claimFor b.resource =
          some { c.to .held with yieldSeen := s.re.records[b.resource].yieldDemand } := by
        rw [hr, enterHeld_bu]
        exact putClaim_claimFor_same v hres hvc
      have hreq : (raised n s).request n = true := raised_request hst hcfg hen
      obtain ⟨hg, hy⟩ := settle_pins_of_held (s := s.withBu (raised n s)) (u := demandRise c u) (by simpa [hu] using hst)
        hboard hcfg hen (hbu ▸ hl) rfl
      refine ⟨hl, by simp [hr, hvtq], hg.trans hreq, hy.trans ?_, ?_⟩
      · simp [hreq, LocalClaim.to, Bool.and_comm]
      · rw [hr, enterHeld_mp, hvmp, hres]
    next hh =>
      rw [if_neg hh] at hr
      split
      next hw =>
        rw [if_pos hw] at hr
        have hl : (demandRise c u).bu.claimFor b.resource = some (c.to .waiting) := by
          rw [hr]
          exact putClaim_claimFor_same v (c := c.to .waiting) hres hvc
        exact ⟨hl, by simp [hr, hvtq], low hl (by simp [LocalClaim.to]), by simp [hr, hvmp]⟩
      next hw =>
        rw [if_neg hw] at hr
        have hl : (demandRise c u).bu.claimFor b.resource = some (c.to .queued) := by
          rw [hr]
          exact putClaim_claimFor_same v hres hvc
        refine ⟨hl, ?_, low hl (by simp [LocalClaim.to]), by simp [hr, hvmp]⟩
        rw [hr]
        change v.tq.addClaim _ _ _ _ = _
        rw [hvtq, hres, addClaim_of_none (entryFor_without _ _), claimOf, hres]
  · intro hcs hrc he
    have hr := demandRise_of_not_untaken (s := u) hcs hrc (by rw [hutq, hres]; exact he)
    have hl : (demandRise c u).bu.claimFor b.resource = some { c with reclaim := true } := by
      rw [hr]
      exact putClaim_claimFor_same u (c := { c with reclaim := true }) hres huc
    exact ⟨hl, by rw [hr, ← hutq]; rfl, low hl (by simp [hcs]), by simp [hr, hump]⟩
  · intro hcs hrc
    have hr : demandRise c u = u := by simp [demandRise, hcs, hrc]
    have hl : (demandRise c u).bu.claimFor b.resource = some c := by rw [hr]; exact huc
    exact ⟨hl, by rw [hr, ← hutq], low hl (by simp [hcs]), by simp [hr, hump]⟩

end Sys2Proof.Machine
end

section
/-! PROOF. What the asking for the next frame keeps (R86, R125), and with it the end of an own attempt and of an event. -/

namespace Sys2Proof.Machine

open Sys2Proof.Safety

/-! ### What is kept from the end of an attempt to the end of its event -/

/-- A property that the asking for the next frame keeps, and that looks at neither the tenure controller nor the pins. -/
structure AskStable (P : State → Prop) : Prop where
  ask : ∀ s, P s → P (askNext s)
  tenure : ∀ s t, P s → P (s.withTc t)
  pins : ∀ s p, P s → P (s.withPins p)

section
variable {P : State → Prop} (h : AskStable P) {s : State}
include h

theorem AskStable.holdingDecision (hs : P s) (r : Bool) : P (holdingDecision r s) := by
  have hn : P (noteWork s) := h.tenure s _ hs
  unfold Machine.holdingDecision
  dsimp only
  split
  · exact h.ask _ hn
  · exact h.tenure _ _ hn
  · exact h.tenure _ _ hn

theorem AskStable.attemptReport (hs : P s) (r : Bool) : P (attemptReport r s) := by
  unfold Machine.attemptReport
  split
  · exact h.holdingDecision (h.tenure _ _ hs) r
  all_goals exact hs

theorem AskStable.wantBus (hs : P s) : P (wantBus s) := by
  unfold Machine.wantBus
  split
  · exact h.tenure _ _ hs
  · exact h.tenure _ _ hs
  · exact h.tenure _ _ hs
  · exact hs

theorem AskStable.settle (hs : P s) : P (settle s) := by
  have hn : P (noteWork s) := h.tenure s _ hs
  refine h.pins _ _ ?_
  unfold tellWork
  dsimp only
  split
  · exact h.wantBus hn
  · exact h.tenure _ _ hn
  · exact h.tenure _ _ (h.ask _ (h.tenure _ _ hn))
  · exact hn

/-- The report of an own attempt's end, and the end of its event. -/
theorem AskStable.outcome (hs : P s) (r : Bool) : P (Machine.settle (Machine.attemptReport r s)) :=
  h.settle (h.attemptReport hs r)

end

/-! ### The exchange interface and the claims -/

theorem askNext_dropStreak (s : State) : (askNext s).xi.dropStreak = s.xi.dropStreak := by
  unfold askNext
  dsimp only
  split
  · rfl
  · simp only [beginAttempt, State.withXi_xi, reportTaken_keeps]
    split <;> rfl

theorem askStable_dropStreak (n : Nat) : AskStable fun s => s.xi.dropStreak = n :=
  ⟨fun s hs => (askNext_dropStreak s).trans hs, fun _ _ hs => hs, fun _ _ hs => hs⟩

theorem askStable_claimFor (r : Resource) {l : LocalClaim} (hl : l.state ≠ .queued) :
    AskStable fun s => s.bu.claimFor r = some l :=
  ⟨fun s hs => askNext_claimFor s hs hl, fun _ _ hs => hs, fun _ _ hs => hs⟩

/-! ### The frames of the queue (R84, R86) -/

theorem updateFirst_items (p : Entry → Bool) (es : List Entry) :
    (updateFirst p Entry.attempt es).map (·.item) = es.map (·.item) := by
  induction es with
  | nil => rfl
  | cons e es ih =>
    unfold updateFirst
    split
    · rfl
    · rw [List.map_cons, List.map_cons, ih]

theorem find?_untaken {c : EntryClass} {es : List Entry} {f : Entry} (h : es.find? (Entry.untaken c) = some f) :
    f.item.cls = c ∧ f.inFlight = false := by
  have := List.find?_some h
  simp only [Entry.untaken, Bool.and_eq_true, Bool.not_eq_true', beq_iff_eq] at this
  exact this.symm

theorem oldestUntaken_spec {q : TransmitQueue} {f : Entry} (h : q.oldestUntaken = some f) :
    q.entries.find? (Entry.untaken f.item.cls) = some f := by
  unfold TransmitQueue.oldestUntaken at h
  simp only [Option.or_eq_some_iff] at h
  rcases h with h | ⟨_, h | ⟨_, h⟩⟩ <;> rw [(find?_untaken h).1] <;> exact h

theorem mem_updateFirst_found {α : Type} {p : α → Bool} {f : α → α} {as : List α} {b : α} (h : as.find? p = some b) :
    f b ∈ updateFirst p f as := by
  induction as with
  | nil => simp at h
  | cons a as ih =>
    unfold updateFirst
    by_cases hp : p a = true
    · rw [List.find?_cons_of_pos hp, Option.some.injEq] at h
      subst h
      simp [hp]
    · rw [List.find?_cons_of_neg hp] at h
      simp [hp, ih h]

theorem mem_updateFirst_of_ne {α : Type} {p : α → Bool} {f : α → α} {as : List α} {a b : α} (h : as.find? p = some b)
    (ha : a ∈ as) (hne : a ≠ b) : a ∈ updateFirst p f as := by
  induction as with
  | nil => simp at ha
  | cons c as ih =>
    unfold updateFirst
    by_cases hp : p c = true
    · rw [List.find?_cons_of_pos hp, Option.some.injEq] at h
      rcases List.mem_cons.mp ha with rfl | ha
      · exact absurd h hne
      · simp [hp, ha]
    · rw [List.find?_cons_of_neg hp] at h
      rcases List.mem_cons.mp ha with rfl | ha
      · simp [hp]
      · simp [hp, ih h ha]

/-- What the handing of a frame does to an entry and to its TAKEN report: nothing, another attempt of the one in flight,
or the taking of an untaken one. -/
theorem hand_cases (q : TransmitQueue) :
    (q.hand.1.entries = q.entries ∧ ∀ h ∈ q.hand.2, ∀ i, h.first = true → h.sent ≠ .entry i) ∨
    (∃ f, q.entries.find? (·.inFlight) = some f ∧ q.hand.1.entries = updateFirst (·.inFlight) Entry.attempt q.entries ∧
      ∀ h ∈ q.hand.2, h.first = false) ∨
    (∃ f, q.entries.find? (Entry.untaken f.item.cls) = some f ∧ f.inFlight = false ∧
      q.hand.1.entries = updateFirst (Entry.untaken f.item.cls) Entry.attempt q.entries ∧
      q.hand.2 = some { sent := .entry f.item, first := true }) := by
  unfold TransmitQueue.hand
  (repeat' split)
  next f hf _ => exact .inr (.inl ⟨f, hf, rfl, by rintro _ ⟨⟩; rfl⟩)
  next => exact .inl ⟨rfl, nofun⟩
  next => exact .inl ⟨rfl, by rintro _ ⟨⟩ i; simp⟩
  next => exact .inl ⟨rfl, nofun⟩
  next => exact .inl ⟨rfl, by rintro _ ⟨⟩ i; simp⟩
  next => exact .inl ⟨rfl, by rintro _ ⟨⟩ i; simp⟩
  next => exact .inl ⟨rfl, nofun⟩
  next f hf =>
    have hu := oldestUntaken_spec hf
    exact .inr (.inr ⟨f, hu, (find?_untaken hu).2, rfl, rfl⟩)

/-- The handing of a frame changes no frame of the queue and their order. -/
theorem hand_items (q : TransmitQueue) : itemsOf q.hand.1 = itemsOf q := by
  rcases hand_cases q with ⟨hes, -⟩ | ⟨_, -, hes, -⟩ | ⟨_, -, -, hes, -⟩
  · rw [itemsOf, hes]
  · rw [itemsOf, hes, updateFirst_items]
  · rw [itemsOf, hes, updateFirst_items]

theorem askStable_items (is : List Item) : AskStable fun s => itemsOf s.tq = is where
  ask s hs := by rw [askNext_tq, hand_items, hs]
  tenure _ _ hs := hs
  pins _ _ hs := hs

/-! ### The binding unit's part in it (R61) -/

theorem takenReport_bu_congr {s s' : State} (h : s.bu = s'.bu) (r : Resource) :
    (takenReport r s).bu = (takenReport r s').bu := by
  unfold takenReport onClaim
  rw [h]
  split
  · exact h
  · dsimp only
    split
    · simp [putClaim, State.withClaims, h]
    all_goals exact h

theorem reportTaken_bu_congr {s s' : State} (h : s.bu = s'.bu) (k : Handed) :
    (reportTaken k s).bu = (reportTaken k s').bu := by
  unfold reportTaken
  split
  · split
    · exact takenReport_bu_congr h _
    · exact h
  all_goals exact h

/-- The binding unit after the asking: the TAKEN report of the frame handed. -/
theorem askNext_bu (s : State) : (askNext s).bu = (s.tq.hand.2.elim s (reportTaken · s)).bu := by
  unfold askNext
  dsimp only
  split
  next h => rw [h]; rfl
  next k h =>
    rw [h]
    simp only [beginAttempt_keeps, Option.elim_some]
    refine reportTaken_bu_congr ?_ k
    split <;> rfl

/-- A TAKEN report that names no entry changes nothing. -/
theorem reportTaken_of_no_entry {k : Handed} (h : ∀ i, k.first = true → k.sent ≠ .entry i) (s : State) :
    reportTaken k s = s := by
  unfold reportTaken
  split
  next hf hs => exact absurd hs (h _ hf)
  all_goals rfl

theorem reportTaken_entry (i : Item) (s : State) :
    reportTaken { sent := .entry i, first := true } s = i.resource?.elim s (takenReport · s) := by
  unfold reportTaken
  dsimp only
  cases i.resource? <;> rfl

theorem takenReport_claimFor_of_ne {s : State} {r r' : Resource} (h : r' ≠ r) :
    (takenReport r' s).bu.claimFor r = s.bu.claimFor r := by
  unfold takenReport onClaim
  split
  · rfl
  next c hc =>
    dsimp only
    split
    · exact putClaim_claimFor_of_ne s (c := c.to .sending) fun he => h ((claimFor_resource hc).symm.trans he)
    all_goals rfl

theorem takenReport_of_queued {s : State} {r : Resource} {c : LocalClaim} (h : s.bu.claimFor r = some c)
    (hc : c.state = .queued) : (takenReport r s).bu.claimFor r = some (c.to .sending) := by
  unfold takenReport
  rw [onClaim_of_some s h, hc]
  exact putClaim_claimFor_same s (c := c.to .sending) (claimFor_resource (c := c) h) h

/-- Of two entries of one resource in a queue under law L9, both are the same. -/
theorem eq_of_isFor {q : TransmitQueue} (hk : (q.entries.map fun e => keyOf e.item).Nodup) {e f : Entry}
    (he : e ∈ q.entries) (hf : f ∈ q.entries) {r : Resource} (her : e.item.resource? = some r)
    (hfr : f.item.resource? = some r) : e = f := by
  refine List.inj_on_of_nodup_map hk he hf ?_
  rw [(keyOf_eq_claimFamily _ r).mpr her, (keyOf_eq_claimFamily _ r).mpr hfr]

theorem to_queued_to_sending (c : LocalClaim) : (c.to .queued).to .sending = c.to .sending := by
  unfold LocalClaim.to
  congr 1
  cases c.yieldSeen <;> rfl

/-- A local claim stays with its fresh CLAIM when a frame is handed: where it is that CLAIM, the claim moves to SENDING. -/
theorem askNext_claimedAfresh {s : State} {c : LocalClaim} (hk : (s.tq.entries.map fun e => keyOf e.item).Nodup)
    (h : ClaimedAfresh s c) : ClaimedAfresh (askNext s) c := by
  obtain ⟨e, he, hi, hc⟩ := h
  unfold ClaimedAfresh
  rw [askNext_tq, askNext_bu]
  have quiet (hno : ∀ h ∈ s.tq.hand.2, ∀ i, h.first = true → h.sent ≠ .entry i) :
      s.tq.hand.2.elim s (reportTaken · s) = s := by
    cases hh : s.tq.hand.2 with
    | none => rfl
    | some k => exact reportTaken_of_no_entry (hno k hh) s
  rcases hand_cases s.tq with ⟨hes, hno⟩ | ⟨f, hf, hes, hno⟩ | ⟨f, hf, hnot, hes, hsent⟩
  · rw [quiet hno, hes]
    exact ⟨e, he, hi, hc⟩
  · rw [quiet fun k hk i hfirst => absurd ((hno k hk).symm.trans hfirst) (by decide), hes]
    by_cases hef : e = f
    · refine ⟨f.attempt, mem_updateFirst_found hf, hef ▸ hi, ?_⟩
      have hfi : e.inFlight = true := by simpa [hef] using List.find?_some hf
      rwa [hfi] at hc
    · exact ⟨e, mem_updateFirst_of_ne hf he hef, hi, hc⟩
  · rw [hsent, hes]
    have her : e.item.resource? = some c.resource := by rw [hi]; rfl
    rw [Option.elim_some, reportTaken_entry]
    by_cases hef : e = f
    · subst hef
      refine ⟨e.attempt, mem_updateFirst_found hf, hi, ?_⟩
      rw [her]
      refine (takenReport_of_queued (c := c.to .queued) (by simpa [hnot] using hc) rfl).trans ?_
      rw [to_queued_to_sending]
      rfl
    · refine ⟨e, mem_updateFirst_of_ne hf he hef, hi, ?_⟩
      cases hfr : f.item.resource? with
      | none => exact hc
      | some r =>
        refine (takenReport_claimFor_of_ne fun hr => hef ?_).trans hc
        exact eq_of_isFor hk he (List.mem_of_find?_eq_some hf) her (hr ▸ hfr)

theorem askNext_keys {s : State} (hk : (s.tq.entries.map fun e => keyOf e.item).Nodup) :
    ((askNext s).tq.entries.map fun e => keyOf e.item).Nodup := by
  have hitems (q : TransmitQueue) : (q.entries.map fun e => keyOf e.item) = (itemsOf q).map keyOf := by simp
  rw [hitems, askNext_tq, hand_items, ← hitems]
  exact hk

theorem askStable_claimedAfresh (c : LocalClaim) :
    AskStable fun s => (s.tq.entries.map fun e => keyOf e.item).Nodup ∧ ClaimedAfresh s c where
  ask _ hs := ⟨askNext_keys hs.1, askNext_claimedAfresh hs.1 hs.2⟩
  tenure _ _ hs := hs
  pins _ _ hs := hs

end Sys2Proof.Machine
end

section
/-! PROOF. An own frame dropped after its last attempt, below the drop limit (O28). -/

namespace Sys2Proof.Machine

open Sys2Proof.Safety

/-! ### The window of a rejected last attempt (R109, R111) -/

/-- The drop of an attempt's frame as the queue and the reporting block take it. -/
def dropReported (a : Attempt) (s : State) : State :=
  reportDropped a.sent (runEnded ((s.withXi { s.xi with attempt := none }).withTq (s.tq.dropped a.sent)))

/-- The state in which a drop below the limit is reported to the tenure controller. -/
def dropTold (a : Attempt) (s : State) : State :=
  let u := postNotice (droppedNotice a.sent) (countUp .framesDropped (dropReported a s))
  u.withXi { u.xi with dropStreak := u.xi.dropStreak + 1 }

theorem dropped_entry_job (q : TransmitQueue) (i : Item) : (q.dropped (.entry i)).job = q.job := by
  cases i <;> rfl

theorem rearmedFrom_dropped_entry (q : TransmitQueue) (i : Item) : (q.dropped (.entry i)).rearmedFrom q = false := by
  simp [TransmitQueue.rearmedFrom, dropped_entry_job]

theorem exec_ownWindowClose {s : State} (h : s.powered = true) (rejected : Bool) :
    exec (.ownWindowClose rejected) s = .next (settle (ownWindowCloses rejected s)) :=
  event_of_powered h _

/-- The rejected window of an entry's third attempt, below the drop limit. -/
theorem exec_ownWindowClose_of_drop {s : State} {a : Attempt} {e : Entry} {i : Item} (h : AwaitsOwnWindow s a)
    (hd : a.discarded = false) (he : s.tq.entries.find? (·.inFlight) = some e) (hn : e.attempts = 3)
    (hs : a.sent = .entry i) (hx : (dropReported a s).xi.dropStreak < 3) :
    exec (.ownWindowClose true) s = .next (settle (attemptReport false (dropTold a s))) := by
  obtain ⟨hp, _, ha, hph, hu⟩ := h
  have hw : ownWindowCloses true s = ownDropped a (s.withXi { s.xi with attempt := none }) := by
    simp [ownWindowCloses, ha, hph, hu, hd, TransmitQueue.attemptsInFlight, he, hn, Config.maxAttempts]
  rw [exec_ownWindowClose hp, hw]
  unfold ownDropped
  simp only [State.withXi_tq, hs, rearmedFrom_dropped_entry]
  rw [← hs]
  change Host.Outcome.next (settle (attemptReport false (advanceDropStreak
    (postNotice (droppedNotice a.sent) (countUp .framesDropped (dropReported a s)))))) = _
  unfold advanceDropStreak
  have hlimit : (dropReported a s).xi.dropStreak + 1 < Config.dropLimit := Nat.succ_lt_succ hx
  rw [if_pos (by simpa using hlimit)]
  rfl

/-! ### What the report of a drop keeps -/

/-- The report of a drop to the binding unit: the station, the replica, the exchange interface and the board are as they
were, and at most one notice is posted. -/
structure DropTaken (s t : State) : Prop where
  sc : t.sc = s.sc
  re : t.re = s.re
  xi : t.xi = s.xi
  board : t.bu.board = s.bu.board
  lasting : t.mp.counters.lasting = s.mp.counters.lasting
  posted : t.mp = s.mp ∨ ∃ n, t.mp = s.mp.post n

theorem takeStanding_posted (c : LocalClaim) (st : Standing) (s : State) :
    (takeStanding c st s).mp = s.mp ∨ ∃ n, (takeStanding c st s).mp = s.mp.post n := by
  unfold takeStanding
  split
  · rw [enterHeld_mp]
    split
    · exact .inr ⟨_, rfl⟩
    · exact .inl rfl
  · exact .inl rfl
  · exact .inl (by simp)

theorem claimDropped_mp (r : Resource) (s : State) : (claimDropped r s).mp = s.mp :=
  onClaim_keeps (·.mp) r _ (fun c s => by (repeat' split) <;> simp) s

theorem dropDropped_posted (r : Resource) (s : State) :
    (dropDropped r s).mp = s.mp ∨ ∃ n, (dropDropped r s).mp = s.mp.post n := by
  unfold dropDropped onClaim
  split
  · exact .inl rfl
  · dsimp only
    split
    · split
      · exact takeStanding_posted _ _ _
      · exact .inl (by simp)
    all_goals exact .inl rfl

theorem reportDropped_taken {i : Item} (h : i ≠ .leave) (s : State) : DropTaken s (reportDropped (.entry i) s) := by
  cases i with
  | claim r m c y => exact ⟨by simp [reportDropped], by simp [reportDropped], by simp [reportDropped],
      by simp [reportDropped], by simp [reportDropped], .inl (claimDropped_mp r s)⟩
  | drop r => exact ⟨by simp [reportDropped], by simp [reportDropped], by simp [reportDropped],
      by simp [reportDropped], by simp [reportDropped], dropDropped_posted r s⟩
  | leave => exact absurd rfl h
  | _ => exact ⟨rfl, rfl, rfl, rfl, rfl, .inl rfl⟩

theorem post_length_le (n : Notice) (p : ManagementPort) : (p.post n).notices.length ≤ p.notices.length + 1 := by
  unfold ManagementPort.post
  split <;> simp

theorem mem_post {n : Notice} {p : ManagementPort} (h : p.notices.length < 32) : n ∈ (p.post n).notices := by
  simp [ManagementPort.post, Config.noticeCapacity, h]

theorem mem_post_of_mem {n n' : Notice} {p : ManagementPort} (h : n ∈ p.notices) : n ∈ (p.post n').notices := by
  unfold ManagementPort.post
  split
  · exact List.mem_append_left _ h
  · exact h

theorem counters_of_lasting {c d : Counters} (h : c.lasting = d.lasting) :
    c.framesDropped = d.framesDropped ∧ c.expelsQueued = d.expelsQueued := by
  simp only [Counters.lasting, Counters.mk.injEq] at h
  exact ⟨h.2.1, h.2.2.2.2.2.2.2⟩

/-- The state in which a drop is reported to the tenure controller, for every frame but a LEAVE. -/
structure DropTold (a : Attempt) (s t : State) : Prop where
  dropStreak : t.xi.dropStreak = s.xi.dropStreak + 1
  dropped : t.mp.counters.framesDropped = bump s.mp.counters.framesDropped
  expels : t.mp.counters.expelsQueued = s.mp.counters.expelsQueued
  posted : s.mp.notices.length < 31 → droppedNotice a.sent ∈ t.mp.notices
  sc : t.sc = s.sc
  re : t.re = s.re
  board : t.bu.board = s.bu.board
  outside : OutsideKept s t

theorem dropTold_of_entry {a : Attempt} {i : Item} (hs : a.sent = .entry i) (hi : i ≠ .leave) (s : State) :
    (dropReported a s).xi.dropStreak = s.xi.dropStreak ∧ DropTold a s (dropTold a s) := by
  have h : DropTaken s { dropReported a s with xi := s.xi } := by
    have := reportDropped_taken hi (runEnded ((s.withXi { s.xi with attempt := none }).withTq (s.tq.dropped a.sent)))
    rw [← hs] at this
    exact ⟨by simpa [dropReported] using this.sc, by simpa [dropReported] using this.re, rfl,
      by simpa [dropReported] using this.board, by simpa [dropReported] using this.lasting,
      by simpa [dropReported] using this.posted⟩
  have hxi : (dropReported a s).xi.dropStreak = s.xi.dropStreak := by
    have := (reportDropped_taken hi (runEnded ((s.withXi { s.xi with attempt := none }).withTq (s.tq.dropped a.sent)))).xi
    rw [← hs] at this
    simp [dropReported, this]
  obtain ⟨hd, he⟩ := counters_of_lasting h.lasting
  obtain ⟨hd', he'⟩ := counters_of_lasting
    (postNotice_lasting (droppedNotice a.sent) (countUp .framesDropped (dropReported a s)))
  refine ⟨hxi, ⟨?_, ?_, ?_, fun hn => ?_, h.sc, h.re, h.board, ?_⟩⟩
  · simp [dropTold, hxi]
  · exact hd'.trans (congrArg bump hd)
  · exact he'.trans he
  · refine mem_post (p := (countUp .framesDropped (dropReported a s)).mp) ?_
    rw [countUp_notices]
    rcases h.posted with hp | ⟨n, hp⟩
    · have : (dropReported a s).mp = s.mp := hp
      rw [this]
      omega
    · have : (dropReported a s).mp = s.mp.post n := hp
      have := post_length_le n s.mp
      simp_all only
      omega
  · exact ⟨by simp [dropTold, dropReported], by simp [dropTold, dropReported], by simp [dropTold, dropReported],
      by simp [dropTold, dropReported], by simp [dropTold, dropReported]⟩

/-! ### The queue after the drop (R94) -/

/-- The queue without the frame in flight. -/
def TransmitQueue.beside (q : TransmitQueue) : TransmitQueue := { q with entries := q.entries.filter fun e => !e.inFlight }

theorem itemsOf_append (q : TransmitQueue) (i : Item) : itemsOf (q.append i) = itemsOf q ++ [i] := by
  simp [itemsOf, TransmitQueue.append, Entry.fresh]

theorem removeFirst_of_one {α : Type} {p : α → Bool} {as : List α} (h : (as.filter p).length ≤ 1) :
    removeFirst p as = as.filter (!p ·) := by
  induction as with
  | nil => rfl
  | cons a as ih =>
    unfold removeFirst
    by_cases hp : p a = true
    · rw [List.filter_cons_of_pos hp, List.length_cons] at h
      have hnone : as.filter p = [] := List.length_eq_zero_iff.mp (by omega)
      rw [if_pos hp, List.filter_cons_of_neg (by simp [hp])]
      exact (List.filter_eq_self.mpr fun b hb => by simpa using List.filter_eq_nil_iff.mp hnone b hb).symm
    · rw [List.filter_cons_of_neg hp] at h
      rw [if_neg hp, List.filter_cons_of_pos (by simpa using hp), ih h]

theorem removeFirst_inFlight {q : TransmitQueue} (h : (inFlight q).length ≤ 1) :
    { q with entries := removeFirst (·.inFlight) q.entries } = q.beside := by
  have hf : (q.entries.filter (·.inFlight)).length ≤ 1 := by
    simp only [inFlight, List.length_append, List.length_map] at h
    omega
  rw [removeFirst_of_one hf]
  rfl

theorem dropped_of_lawful {q : TransmitQueue} (h : (inFlight q).length ≤ 1) (i : Item) :
    q.dropped (.entry i) =
      match i with
      | .expel t why => q.beside.append (.expel t why)
      | .join => q.beside.append .join
      | .claim _ _ _ _ | .drop _ | .leave | .presence => q.beside := by
  rw [← removeFirst_inFlight h]
  cases i <;> rfl

theorem beside_keys {q : TransmitQueue} (h : (q.entries.map fun e => keyOf e.item).Nodup) :
    (q.beside.entries.map fun e => keyOf e.item).Nodup :=
  h.sublist (List.filter_sublist.map _)

/-- No entry is left for the resource of the frame in flight. -/
theorem beside_entryFor {q : TransmitQueue} (h : (q.entries.map fun e => keyOf e.item).Nodup) {e : Entry}
    (he : q.entries.find? (·.inFlight) = some e) {r : Resource} (hr : e.item.resource? = some r) :
    q.beside.entryFor r = none := by
  refine List.find?_eq_none.mpr fun f hf hfr => ?_
  obtain ⟨hmem, hnot⟩ := List.mem_filter.mp hf
  have hfr' : f.item.resource? = some r := by simpa [Entry.isFor] using hfr
  obtain rfl := eq_of_isFor h (List.mem_of_find?_eq_some he) hmem hr hfr'
  simp [List.find?_some he] at hnot

/-- A frame with a key of its own is appended under law L9. -/
theorem append_keys_of_free {q : TransmitQueue} (h : (q.entries.map fun e => keyOf e.item).Nodup) {i : Item}
    (hfree : ∀ f ∈ q.entries, keyOf f.item ≠ keyOf i) : ((q.append i).entries.map fun e => keyOf e.item).Nodup := by
  simp only [TransmitQueue.append, List.map_append, List.map_cons, List.map_nil, List.nodup_append]
  refine ⟨h, List.nodup_singleton _, ?_⟩
  rintro k hk k' hk' rfl
  obtain ⟨f, hf, rfl⟩ := List.mem_map.mp hk
  exact hfree f hf (List.mem_singleton.mp hk')

theorem append_keys {q : TransmitQueue} (h : (q.entries.map fun e => keyOf e.item).Nodup) {i : Item} {r : Resource}
    (hi : i.resource? = some r) (hn : q.entryFor r = none) :
    ((q.append i).entries.map fun e => keyOf e.item).Nodup := by
  refine append_keys_of_free h fun f hf hk => ?_
  rw [(keyOf_eq_claimFamily i r).mpr hi, keyOf_eq_claimFamily] at hk
  exact absurd (List.find?_eq_none.mp hn f hf) (by simp [Entry.isFor, hk])

/-- What a local claim that claims afresh leaves: its CLAIM at the tail, and the claim beside it. -/
structure Afresh (c : LocalClaim) (s t : State) : Prop where
  tq : t.tq = s.tq.append (claimOf c)
  keys : (t.tq.entries.map fun e => keyOf e.item).Nodup
  claim : ClaimedAfresh t c

/-- A local claim that claims afresh with no entry for its resource in the queue. -/
theorem claimAfresh_afresh {s : State} {c : LocalClaim} {r : Resource} (hc : s.bu.claimFor r = some c)
    (hk : (s.tq.entries.map fun e => keyOf e.item).Nodup) (hn : s.tq.entryFor r = none) :
    Afresh c s (claimAfresh c s) := by
  obtain rfl := claimFor_resource hc
  have htq : (claimAfresh c s).tq = s.tq.append (claimOf c) := addClaim_of_none hn _ _ _
  refine ⟨htq, htq ▸ append_keys hk rfl hn, Entry.fresh (claimOf c), ?_, rfl, ?_⟩
  · rw [htq]
    exact List.mem_append_right _ (List.mem_singleton_self _)
  · exact putClaim_claimFor_same s (c := c.to .queued) rfl hc

/-! ### The local claims after the drop (R66, R73) -/

/-- The state in which a drop is reported to the binding unit. -/
def dropFreed (a : Attempt) (s : State) : State :=
  runEnded ((s.withXi { s.xi with attempt := none }).withTq (s.tq.dropped a.sent))

theorem dropTold_tq (a : Attempt) (s : State) : (dropTold a s).tq = (reportDropped a.sent (dropFreed a s)).tq := rfl

theorem dropTold_bu (a : Attempt) (s : State) : (dropTold a s).bu = (reportDropped a.sent (dropFreed a s)).bu := rfl

theorem dropFreed_tq (a : Attempt) (s : State) : (dropFreed a s).tq = s.tq.dropped a.sent := by simp [dropFreed]

/-- The binding unit and the station controller hear nothing of a dropped EXPEL, JOIN or PRESENCE. -/
theorem dropTold_tq_of_silent {a : Attempt} {i : Item} (hs : a.sent = .entry i) (hr : i.resource? = none)
    (hl : i ≠ .leave) (s : State) : (dropTold a s).tq = s.tq.dropped a.sent := by
  have hsilent : reportDropped a.sent (dropFreed a s) = dropFreed a s := by
    rw [hs]
    cases i with
    | claim r m c y => cases hr
    | drop r => cases hr
    | leave => exact absurd rfl hl
    | _ => rfl
  rw [dropTold_tq, hsilent, dropFreed_tq]

section
variable {s : State} {r : Resource} {c : LocalClaim} (hc : s.bu.claimFor r = some c)
include hc

theorem claimDropped_of_sending (hs : c.state = .sending) :
    claimDropped r s = if c.cancel then putClaim (c.to .none) s else claimAfresh c s := by
  unfold claimDropped
  rw [onClaim_of_some s hc, hs]

theorem dropDropped_of_dropping (hs : c.state = .dropping) :
    dropDropped r s = if c.reclaim then takeStanding c (s.re.query s.me r).standing s else handDrop c s := by
  unfold dropDropped
  rw [onClaim_of_some s hc, hs]

end

/-- The state that the record of a dropped DROP takes from the replica (R73). -/
theorem takeStanding_query (c : LocalClaim) (r : Resource) (s : State) :
    takeStanding c (s.re.query s.me r).standing s =
      if s.re.valid = true ∧ s.re.records[r].holds s.me = true then enterHeld c s.re.records[r].yieldDemand s
      else if s.re.valid = true ∧ s.re.records[r].waitsFor s.me = true then putClaim (c.to .waiting) s
      else claimAfresh c s := by
  cases hv : s.re.valid with
  | true => simp only [query_valid _ _ _ hv, takeStanding_standing, true_and]
  | false => simp only [query_invalid _ _ _ hv, Bool.false_eq_true, false_and, if_false, takeStanding]

/-- The end of the event after a drop below the limit. -/
def dropSettled (a : Attempt) (s : State) : State := settle (attemptReport false (dropTold a s))

section
variable {a : Attempt} {s : State}

theorem dropSettled_items {is : List Item} (h : itemsOf (dropTold a s).tq = is) : itemsOf (dropSettled a s).tq = is :=
  (askStable_items is).outcome h false

theorem dropSettled_claim {r : Resource} {l : LocalClaim} (hl : l.state ≠ .queued)
    (h : (dropTold a s).bu.claimFor r = some l) : (dropSettled a s).bu.claimFor r = some l :=
  (askStable_claimFor r hl).outcome h false

theorem dropSettled_afresh {c : LocalClaim} (h : Afresh c (dropFreed a s) (reportDropped a.sent (dropFreed a s)))
    {q : TransmitQueue} (hq : s.tq.dropped a.sent = q) :
    itemsOf (dropSettled a s).tq = itemsOf q ++ [claimOf c] ∧ ClaimedAfresh (dropSettled a s) c := by
  have hk : ((dropTold a s).tq.entries.map fun e => keyOf e.item).Nodup := by
    rw [dropTold_tq]
    exact h.keys
  have hc : ClaimedAfresh (dropTold a s) c := by
    unfold ClaimedAfresh
    rw [dropTold_tq, dropTold_bu]
    exact h.claim
  refine ⟨dropSettled_items ?_, ((askStable_claimedAfresh c).outcome (s := dropTold a s) ⟨hk, hc⟩ false).2⟩
  rw [dropTold_tq, h.tq, dropFreed_tq, hq, itemsOf_append]

/-- What a dropped CLAIM leaves of its local claim (R66). -/
theorem dropSettled_of_claim {r : Resource} {md : Mode} {cl : ClaimClass} {y : Bool} {c : LocalClaim}
    (hs : a.sent = .entry (.claim r md cl y)) (hq : s.tq.dropped a.sent = s.tq.beside)
    (hk : (s.tq.beside.entries.map fun e => keyOf e.item).Nodup) (hn : s.tq.beside.entryFor r = none)
    (hc : s.bu.claimFor r = some c) (hst : c.state = .sending) :
    if c.cancel = true then
      itemsOf (dropSettled a s).tq = itemsBeside s.tq ∧ (dropSettled a s).bu.claimFor r = some (c.to .none)
    else itemsOf (dropSettled a s).tq = itemsBeside s.tq ++ [claimOf c] ∧ ClaimedAfresh (dropSettled a s) c := by
  have hfreed : (dropFreed a s).tq = s.tq.beside := (dropFreed_tq a s).trans hq
  have hc' : (dropFreed a s).bu.claimFor r = some c := by simpa [dropFreed] using hc
  have hr : reportDropped a.sent (dropFreed a s) =
      if c.cancel then putClaim (c.to .none) (dropFreed a s) else claimAfresh c (dropFreed a s) := by
    rw [hs]
    exact claimDropped_of_sending hc' hst
  split
  next hx =>
    rw [if_pos hx] at hr
    refine ⟨dropSettled_items ?_, dropSettled_claim (by simp [LocalClaim.to]) ?_⟩
    · simp only [dropTold_tq, hr, putClaim_keeps, hfreed]
      rfl
    · rw [dropTold_bu, hr]
      exact putClaim_claimFor_same _ (c := c.to .none) (claimFor_resource (c := c) hc) hc'
  next hx =>
    rw [if_neg hx] at hr
    refine dropSettled_afresh ?_ hq
    rw [hr]
    exact claimAfresh_afresh hc' (hfreed ▸ hk) (hfreed ▸ hn)

/-- What a dropped DROP leaves of its local claim (R73). -/
theorem dropSettled_of_drop {r : Resource} {c : LocalClaim} {m : Station} (hs : a.sent = .entry (.drop r))
    (hq : s.tq.dropped a.sent = s.tq.beside) (hk : (s.tq.beside.entries.map fun e => keyOf e.item).Nodup)
    (hn : s.tq.beside.entryFor r = none) (hc : s.bu.claimFor r = some c) (hst : c.state = .dropping)
    (hm : s.xi.number = some m) :
    if c.reclaim = false then
      itemsOf (dropSettled a s).tq = itemsBeside s.tq ++ [.drop r] ∧ (dropSettled a s).bu.claimFor r = some c
    else if s.re.valid = true ∧ s.re.records[r].holds m = true then
      itemsOf (dropSettled a s).tq = itemsBeside s.tq ∧
        (dropSettled a s).bu.claimFor r = some { c.to .held with yieldSeen := s.re.records[r].yieldDemand } ∧
        (s.re.records[r].yieldDemand = true → s.mp.notices.length < 31 →
          .yieldAsked r ∈ (dropSettled a s).mp.notices)
    else if s.re.valid = true ∧ s.re.records[r].waitsFor m = true then
      itemsOf (dropSettled a s).tq = itemsBeside s.tq ∧ (dropSettled a s).bu.claimFor r = some (c.to .waiting)
    else itemsOf (dropSettled a s).tq = itemsBeside s.tq ++ [claimOf c] ∧ ClaimedAfresh (dropSettled a s) c := by
  have hfreed : (dropFreed a s).tq = s.tq.beside := (dropFreed_tq a s).trans hq
  have hc' : (dropFreed a s).bu.claimFor r = some c := by simpa [dropFreed] using hc
  have hres : c.resource = r := claimFor_resource (c := c) hc
  have hre : (dropFreed a s).re = s.re := by simp [dropFreed]
  have hme : (dropFreed a s).me = m := by
    rw [← me_of_number hm]
    simp [State.me, dropFreed]
  have hr : reportDropped a.sent (dropFreed a s) = dropDropped r (dropFreed a s) := by rw [hs]; rfl
  rw [dropDropped_of_dropping hc' hst, takeStanding_query, hre, hme] at hr
  split
  next hx =>
    rw [hx, if_neg (by decide)] at hr
    refine ⟨dropSettled_items ?_, dropSettled_claim (by simp [hst]) ?_⟩
    · rw [dropTold_tq, hr]
      simp only [handDrop, State.withTq_tq, hfreed, hres, TransmitQueue.addDrop, hn, itemsOf_append]
      rfl
    · rw [dropTold_bu, hr]
      exact hc'
  next hx =>
    rw [if_pos (by simpa using hx)] at hr
    split
    next hh =>
      rw [if_pos hh] at hr
      refine ⟨dropSettled_items ?_, dropSettled_claim (by simp [LocalClaim.to]) ?_, fun hd hlen => ?_⟩
      · simp only [dropTold_tq, hr, enterHeld_keeps, hfreed]
        rfl
      · rw [dropTold_bu, hr, enterHeld_bu]
        exact putClaim_claimFor_same _ (c := { c.to .held with yieldSeen := s.re.records[r].yieldDemand }) hres hc'
      · have hmp : (reportDropped a.sent (dropFreed a s)).mp = s.mp.post (.yieldAsked r) := by
          rw [hr, enterHeld_mp, hd, hres]
          simp [dropFreed]
        have hposted : Notice.yieldAsked r ∈ (reportDropped a.sent (dropFreed a s)).mp.notices :=
          hmp ▸ mem_post (by omega)
        simp only [dropSettled, settle_keeps, attemptReport_keeps]
        exact mem_post_of_mem hposted
    next hh =>
      rw [if_neg hh] at hr
      split
      next hw =>
        rw [if_pos hw] at hr
        refine ⟨dropSettled_items ?_, dropSettled_claim (by simp [LocalClaim.to]) ?_⟩
        · simp only [dropTold_tq, hr, putClaim_keeps, hfreed]
          rfl
        · rw [dropTold_bu, hr]
          exact putClaim_claimFor_same _ (c := c.to .waiting) hres hc'
      next hw =>
        rw [if_neg hw] at hr
        refine dropSettled_afresh ?_ hq
        rw [hr]
        exact claimAfresh_afresh hc' (hfreed ▸ hk) (hfreed ▸ hn)

theorem dropSettled_told (h : DropTold a s (dropTold a s)) : DropTold a s (dropSettled a s) where
  dropStreak := (askStable_dropStreak _).outcome h.dropStreak false
  dropped := by simpa [dropSettled] using h.dropped
  expels := by simpa [dropSettled] using h.expels
  posted := by simpa [dropSettled] using h.posted
  sc := by simpa [dropSettled] using h.sc
  re := by simpa [dropSettled] using h.re
  board := by simpa [dropSettled] using h.board
  outside := by simpa [dropSettled, OutsideKept] using h.outside

/-! ### A LEAVE dropped in LEAVING (R158) -/

theorem cutAttempt_dropStreak (x : ExchangeInterface) : x.cutAttempt.dropStreak = x.dropStreak := by
  unfold ExchangeInterface.cutAttempt
  (repeat' split) <;> rfl

theorem placeOffline_dropStreak (s : State) : (placeOffline s).xi.dropStreak = s.xi.dropStreak := by
  unfold placeOffline
  split
  · rfl
  · exact cutAttempt_dropStreak _

theorem emptyQueue_dropStreak (s : State) : (emptyQueue s).xi.dropStreak = s.xi.dropStreak := by
  unfold emptyQueue discardTo
  dsimp only
  split <;> rfl

theorem enterState_dropStreak (st : StationState) (c : Cause) (s : State) :
    (enterState st c s).xi.dropStreak = s.xi.dropStreak := by
  unfold enterState
  dsimp only
  split <;> split <;> simp [forState_dropStreak, placeOffline_dropStreak, emptyQueue_dropStreak]

/-- An offline station has nothing to ask at the end of an attempt. -/
theorem attemptReport_offline {s : State} (h : s.tc.state = .offline) (r : Bool) : attemptReport r s = s := by
  unfold attemptReport
  rw [h]

theorem dropReported_leave (hs : a.sent = .entry .leave) (hst : s.sc.state = .leaving) :
    dropReported a s = enterState .detached .leaveDropped (dropFreed a s) := by
  have hl : (dropFreed a s).sc.state = .leaving := by simpa [dropFreed] using hst
  change reportDropped a.sent (dropFreed a s) = _
  rw [hs, reportDropped, leaveEnds, hl]

end

/-- Settles O28: what the drop keeps is one lemma over the frames; what it leaves of a local claim is that of the dropped
CLAIM or DROP, which the asking for the next frame keeps. -/
theorem ownFrameDropped : Obligations.OwnFrameDropped := by
  refine ⟨fun s a e h hd he hn hs hi hx => ?_, fun s a e h hd he hn hs hx hst => ?_⟩
  · obtain ⟨hstreak, htold⟩ := dropTold_of_entry hs hi s
    have ht := dropSettled_told htold
    refine ⟨dropSettled a s, exec_ownWindowClose_of_drop h hd he hn hs (hstreak ▸ hx), ht.dropStreak, ht.dropped,
      ht.expels, ht.posted, ht.re, ht.sc, boardKept_iff.mpr ht.board, ht.outside, fun hq => ?_⟩
    obtain ⟨_, hkeys, _, _, hone, _⟩ := hq
    have hmoved := dropped_of_lawful hone e.item
    have hk := beside_keys hkeys
    refine ⟨fun x why hw => ?_, fun hw => ?_, fun hw => ?_, fun r md cl y c hw hc hst => ?_,
      fun r c m hw hc hst hm => ?_⟩ <;> rw [hw] at hs hmoved <;> rw [← hs] at hmoved
    · exact dropSettled_items (by rw [dropTold_tq_of_silent hs rfl nofun, hmoved, itemsOf_append]; rfl)
    · exact dropSettled_items (by rw [dropTold_tq_of_silent hs rfl nofun, hmoved, itemsOf_append]; rfl)
    · exact dropSettled_items (by rw [dropTold_tq_of_silent hs rfl nofun, hmoved]; rfl)
    · exact dropSettled_of_claim hs hmoved hk (beside_entryFor hkeys he (by rw [hw]; rfl)) hc hst
    · exact dropSettled_of_drop hs hmoved hk (beside_entryFor hkeys he (by rw [hw]; rfl)) hc hst hm
  · have hr := dropReported_leave hs hst
    have hoff : (dropTold a s).tc.state = .offline := by
      have := (enterState_offline .detached .leaveDropped (dropFreed a s)).mpr rfl
      rw [← hr] at this
      simpa [dropTold] using this
    have htold : dropSettled a s = (noteWork (dropTold a s)).withPins (noteWork (dropTold a s)).drivenPins := by
      rw [dropSettled, attemptReport_offline hoff, settle_offline _ hoff]
    have hstreak : (dropReported a s).xi.dropStreak = s.xi.dropStreak := by
      rw [hr, enterState_dropStreak]
      simp [dropFreed]
    have hfreed : (dropFreed a s).mp = s.mp := by simp [dropFreed]
    refine ⟨dropSettled a s, exec_ownWindowClose_of_drop h hd he hn hs (hstreak ▸ hx), ?_⟩
    rw [htold]
    have hdrive : (noteWork (dropTold a s)).tc.state = .offline := hoff
    refine ⟨?_, hdrive, ?_, ?_, ?_, ?_, ?_, ?_, ?_, ?_⟩
    · simp [dropTold, hr, StationController.change]
    · simp [dropTold, hr, StationState.queueEmptied]
    · simp [State.drivenPins, TenureController.xtenDrive, hdrive]
    · have hmp : (dropReported a s).mp = s.mp.post (.stateChanged .detached .leaveDropped) := by
        rw [hr, enterState_mp, hfreed]
      simp only [State.withPins_mp, noteWork_keeps, dropTold, State.withXi_mp, hs]
      exact post_notices_congr (q := s.mp.post (.stateChanged .detached .leaveDropped)) (congrArg (·.notices) hmp) _
    · have hlasting : (dropReported a s).mp.counters.lasting = s.mp.counters.lasting := by
        rw [hr, enterState_mp, ← hfreed]
        exact postNotice_lasting (.stateChanged .detached .leaveDropped) (dropFreed a s)
      have hcount := counters_of_lasting
        (postNotice_lasting (droppedNotice a.sent) (countUp .framesDropped (dropReported a s)))
      simpa [dropTold] using hcount.1.trans (congrArg bump (counters_of_lasting hlasting).1)
    · simp [dropTold, hstreak]
    · simp [dropTold, hr, dropFreed]
    · simp [dropTold, hr, dropFreed]
    · simp [dropTold, hr, dropFreed, OutsideKept]

end Sys2Proof.Machine
end

section
/-! PROOF. An own frame accepted: what its window's close leaves in every state, and the JOIN and the LEAVE at a station
without a valid replica (O31, first part). -/

namespace Sys2Proof.Machine

open Sys2Proof.Safety

/-! ### The window of an accepted own frame (R107, R108) -/

/-- The state in which an accepted own frame is applied: the attempt over, and its report taken by the queue unless its
entry was discarded. -/
def ownTaken (a : Attempt) (s : State) : State :=
  let s := s.withXi { s.xi with attempt := none }
  if a.discarded then s else runEnded (s.withTq (s.tq.accepted a.sent))

/-- The end of the event of an accepted own frame: the streak, the count, the report to the tenure controller. -/
def ownEnded (s : State) : State :=
  settle (attemptReport false (countUp .ownFramesApplied (s.withXi { s.xi with dropStreak := 0 })))

theorem exec_ownWindowClose_of_accepted {s : State} {a : Attempt} (h : AwaitsOwnWindow s a) :
    exec (.ownWindowClose false) s =
      .next (ownEnded (ownFrameAccepted a.frame (applyFrame true a.frame (ownTaken a s)))) := by
  obtain ⟨hp, _, ha, hph, hu⟩ := h
  rw [exec_ownWindowClose hp]
  simp only [ownWindowCloses, ha, hph, hu]
  rfl

section
variable (a : Attempt) (s : State)

@[simp] theorem ownTaken_keeps :
    (ownTaken a s).pending = s.pending ∧ (ownTaken a s).powered = s.powered ∧
    (ownTaken a s).unanswered = s.unanswered ∧ (ownTaken a s).lines = s.lines ∧ (ownTaken a s).sc = s.sc ∧
    (ownTaken a s).re = s.re ∧ (ownTaken a s).bu = s.bu ∧ (ownTaken a s).cl = s.cl ∧ (ownTaken a s).mp = s.mp ∧
    (ownTaken a s).pins = s.pins := by
  unfold ownTaken
  dsimp only
  split <;> simp

@[simp] theorem ownTaken_number : (ownTaken a s).xi.number = s.xi.number := by
  unfold ownTaken
  dsimp only
  split <;> simp

@[simp] theorem ownTaken_me : (ownTaken a s).me = s.me := by simp [State.me]

theorem ownTaken_tq (h : a.discarded = false) : (ownTaken a s).tq = s.tq.accepted a.sent := by
  simp [ownTaken, h]

@[simp] theorem ownEnded_keeps :
    (ownEnded s).pending = s.pending ∧ (ownEnded s).powered = s.powered ∧ (ownEnded s).unanswered = s.unanswered ∧
    (ownEnded s).lines = s.lines ∧ (ownEnded s).sc = s.sc ∧ (ownEnded s).re = s.re ∧ (ownEnded s).cl = s.cl ∧
    (ownEnded s).mp = { s.mp with counters := s.mp.counters.increment .ownFramesApplied } ∧
    (ownEnded s).xi.dropStreak = 0 ∧ (ownEnded s).bu.board = s.bu.board := by
  refine ⟨by simp [ownEnded], by simp [ownEnded], by simp [ownEnded], by simp [ownEnded], by simp [ownEnded],
    by simp [ownEnded], by simp [ownEnded], by simp [ownEnded, countUp], ?_, by simp [ownEnded]⟩
  exact (askStable_dropStreak 0).outcome (s := countUp .ownFramesApplied (s.withXi { s.xi with dropStreak := 0 })) rfl false

/-- The frames of the queue and their order outlast the end of the event. -/
theorem ownEnded_items : itemsOf (ownEnded s).tq = itemsOf s.tq :=
  (askStable_items _).outcome (s := countUp .ownFramesApplied (s.withXi { s.xi with dropStreak := 0 })) rfl false

end

/-- What every clause about an accepted own frame has in common: OWN FRAMES APPLIED counts it, the drop streak is 0, and
the board and what lies outside the event are as they were. -/
structure OwnTaken (s t : State) : Prop where
  counted : t.mp.counters.ownFramesApplied = bump s.mp.counters.ownFramesApplied
  dropStreak : t.xi.dropStreak = 0
  board : BoardKept s t
  outside : OutsideKept s t

theorem ownTaken_of_ended {s u : State} (hc : u.mp.counters.ownFramesApplied = s.mp.counters.ownFramesApplied)
    (hb : u.bu.board = s.bu.board) (ho : OutsideKept s u) : OwnTaken s (ownEnded u) where
  counted := by simp [Counters.increment, hc]
  dropStreak := by simp
  board := by simpa [boardKept_iff] using hb
  outside := by simpa [OutsideKept] using ho

theorem applyFrame_of_invalid {s : State} (h : s.re.valid = false) (own : Bool) (f : Frame) : applyFrame own f s = s := by
  simp [applyFrame, h]

theorem ownFrames_of_lasting {c d : Counters} (h : c.lasting = d.lasting) :
    c.ownFramesApplied = d.ownFramesApplied ∧ c.framesApplied = d.framesApplied ∧ c.expelsQueued = d.expelsQueued := by
  simp only [Counters.lasting, Counters.mk.injEq] at h
  exact ⟨h.1, h.2.2.2.1, h.2.2.2.2.2.2.2⟩

theorem enterState_lasting (st : StationState) (c : Cause) (s : State) :
    (enterState st c s).mp.counters.lasting = s.mp.counters.lasting := by
  rw [enterState_mp]
  exact postNotice_lasting (.stateChanged st c) s

/-! ### The JOIN and the LEAVE (R141, R142, R158) -/

/-- The mark that an own frame sets while the presence timer runs (R164). -/
def presenceMarked (s : State) : State := s.withSc { s.sc with satisfied := s.sc.satisfied || s.sc.presenceTimer }

@[simp] theorem presenceMarked_keeps (s : State) :
    (presenceMarked s).pending = s.pending ∧ (presenceMarked s).powered = s.powered ∧
    (presenceMarked s).unanswered = s.unanswered ∧ (presenceMarked s).lines = s.lines ∧ (presenceMarked s).xi = s.xi ∧
    (presenceMarked s).tc = s.tc ∧ (presenceMarked s).tq = s.tq ∧ (presenceMarked s).re = s.re ∧
    (presenceMarked s).bu = s.bu ∧ (presenceMarked s).cl = s.cl ∧ (presenceMarked s).mp = s.mp ∧
    (presenceMarked s).pins = s.pins := by
  simp [presenceMarked]

@[simp] theorem presenceMarked_me (s : State) : (presenceMarked s).me = s.me := rfl

theorem presenceMarked_sc (s : State) :
    (presenceMarked s).sc = { s.sc with satisfied := s.sc.satisfied || s.sc.presenceTimer } := rfl

/-- An own frame at the station controller in a state that is not AWAIT_SNAPSHOT. -/
theorem ownFrameAccepted_of_not_awaiting {s : State} (h : s.sc.state ≠ .awaitSnapshot) (f : Frame) :
    ownFrameAccepted f s =
      match f.body with
      | .join => ownJoinAccepted (presenceMarked s)
      | .leave => leaveEnds .left (presenceMarked s)
      | .expel t why => postNotice (.expelSent t why) (presenceMarked s)
      | .presence _ _ | .claim _ _ _ _ | .drop _ | .snapshot _ => presenceMarked s := by
  have : (s.sc.state == .awaitSnapshot) = false := by simpa using h
  simp only [ownFrameAccepted, this]
  rfl

theorem ownJoinAccepted_of_joinPending {s : State} (h : s.sc.state = .joinPending) :
    ownJoinAccepted s = if s.sc.foundedSeen then enterState .awaitSnapshot .joinApplied s else found s := by
  unfold ownJoinAccepted
  rw [h]

theorem found_sc (s : State) : (found s).sc = { s.sc.change .active with silence := noSilence } := by simp [found_eq]

theorem found_re (s : State) : (found s).re = ReplicaEngine.founded s.me := by
  simp [found_eq]
  rfl

theorem found_board (s : State) : (found s).bu.board = s.bu.board := by simp [found_eq]

theorem found_lasting (s : State) : (found s).mp.counters.lasting = s.mp.counters.lasting := by
  simp only [found_eq, takeUpClaims_keeps, State.withSilence_keeps]
  exact enterState_lasting _ _ _

section
variable {s : State} {a : Attempt} (h : AwaitsOwnWindow s a) (hv : s.re.valid = false)
include h hv

/-- The own JOIN in JOIN_PENDING. -/
theorem exec_ownJoin (hb : a.frame.body = .join) (hst : s.sc.state = .joinPending) :
    exec (.ownWindowClose false) s =
      .next (ownEnded
        (if s.sc.foundedSeen then enterState .awaitSnapshot .joinApplied (presenceMarked (ownTaken a s))
        else found (presenceMarked (ownTaken a s)))) := by
  rw [exec_ownWindowClose_of_accepted h, applyFrame_of_invalid (by simpa using hv),
    ownFrameAccepted_of_not_awaiting (by simp [hst]), hb]
  dsimp only
  rw [ownJoinAccepted_of_joinPending (by simp [presenceMarked_sc, hst])]
  simp [presenceMarked_sc]

theorem ownJoin_founds {m : Station} (hm : s.xi.number = some m) (hb : a.frame.body = .join)
    (hst : s.sc.state = .joinPending) (hf : s.sc.foundedSeen = false) :
    ∃ t, exec (.ownWindowClose false) s = .next t ∧ OwnTaken s t ∧ t.sc.state = .active ∧
      t.re = ReplicaEngine.founded m ∧ (∀ x : Station, t.sc.silence[x] = { watched := false, count := 0 }) ∧
      t.mp.counters.framesApplied = s.mp.counters.framesApplied := by
  have hexec := exec_ownJoin h hv hb hst
  rw [hf, if_neg (by decide)] at hexec
  obtain ⟨hown, hframes, -⟩ := ownFrames_of_lasting (found_lasting (presenceMarked (ownTaken a s)))
  refine ⟨_, hexec, ownTaken_of_ended (hown.trans (by simp)) (by simp [found_board]) (by simp [OutsideKept]), ?_, ?_,
    fun x => ?_, ?_⟩
  · simp [found_sc]
  · simp [found_re, me_of_number hm]
  · simp [found_sc, noSilence, Silence.unwatched]
  · simpa [Counters.increment] using hframes

theorem ownJoin_awaits (hb : a.frame.body = .join) (hst : s.sc.state = .joinPending) (hf : s.sc.foundedSeen = true) :
    ∃ t, exec (.ownWindowClose false) s = .next t ∧ OwnTaken s t ∧ t.sc.state = .awaitSnapshot ∧
      t.sc.deadline = .running ∧ t.sc.tableHeard = false ∧ t.sc.foundedSeen = true ∧ t.re = s.re.discardLoad := by
  have hexec := exec_ownJoin h hv hb hst
  rw [hf, if_pos rfl] at hexec
  obtain ⟨hown, -⟩ := ownFrames_of_lasting
    (enterState_lasting .awaitSnapshot .joinApplied (presenceMarked (ownTaken a s)))
  refine ⟨_, hexec, ownTaken_of_ended (hown.trans (by simp)) (by simp) (by simp [OutsideKept]), ?_⟩
  simp [StationController.change, presenceMarked_sc, hf]

theorem ownLeave_detaches (hb : a.frame.body = .leave) (hst : s.sc.state = .leaving) :
    ∃ t, exec (.ownWindowClose false) s = .next t ∧ OwnTaken s t ∧ t.sc.state = .detached ∧ t.tc.state = .offline ∧
      t.tq = TransmitQueue.empty := by
  have hexec := exec_ownWindowClose_of_accepted h
  have hl : leaveEnds .left (presenceMarked (ownTaken a s)) =
      enterState .detached .left (presenceMarked (ownTaken a s)) := by
    rw [leaveEnds, show (presenceMarked (ownTaken a s)).sc.state = .leaving by simp [presenceMarked_sc, hst]]
  rw [applyFrame_of_invalid (by simpa using hv), ownFrameAccepted_of_not_awaiting (by simp [hst]), hb] at hexec
  dsimp only at hexec
  rw [hl] at hexec
  obtain ⟨hown, -⟩ := ownFrames_of_lasting (enterState_lasting .detached .left (presenceMarked (ownTaken a s)))
  obtain ⟨u, hu⟩ : ∃ u, u = enterState .detached .left (presenceMarked (ownTaken a s)) := ⟨_, rfl⟩
  have hoff : (countUp .ownFramesApplied (u.withXi { u.xi with dropStreak := 0 })).tc.state = .offline := by
    simpa [hu] using (enterState_offline .detached .left (presenceMarked (ownTaken a s))).mpr rfl
  have hended : ownEnded u = settle (countUp .ownFramesApplied (u.withXi { u.xi with dropStreak := 0 })) := by
    rw [ownEnded, attemptReport_offline hoff]
  refine ⟨_, hexec, ownTaken_of_ended (hown.trans (by simp)) (by simp) (by simp [OutsideKept]), ?_, ?_, ?_⟩
  · simp [StationController.change]
  · rw [← hu, hended, settle_offline _ hoff]
    exact hoff
  · rw [← hu, hended, settle_offline _ hoff]
    simp [hu, StationState.queueEmptied]

end

end Sys2Proof.Machine
end

section
/-! PROOF. Accepted frames of other stations at a station without a valid replica (O31, second part): founded seen, and the
snapshot parts of a load. -/

namespace Sys2Proof.Machine

open Sys2Proof.Safety

/-! ### The close of the window (R106, R139, R145) -/

/-- A frame heard and its sender's silence count taken. -/
def heard (f : Frame) (s : State) : State := silenceHeard f.sender (heardReport f (received s))

@[simp] theorem heard_keeps (f : Frame) (s : State) :
    (heard f s).pending = s.pending ∧ (heard f s).powered = s.powered ∧ (heard f s).unanswered = s.unanswered ∧
    (heard f s).lines = s.lines ∧ (heard f s).xi = { s.xi with rx := .none, rejectStreak := 0 } ∧ (heard f s).tc = s.tc ∧
    (heard f s).tq = s.tq ∧ (heard f s).re = s.re ∧ (heard f s).bu = s.bu ∧ (heard f s).cl = s.cl ∧
    (heard f s).mp = s.mp ∧ (heard f s).pins = s.pins := by
  simp [heard, received]

@[simp] theorem heard_me (f : Frame) (s : State) : (heard f s).me = s.me := by simp [State.me]

theorem heard_sc_of_awaiting {s : State} (h : s.sc.state = .awaitSnapshot) (f : Frame) :
    (heard f s).sc = { s.sc with tableHeard := s.sc.tableHeard || f.active, silence := (heard f s).sc.silence } := by
  have hr : (heardReport f (received s)).sc = { s.sc with tableHeard := s.sc.tableHeard || f.active } := by
    have hs : (received s).sc.state = .awaitSnapshot := h
    rw [heardReport, hs]
    rfl
  rw [heard, silenceHeard_sc, hr]

theorem heard_of_unfounded {s : State} (h : s.sc.state = .listening ∨ s.sc.state = .joinPending) (f : Frame)
    (hw : s.sc.silence[f.sender].watched = false) :
    heard f s = (received s).withSc { s.sc with foundedSeen := s.sc.foundedSeen || f.active } := by
  have hr : heardReport f (received s) = (received s).withSc { s.sc with foundedSeen := s.sc.foundedSeen || f.active } := by
    have hs : (received s).sc.state = .listening ∨ (received s).sc.state = .joinPending := h
    unfold heardReport
    rcases hs with hs | hs <;> rw [hs] <;> rfl
  rw [heard, hr, silenceHeard, if_neg (by simpa using hw)]

/-- The close of a clean window at a station without a valid replica. -/
theorem exec_windowClose_of_hears {s : State} {f : Frame} {m : Station} (h : HearsWhole s f m) :
    exec (.windowClose false) s = .next (settle (otherFrameAccepted f (heardReport f (received s)))) := by
  obtain ⟨hp, _, hrx, hn, hm, hv⟩ := h
  have hw : windowCloses false s = handOver f (heardReport f (received s)) := by
    rw [windowCloses, hrx]
    rfl
  have ht : (heardReport f (received s)).isTwin f = false := by simpa [State.isTwin, received, hn] using hm
  rw [exec_windowClose hp, hw, handOver, ht, applyFrame_of_invalid (by simpa using hv), if_neg (by decide)]

/-- In LISTENING and JOIN_PENDING a JOIN sets founded seen (R139). -/
theorem otherFrameAccepted_of_unfounded {s : State} (h : s.sc.state = .listening ∨ s.sc.state = .joinPending) (f : Frame)
    (hw : s.sc.silence[f.sender].watched = false) :
    otherFrameAccepted f (heardReport f (received s)) =
      (received s).withSc { s.sc with foundedSeen := s.sc.foundedSeen || f.active || f.body == .join } := by
  have hh := heard_of_unfounded h f hw
  unfold heard at hh
  unfold otherFrameAccepted
  rw [hh]
  rcases h with h | h <;> simp only [State.withSc_sc, h] <;> rfl

/-- In AWAIT_SNAPSHOT the frame goes to the load (R145). -/
theorem otherFrameAccepted_of_awaiting {s : State} (h : s.sc.state = .awaitSnapshot) (f : Frame) :
    otherFrameAccepted f (heardReport f (received s)) = frameWhileAwaiting f (heard f s) := by
  have hs : (silenceHeard f.sender (heardReport f (received s))).sc.state = .awaitSnapshot := by
    have := heard_sc_of_awaiting h f
    unfold heard at this
    rw [this]
    exact h
  unfold otherFrameAccepted
  simp only [hs]
  rfl

/-- A change of the receiver, the replica and the marks of the station controller leaves nothing to do at the end of the
event. -/
theorem settle_of_unmoved {s u : State} (h : Settled s) (hsc : u.sc.state = s.sc.state) (hbu : u.bu = s.bu)
    (htc : u.tc = s.tc) (htq : u.tq = s.tq) (hxi : u.xi.pairDrive = s.xi.pairDrive) (hcl : u.cl = s.cl)
    (hpins : u.pins = s.pins) : settle u = u := by
  refine settle_of_settled u ⟨by rw [htc, htq]; exact h.1, ?_⟩
  rw [hpins, h.2, drivenPins_congr hsc hbu htc hxi (by rw [hcl]) (by rw [hcl])]

theorem pairDrive_received {s : State} {f : Frame} (h : s.xi.rx = .whole f) :
    ({ s.xi with rx := .none, rejectStreak := 0 } : ExchangeInterface).pairDrive = s.xi.pairDrive := by
  simp [ExchangeInterface.pairDrive, h]

/-- LISTENING and JOIN_PENDING (R139). -/
theorem windowClose_founded_seen {s : State} {f : Frame} {m : Station} (h : HearsWhole s f m)
    (hst : s.sc.state = .listening ∨ s.sc.state = .joinPending) (hw : s.sc.silence[f.sender].watched = false) :
    exec (.windowClose false) s =
      .next
        { s with
          xi := { s.xi with rx := .none, rejectStreak := 0 }
          sc := { s.sc with foundedSeen := s.sc.foundedSeen || f.active || f.body == .join } } := by
  have hexec := exec_windowClose_of_hears h
  obtain ⟨_, hsettled, hrx, _⟩ := h
  rw [hexec, otherFrameAccepted_of_unfounded hst f hw]
  exact congrArg Host.Outcome.next (settle_of_unmoved hsettled rfl rfl rfl rfl (pairDrive_received hrx) rfl rfl)

end Sys2Proof.Machine
end

section
/-! PROOF. The snapshot parts of a load in AWAIT_SNAPSHOT, and the frames that end one (R23, R145 to R149). -/

namespace Sys2Proof.Machine

open Sys2Proof.Safety

/-! ### A part that goes on with the load, and a frame outside a run -/

/-- The station awaits the snapshot as before, with the frame heard and another load image. -/
structure StillAwaiting (f : Frame) (e : ReplicaEngine) (s t : State) : Prop where
  re : t.re = e
  state : t.sc.state = .awaitSnapshot
  deadline : t.sc.deadline = s.sc.deadline
  tableHeard : t.sc.tableHeard = (s.sc.tableHeard || f.active)
  tq : t.tq = s.tq
  mp : t.mp = s.mp
  bu : t.bu = s.bu
  outside : OutsideKept s t

theorem frameWhileAwaiting_of_no_part {f : Frame} (hb : ∀ p, f.body ≠ .snapshot p) (u : State) :
    frameWhileAwaiting f u = frameOutsideRun u := by
  unfold frameWhileAwaiting
  split
  next p hp => exact absurd hp (hb p)
  all_goals rfl

section
variable {s : State} {f : Frame} {m : Station} (h : HearsWhole s f m) (hst : s.sc.state = .awaitSnapshot)
include h hst

theorem exec_windowClose_of_awaiting :
    exec (.windowClose false) s = .next (settle (frameWhileAwaiting f (heard f s))) := by
  rw [exec_windowClose_of_hears h, otherFrameAccepted_of_awaiting hst]

theorem stillAwaiting_withRe (e : ReplicaEngine) : StillAwaiting f e s (settle ((heard f s).withRe e)) := by
  obtain ⟨_, hsettled, hrx, _⟩ := h
  have hsc := heard_sc_of_awaiting hst f
  have hstate : (heard f s).sc.state = .awaitSnapshot := by rw [hsc]; exact hst
  rw [settle_of_unmoved hsettled (u := (heard f s).withRe e) (by simp [hstate, hst]) (by simp) (by simp) (by simp)
    (by simpa using pairDrive_received hrx) (by simp) (by simp)]
  refine ⟨by simp, by simp [hstate], ?_, ?_, by simp, by simp, by simp, by simp [OutsideKept]⟩
  · rw [State.withRe_sc, hsc]
  · rw [State.withRe_sc, hsc]

/-- A frame that leaves the load image e and ends no load. -/
theorem awaits_of_frame {e : ReplicaEngine} (he : frameWhileAwaiting f (heard f s) = (heard f s).withRe e) :
    ∃ t, exec (.windowClose false) s = .next t ∧ StillAwaiting f e s t :=
  ⟨_, exec_windowClose_of_awaiting h hst, he ▸ stillAwaiting_withRe h hst e⟩

theorem awaits_of_first_part {ms : Vector MemberState 16} (hb : f.body = .snapshot (.members ms)) :
    ∃ t, exec (.windowClose false) s = .next t ∧
      StillAwaiting f { s.re with load := some { members := ms, records := [], nextPart := 1, count := f.count + 1 } }
        s t := by
  refine awaits_of_frame h hst ?_
  simp only [frameWhileAwaiting, hb, takePart, heard_keeps, ReplicaEngine.loadPart]

theorem awaits_of_next_part {k : Fin 8} {recs : List WireRecord} {i : LoadImage} (hf : f.wellFormed = true)
    (hb : f.body = .snapshot (.records k recs)) (hi : s.re.load = some i) (hp : PartFollows i f.count k recs)
    (hk : k.val < 7) :
    ∃ t, exec (.windowClose false) s = .next t ∧
      StillAwaiting f { s.re with load := some (i.extended recs) } s t := by
  obtain ⟨_, hw⟩ := records_of_wellFormed hf hb
  refine awaits_of_frame h hst ?_
  simp only [frameWhileAwaiting, hb, takePart, heard_keeps, loadPart_records hi f.count k hw hp, if_neg hk.ne]

theorem awaits_of_no_load (hb : ∀ p, f.body ≠ .snapshot p) (hl : s.re.load = none) :
    ∃ t, exec (.windowClose false) s = .next t ∧ StillAwaiting f s.re s t := by
  refine awaits_of_frame h hst ?_
  rw [frameWhileAwaiting_of_no_part hb, frameOutsideRun, if_neg (by simp [ReplicaEngine.loading, hl])]
  exact congrArg (heard f s).withRe (by simp : (heard f s).re = s.re)

/-- A part out of order, or a frame outside the run, ends the load (R23, R146, R147). -/
theorem exec_windowClose_of_broken
    (hb : (∃ k recs, f.wellFormed = true ∧ f.body = .snapshot (.records k recs) ∧
        ∀ i ∈ s.re.load, ¬ PartFollows i f.count k recs) ∨
      ((∀ p, f.body ≠ .snapshot p) ∧ s.re.load.isSome = true)) :
    exec (.windowClose false) s = .next (settle (loadEnded ((heard f s).withRe { s.re with load := none }))) := by
  rw [exec_windowClose_of_awaiting h hst]
  rcases hb with ⟨k, recs, hf, hb, hp⟩ | ⟨hb, hl⟩
  · obtain ⟨_, hw⟩ := records_of_wellFormed hf hb
    simp only [frameWhileAwaiting, hb, takePart, heard_keeps, loadPart_broken f.count k hw hp]
  · rw [frameWhileAwaiting_of_no_part hb, frameOutsideRun, if_pos (by simpa [ReplicaEngine.loading] using hl)]
    simp [ReplicaEngine.discardLoad]

end

/-! ### The deadline held at its expiry (R146, R148) -/

theorem itemsOf_addJoinOrLeave {q : TransmitQueue} (h : ∀ e ∈ q.entries, e.item.isJoinOrLeave = false) (i : Item) :
    itemsOf (q.addJoinOrLeave i) = itemsOf q ++ [i] := by
  rw [TransmitQueue.addJoinOrLeave, if_neg (by simpa using h), itemsOf_append]

theorem settle_items (s : State) : itemsOf (settle s).tq = itemsOf s.tq := (askStable_items _).settle (s := s) rfl

theorem settle_board (s : State) : (settle s).bu.board = s.bu.board := by simp

theorem joinAgain_sc (c : Cause) (s : State) : (joinAgain c s).sc = s.sc.change .joinPending := by simp [joinAgain]

theorem joinAgain_tq (c : Cause) (s : State) : (joinAgain c s).tq = s.tq.addJoinOrLeave .join := by
  simp [joinAgain, StationState.queueEmptied]

theorem joinAgain_re (c : Cause) (s : State) : (joinAgain c s).re = s.re.discardLoad := by simp [joinAgain]

theorem loadEnded_of_not_held {s : State} (h : s.sc.deadline ≠ .held) : loadEnded s = s := by
  unfold loadEnded
  split
  next hd => exact absurd hd h
  all_goals rfl

theorem loadEnded_of_held {s : State} (h : s.sc.deadline = .held) : loadEnded s = deadlineTakesEffect s := by
  unfold loadEnded
  rw [h]

theorem deadlineTakesEffect_re (s : State) : (deadlineTakesEffect s).re = s.re.discardLoad := by
  unfold deadlineTakesEffect
  split
  · exact joinAgain_re _ s
  · exact enterState_re _ _ s

/-- The end of a load leaves no image where none is left. -/
theorem loadEnded_re {s : State} (h : s.re.load = none) : (loadEnded s).re = s.re := by
  have hd : s.re.discardLoad = s.re := congrArg (fun l => { s.re with load := l }) h.symm
  unfold loadEnded
  split
  · exact (deadlineTakesEffect_re s).trans hd
  all_goals rfl

section
variable {s : State} {f : Frame} {m : Station} (h : HearsWhole s f m) (hst : s.sc.state = .awaitSnapshot)
  (hb : (∃ k recs, f.wellFormed = true ∧ f.body = .snapshot (.records k recs) ∧
      ∀ i ∈ s.re.load, ¬ PartFollows i f.count k recs) ∨
    ((∀ p, f.body ≠ .snapshot p) ∧ s.re.load.isSome = true))
include h hst hb

/-- A load that ends: by the deadline, where it was held, the station joins again or listens. -/
theorem load_ends :
    ∃ t, exec (.windowClose false) s = .next t ∧ t.re = { s.re with load := none } ∧
      (s.sc.deadline ≠ .held →
        t.sc.state = .awaitSnapshot ∧ t.sc.deadline = s.sc.deadline ∧ t.tq = s.tq ∧ t.mp = s.mp) ∧
      (s.sc.deadline = .held → s.sc.tableHeard = true ∨ f.active = true →
        t.sc.state = .joinPending ∧ t.sc.foundedSeen = s.sc.foundedSeen ∧
          ((∀ e ∈ s.tq.entries, e.item.isJoinOrLeave = false) →
            t.tq.entries.map (·.item) = s.tq.entries.map (·.item) ++ [.join])) ∧
      (s.sc.deadline = .held → s.sc.tableHeard = false → f.active = false →
        t.sc.state = .listening ∧ t.sc.foundedSeen = false ∧ t.tq = TransmitQueue.empty) ∧
      BoardKept s t ∧ OutsideKept s t := by
  have hexec := exec_windowClose_of_broken h hst hb
  obtain ⟨u, hu⟩ : ∃ u, u = (heard f s).withRe { s.re with load := none } := ⟨_, rfl⟩
  have husc : u.sc = { s.sc with tableHeard := s.sc.tableHeard || f.active, silence := (heard f s).sc.silence } := by
    rw [hu]
    exact heard_sc_of_awaiting hst f
  have hutq : u.tq = s.tq := by simp [hu]
  have hure : u.re = { s.re with load := none } := by simp [hu]
  have hboard : (loadEnded u).bu.board = s.bu.board := by simp [hu]
  have hout : OutsideKept s (loadEnded u) := by simp [OutsideKept, hu]
  rw [← hu] at hexec
  refine ⟨_, hexec, ?_, fun hd => ?_, fun hd ha => ?_, fun hd hn hi => ?_, ?_, ?_⟩
  · simp only [settle_keeps]
    rw [loadEnded_re (by simp [hure]), hure]
  · obtain ⟨_, hs, hdl, _, htq, hmp, _⟩ := stillAwaiting_withRe h hst { s.re with load := none }
    rw [loadEnded_of_not_held (by simpa [husc] using hd), hu]
    exact ⟨hs, hdl, htq, hmp⟩
  · have hj : loadEnded u = joinAgain .deadline u := by
      rw [loadEnded_of_held (by simp [husc, hd]), deadlineTakesEffect, if_pos (by simpa [husc] using ha)]
    rw [hj]
    refine ⟨by simp [joinAgain_sc], by simp [joinAgain_sc, husc, StationController.change], fun hq => ?_⟩
    have := settle_items (joinAgain .deadline u)
    rwa [joinAgain_tq, hutq, itemsOf_addJoinOrLeave hq] at this
  · have hj : loadEnded u = enterState .listening .noTableHeard u := by
      rw [loadEnded_of_held (by simp [husc, hd]), deadlineTakesEffect, if_neg (by simp [husc, hn, hi])]
    rw [hj]
    refine ⟨by simp, by simp [StationController.change], (settle_steady _).tq ?_⟩
    rw [enterState_tq]
    rfl
  · simpa [boardKept_iff] using hboard
  · simpa [OutsideKept] using hout

end

end Sys2Proof.Machine
end

section
/-! PROOF. A completed load (R23, R149, R150, R167): CONFIRMING with a PRESENCE, or the teardown and another JOIN. -/

namespace Sys2Proof.Machine

open Sys2Proof.Safety

/-! ### The number of the station -/

theorem cutAttempt_number (x : ExchangeInterface) : x.cutAttempt.number = x.number := by
  unfold ExchangeInterface.cutAttempt
  (repeat' split) <;> rfl

theorem emptyQueue_number (s : State) : (emptyQueue s).xi.number = s.xi.number := by
  unfold emptyQueue discardTo
  dsimp only
  split <;> rfl

theorem placeOffline_number (s : State) : (placeOffline s).xi.number = s.xi.number := by
  unfold placeOffline
  split
  · rfl
  · exact cutAttempt_number _

theorem enterState_me (st : StationState) (c : Cause) (s : State) : (enterState st c s).me = s.me := by
  unfold State.me enterState
  dsimp only
  split <;> split <;> simp [placeOffline_number, emptyQueue_number]

/-! ### No claim left (R80) -/

/-- Every local claim is in NONE. -/
def NoClaims (s : State) : Prop := ∀ c ∈ s.bu.claims, c.state = .none

theorem takenReport_of_noClaims {s : State} (h : NoClaims s) (r : Resource) : takenReport r s = s := by
  unfold takenReport onClaim
  split
  · rfl
  next c hc =>
    dsimp only
    rw [h c (claimFor_mem (c := c) hc)]

theorem reportTaken_of_noClaims {s : State} (h : NoClaims s) (k : Handed) : reportTaken k s = s := by
  unfold reportTaken
  split
  · split
    · exact takenReport_of_noClaims h _
    · rfl
  all_goals rfl

theorem askStable_noClaims : AskStable NoClaims where
  ask s hs := by
    unfold NoClaims
    rw [askNext_bu]
    cases hh : s.tq.hand.2 with
    | none => exact hs
    | some k =>
      rw [Option.elim_some, reportTaken_of_noClaims hs k]
      exact hs
  tenure _ _ hs := hs
  pins _ _ hs := hs

theorem wholesaleLoss_bu (why : LossReason) (s : State) :
    (wholesaleLoss why s).bu = { s.bu with claims := s.bu.claims.map (·.to .none), latches := Vector.replicate 12 false } := by
  unfold wholesaleLoss
  refine (foldl_keeps (·.bu) _ (fun s n => ?_) _ _).trans rfl
  simp

theorem teardown_bu (why : LossReason) (s : State) :
    (teardown why s).bu = { s.bu with claims := s.bu.claims.map (·.to .none), latches := Vector.replicate 12 false } := by
  simp [teardown, wholesaleLoss_bu]

theorem teardown_noClaims (why : LossReason) (s : State) : ∀ c ∈ (teardown why s).bu.claims, c.state = .none := by
  rw [teardown_bu]
  intro c hc
  obtain ⟨d, _, rfl⟩ := List.mem_map.mp hc
  rfl

/-! ### The whole image (R23) -/

/-- The eighth part makes the image whole. -/
theorem loadedFrom_complete {i : LoadImage} {recs : List WireRecord} {count : Half} (hi : ImageLawful i)
    (hw : ∀ w ∈ recs, w.wellFormed = true) (hlen : recs.length = 8) (hp : PartFollows i count 7 recs) :
    LoadedFrom (i.extended recs).complete i recs := by
  obtain ⟨_, _, hilen, hirecs, _⟩ := hi
  obtain ⟨hnext, _, hall, _⟩ := (partFollows_iff hw).mp hp
  have hlen' : (i.extended recs).records.length = 64 := by
    have : i.nextPart = 8 := hnext
    simp only [List.length_append, hilen, hlen, this]
  have hrecs : ∀ w ∈ (i.extended recs).records, w.wellFormed = true ∧ w.lawful (i.extended recs).members = true := by
    intro w hm
    rcases List.mem_append.mp hm with hm | hm
    · exact hirecs w hm
    · exact ⟨hw w hm, List.all_eq_true.mp hall w hm⟩
  exact ⟨rfl, rfl, rfl, rfl, fun r => ⟨complete_toWire hlen' hrecs r, complete_yieldDemand hlen' r⟩, complete_slots hlen',
    fun n => by simp [LoadImage.complete, waitTotal]⟩

theorem discardLoad_of_none {e : ReplicaEngine} (h : e.load = none) : e.discardLoad = e :=
  congrArg (fun l => { e with load := l }) h.symm

/-! ### The entry to CONFIRMING (R149, R150) -/

/-- The state in which a completed load finds how the replica shows this station. -/
def confirmingEntered (s : State) : State :=
  (enterState .confirming .snapshotLoaded s).withSilence
    (silenceOnLoad (enterState .confirming .snapshotLoaded s).me (enterState .confirming .snapshotLoaded s).re.members)

theorem completedLoad_eq (s : State) :
    completedLoad s =
      if (confirmingEntered s).re.members[(confirmingEntered s).me] = .joining then
        (confirmingEntered s).withTq (confirmingEntered s).tq.addPresence
      else joinAgain .notJoining (teardown .left (confirmingEntered s)) := by
  unfold completedLoad
  dsimp only
  split
  next h => exact (if_pos h).symm
  next h => exact (if_neg fun hj => absurd (h.symm.trans hj) (by decide)).symm
  next h => exact (if_neg fun hj => absurd (h.symm.trans hj) (by decide)).symm

theorem confirmingEntered_silence (s : State) (x : Station) :
    (confirmingEntered s).sc.silence[x] = { watched := s.re.members[x] != .absent && x != s.me, count := 0 } := by
  simp only [confirmingEntered, withSilence_sc, silenceOnLoad, enterState_me, enterState_re, discardLoad_members]
  exact tableOf_getElem _ _ _

/-- A completed load moves no line and no binding. -/
theorem completedLoad_wiring (s : State) :
    (completedLoad s).bu.lines = s.bu.lines ∧ (completedLoad s).bu.bindings = s.bu.bindings := by
  rw [completedLoad_eq]
  split <;> simp [teardown_bu, confirmingEntered]

theorem purged_of_none {q : TransmitQueue} (h : ∀ e ∈ q.entries, e.item.isJoinOrLeave = false) :
    q.purged = TransmitQueue.empty := by
  have : q.entries.filter (fun e => e.item.isJoinOrLeave) = [] :=
    List.filter_eq_nil_iff.mpr fun e he => by simp [h e he]
  rw [TransmitQueue.purged, this]
  rfl

theorem mem_addPresence (q : TransmitQueue) : Item.presence ∈ itemsOf q.addPresence := by
  unfold TransmitQueue.addPresence
  split
  next h =>
    obtain ⟨e, he, hp⟩ := List.any_eq_true.mp h
    exact List.mem_map.mpr ⟨e, he, by simpa using hp⟩
  · rw [itemsOf_append]
    simp

/-- The eighth part of a run (R23, R149). -/
theorem load_completes {s : State} {f : Frame} {m : Station} (h : HearsWhole s f m) (hst : s.sc.state = .awaitSnapshot)
    {recs : List WireRecord} {i : LoadImage} (hf : f.wellFormed = true) (hi : ImageLawful i)
    (hb : f.body = .snapshot (.records 7 recs)) (hl : s.re.load = some i) (hp : PartFollows i f.count 7 recs) :
    ∃ t, exec (.windowClose false) s = .next t ∧
      (i.members[m] = .joining →
        t.sc.state = .confirming ∧ LoadedFrom t.re i recs ∧ (∃ e ∈ t.tq.entries, e.item = .presence) ∧
          ∀ x : Station,
            t.sc.silence[x] = { watched := decide (i.members[x] ≠ .absent ∧ x ≠ m), count := 0 }) ∧
      (i.members[m] ≠ .joining → (∀ e ∈ s.tq.entries, e.item.isJoinOrLeave = false) →
        t.sc.state = .joinPending ∧ t.re = ReplicaEngine.empty ∧ t.tq.entries.map (·.item) = [.join] ∧
          t.sc.foundedSeen = s.sc.foundedSeen ∧ ∀ c ∈ t.bu.claims, c.state = .none) ∧
      t.bu.lines = s.bu.lines ∧ t.bu.bindings = s.bu.bindings ∧ OutsideKept s t := by
  obtain ⟨hlen, hw⟩ := records_of_wellFormed hf hb
  have hloaded := loadedFrom_complete hi hw hlen hp
  obtain ⟨u, hu⟩ : ∃ u, u = (heard f s).withRe (i.extended recs).complete := ⟨_, rfl⟩
  have hexec : exec (.windowClose false) s = .next (settle (completedLoad u)) := by
    rw [exec_windowClose_of_awaiting h hst]
    simp only [frameWhileAwaiting, hb, takePart, heard_keeps, loadPart_records hl f.count 7 hw hp, hu]
    rfl
  have hm : u.me = m := by
    obtain ⟨_, _, _, hn, _⟩ := h
    have : u.me = (heard f s).me := by rw [hu]; rfl
    rw [this, heard_me, me_of_number hn]
  have hure : u.re = (i.extended recs).complete := by simp [hu]
  have hsc : (confirmingEntered u).sc.foundedSeen = s.sc.foundedSeen := by
    have : u.sc.foundedSeen = s.sc.foundedSeen := by
      rw [hu, State.withRe_sc, heard_sc_of_awaiting hst]
    simp [confirmingEntered, StationController.change, this]
  have hcre : (confirmingEntered u).re = (i.extended recs).complete := by
    simp [confirmingEntered, hure]
    exact discardLoad_of_none rfl
  have hcbu : (confirmingEntered u).bu = s.bu := by simp [confirmingEntered, hu]
  have hctq : (confirmingEntered u).tq = s.tq := by simp [confirmingEntered, hu, StationState.queueEmptied]
  have hout : OutsideKept s (settle (completedLoad u)) := by simp [OutsideKept, hu]
  have hcme : (confirmingEntered u).me = m := (enterState_me .confirming .snapshotLoaded u).trans hm
  have hmember : (confirmingEntered u).re.members[(confirmingEntered u).me] = i.members[m] := by
    simp only [hcre, hcme]
    rfl
  have hubu : u.bu = s.bu := by simp [hu]
  obtain ⟨hlines, _, hbindings⟩ := boardKept_iff.mpr (settle_board (completedLoad u))
  have heq := completedLoad_eq u
  rw [hmember] at heq
  refine ⟨_, hexec, fun hj => ?_, fun hj hq => ?_, ?_, ?_, hout⟩
  · rw [heq, if_pos hj]
    refine ⟨by simp [confirmingEntered], ?_, ?_, fun x => ?_⟩
    · simp only [settle_keeps, State.withTq_re, hcre]
      exact hloaded
    · refine List.mem_map.mp ?_
      change _ ∈ itemsOf _
      rw [settle_items]
      exact mem_addPresence (confirmingEntered u).tq
    · simp only [settle_keeps, State.withTq_sc, confirmingEntered_silence u, hm, hure]
      change ({ watched := i.members[x] != .absent && x != m, count := 0 } : Silence) = _
      congr 1
      rw [Bool.eq_iff_iff]
      simp
  · rw [heq, if_neg hj]
    refine ⟨by simp [joinAgain_sc], ?_, ?_, ?_, askStable_noClaims.settle ?_⟩
    · simp only [settle_keeps, joinAgain_re, teardown_re]
      rfl
    · have := settle_items (joinAgain .notJoining (teardown .left (confirmingEntered u)))
      rw [joinAgain_tq, teardown_tq, hctq, purged_of_none hq] at this
      exact this
    · simp [joinAgain_sc, StationController.change, hsc]
    · unfold NoClaims
      rw [(joinAgain_keeps _ _).2.2.2.2.1]
      exact teardown_noClaims _ _
  · rw [hlines, (completedLoad_wiring u).1, hubu]
  · rw [hbindings, (completedLoad_wiring u).2, hubu]

end Sys2Proof.Machine
end

section
/-! PROOF. An own EXPEL accepted (O31, fourth part): its target out of the table, EXPEL_SENT, and no EXPEL for the target
left in the queue. -/

namespace Sys2Proof.Machine

open Sys2Proof.Safety

/-! ### An own frame applied to a valid replica (R27) -/

theorem applyFrame_own {s : State} {f : Frame} (hv : s.re.valid = true) :
    applyFrame true f s = membershipReports s.me s.re (effectsOf s.re f) (applied true f s) := by
  unfold applyFrame
  rw [if_pos hv, if_neg (by simp), applyFully_eq]

/-- A batch that no own CLAIM or DROP opens is that of another station's frame. -/
theorem batchOf_own {me : Station} {f : Frame} {e : ReplicaEngine} {x : Effects} (ho : ownEntry me f x = [])
    (hc : ∀ r, ownClaimOn true f r = false) : batchOf me true f e x = batchOf me false f e x := by
  have hf (r : Resource) : ownClaimOn false f r = false := rfl
  simp [batchOf, ho, hc, hf]

@[simp] theorem checked_own (f : Frame) (s : State) : checked true f s = s := rfl

/-- An application counts its own frame nowhere but at FRAMES APPLIED and CLAIMS REFUSED. -/
theorem applied_counters_own (f : Frame) (s : State) :
    (applied true f s).mp.counters.ownFramesApplied = s.mp.counters.ownFramesApplied := by
  unfold applied
  rw [(ownFrames_of_lasting (takeBatch_lasting _ _)).1, checked_own]
  unfold referenceDerived countRefusal
  dsimp only
  (repeat' split) <;> simp [countUp, Counters.increment]

/-! ### The EXPELs that the batch leaves in the queue (R82, R91) -/

theorem append_holdsExpel (q : TransmitQueue) (i : Item) (x : Station) :
    (q.append i).holdsExpel x = (q.holdsExpel x || i.target? == some x) := by
  simp [TransmitQueue.holdsExpel, TransmitQueue.append, Entry.expels, Entry.fresh]

theorem removeFirst_any {α : Type} {p q : α → Bool} (h : ∀ a, p a = true → q a = false) (as : List α) :
    (removeFirst p as).any q = as.any q := by
  induction as with
  | nil => rfl
  | cons a as ih =>
    unfold removeFirst
    split
    next hp => simp [h a hp]
    next => simp [ih]

/-- A claim-family frame expels no one. -/
theorem not_expels_of_isFor {r : Resource} {x : Station} {e : Entry} (h : e.isFor r = true) : e.expels x = false := by
  obtain ⟨i, _, _⟩ := e
  cases i <;> simp_all [Entry.isFor, Entry.expels, Item.resource?, Item.target?]

section
variable (x : Station)

theorem addClaim_holdsExpel (q : TransmitQueue) (r : Resource) (m : Mode) (c : ClaimClass) (y : Bool) :
    (q.addClaim r m c y).holdsExpel x = q.holdsExpel x := by
  unfold TransmitQueue.addClaim
  split
  · rfl
  · simp [append_holdsExpel, Item.target?]

theorem addDrop_holdsExpel (q : TransmitQueue) (r : Resource) : (q.addDrop r).1.holdsExpel x = q.holdsExpel x := by
  unfold TransmitQueue.addDrop
  (repeat' split)
  · simp [append_holdsExpel, Item.target?]
  · rfl
  · exact removeFirst_any (fun e he => not_expels_of_isFor he) q.entries
  · rfl

@[simp] theorem claimAfresh_holdsExpel (c : LocalClaim) (s : State) :
    (claimAfresh c s).tq.holdsExpel x = s.tq.holdsExpel x := addClaim_holdsExpel x s.tq _ _ _ _

@[simp] theorem enterDropping_holdsExpel (c : LocalClaim) (d : Bool) (s : State) :
    (enterDropping c d s).tq.holdsExpel x = s.tq.holdsExpel x := addDrop_holdsExpel x s.tq _

@[simp] theorem takeStanding_holdsExpel (c : LocalClaim) (st : Standing) (s : State) :
    (takeStanding c st s).tq.holdsExpel x = s.tq.holdsExpel x := by
  unfold takeStanding
  split <;> simp

theorem takeEntry_holdsExpel {e : BatchEntry} (h : ∀ r, e ≠ .removed r) (s : State) :
    (takeEntry s e).tq.holdsExpel x = s.tq.holdsExpel x := by
  have on (r : Resource) (f : LocalClaim → State → State) (hf : ∀ c s, (f c s).tq.holdsExpel x = s.tq.holdsExpel x) :
      (onClaim r f s).tq.holdsExpel x = s.tq.holdsExpel x :=
    onClaim_keeps (·.tq.holdsExpel x) r f hf s
  cases e with
  | claimOutcome r o st => exact on r _ fun c s => by (repeat' split) <;> simp
  | dropApplied r d => exact on r _ fun c s => by (repeat' split) <;> simp
  | granted r m y d => exact on r _ fun c s => by split <;> simp
  | yield r d => exact on r _ fun c s => by (repeat' split) <;> simp
  | removed r => exact absurd rfl (h r)
  | freed => exact foldl_keeps (·.tq.holdsExpel x) _ (fun s c => by split <;> simp) _ _

theorem takeBatch_holdsExpel {es : List BatchEntry} (h : ∀ e ∈ es, ∀ r, e ≠ .removed r) (s : State) :
    (takeBatch es s).tq.holdsExpel x = s.tq.holdsExpel x := by
  induction es generalizing s with
  | nil => rfl
  | cons e es ih =>
    exact (ih (fun e he => h e (by simp [he])) (takeEntry s e)).trans (takeEntry_holdsExpel x (h e (by simp)) s)

theorem roleLost_entries (q : TransmitQueue) : q.roleLost.entries = q.entries := by
  unfold TransmitQueue.roleLost
  split <;> rfl

theorem roleTaken_holdsExpel (f : Frame) (me : Station) (was : Bool) (e : ReplicaEngine) (q : TransmitQueue) :
    (roleTaken f me was e q).holdsExpel x = q.holdsExpel x := by
  unfold roleTaken TransmitQueue.holdsExpel
  (repeat' split) <;> simp [arm_entries, roleLost_entries]

theorem applied_holdsExpel {f : Frame} {s : State}
    (h : ∀ e ∈ batchOf s.me true f s.re (effectsOf s.re f), ∀ r, e ≠ .removed r) :
    (applied true f s).tq.holdsExpel x = s.tq.holdsExpel x := by
  unfold applied
  rw [takeBatch_holdsExpel x h, referenceDerived_tq, roleTaken_holdsExpel]
  simp [checked]

theorem withdrawExpel_holdsExpel {q : TransmitQueue} (h : q.holdsExpel x = false) (y : Station) :
    (q.withdrawExpel y).1.holdsExpel x = false := by
  unfold TransmitQueue.withdrawExpel TransmitQueue.withdrawWhere
  (repeat' split)
  · exact h
  · exact h
  · refine List.any_eq_false.mpr fun e he => ?_
    exact List.any_eq_false.mp h e (mem_of_mem_removeFirst he)

theorem reported_holdsExpel {s : State} (h : s.tq.holdsExpel x = false) (y : Effects) :
    (reported y s).tq.holdsExpel x = false := by
  unfold reported
  split
  · exact h
  next z st _ =>
    cases st with
    | active => exact h
    | joining => exact withdrawExpel_holdsExpel x h z
    | absent => exact withdrawExpel_holdsExpel x h z

/-- The frames of the queue tell which EXPELs it holds. -/
theorem holdsExpel_of_items {q q' : TransmitQueue} (h : itemsOf q = itemsOf q') : q.holdsExpel x = q'.holdsExpel x := by
  have hany (q : TransmitQueue) : q.holdsExpel x = (itemsOf q).any fun i => i.target? == some x := by
    rw [itemsOf, List.any_map]
    rfl
  rw [hany, hany, h]

end

/-! ### The queue after an own frame accepted (R93) -/

/-- The frame in flight of a queue under law L9. -/
theorem inFlight_entry {s : State} (hq : QueueLawful s) {a : Attempt} (ha : s.xi.attempt = some a)
    (hd : a.discarded = false) {i : Item} (hs : a.sent = .entry i) :
    ∃ e ∈ s.tq.entries, e.inFlight = true ∧ e.item = i := by
  obtain ⟨_, _, _, _, _, hatt⟩ := hq
  have hone : inFlight s.tq = [.entry i] := hs ▸ hatt a ha hd
  have hm : Sent.entry i ∈ inFlight s.tq := by simp [hone]
  rcases List.mem_append.mp hm with hm | hm
  · obtain ⟨e, he, hi⟩ := List.mem_map.mp hm
    obtain ⟨hmem, hfl⟩ := List.mem_filter.mp he
    exact ⟨e, hmem, hfl, Sent.entry.inj hi⟩
  · split at hm <;> simp at hm

/-- An own frame accepted leaves the queue the entries beside it, but for an untaken PRESENCE. -/
theorem accepted_of_lawful {q : TransmitQueue} (h : (inFlight q).length ≤ 1) (i : Item) :
    q.accepted (.entry i) = { q.beside with entries := removeFirst (Entry.untaken .presence) q.beside.entries } := by
  rw [← removeFirst_inFlight h]
  rfl

/-- No other entry has the key of the entry in flight. -/
theorem beside_keyOf_ne {q : TransmitQueue} (hk : (q.entries.map fun e => keyOf e.item).Nodup) {e f : Entry}
    (he : e ∈ q.entries) (hi : e.inFlight = true) (hf : f ∈ q.beside.entries) : keyOf f.item ≠ keyOf e.item := fun h => by
  obtain ⟨hmem, hnot⟩ := List.mem_filter.mp hf
  obtain rfl := List.inj_on_of_nodup_map hk hmem he h
  simp [hi] at hnot

theorem accepted_expel_holdsExpel {s : State} (hq : QueueLawful s) {a : Attempt} (ha : s.xi.attempt = some a)
    (hd : a.discarded = false) {x : Station} {why : ExpelReason} (hs : a.sent = .entry (.expel x why)) :
    (s.tq.accepted a.sent).holdsExpel x = false := by
  obtain ⟨e, he, hi, hx⟩ := inFlight_entry hq ha hd hs
  obtain ⟨_, hkeys, _, _, hone, _⟩ := hq
  rw [hs, accepted_of_lawful hone]
  refine List.any_eq_false.mpr fun f hf => ?_
  have hne := beside_keyOf_ne hkeys he hi (mem_of_mem_removeFirst hf)
  rw [hx] at hne
  obtain ⟨i, _, _⟩ := f
  cases i <;> simp_all [Entry.expels, Item.target?, keyOf]

/-! ### EXPEL_SENT (R171) -/

theorem getLast?_post (n : Notice) (p : ManagementPort) :
    (p.post n).notices.getLast? = some n ∨ 32 ≤ (p.post n).notices.length := by
  unfold ManagementPort.post
  split
  · exact .inl (by simp)
  next h => exact .inr (by simpa [Config.noticeCapacity] using h)

theorem expelAccepted_of_state {f : Frame} {x : Station} {why : ExpelReason} (hb : f.body = .expel x why) {u : State}
    (hu : u.sc.state ≠ .awaitSnapshot) :
    ownFrameAccepted f u = postNotice (.expelSent x why) (presenceMarked u) := by
  rw [ownFrameAccepted_of_not_awaiting hu, hb]

/-- The effects of an EXPEL of another station are no report about this one. -/
theorem expel_ofOthers {f : Frame} {x m : Station} {why : ExpelReason} (hb : f.body = .expel x why) (hx : x ≠ m)
    (e : ReplicaEngine) : OfOthers m (effectsOf e f) := by
  simp only [effectsOf, hb, expelEffects]
  split
  · exact ⟨by rintro _ ⟨⟩; exact hx, by rintro _ ⟨⟩; exact hx⟩
  · exact ⟨nofun, nofun⟩

/-- The own frame that spares its sender has been applied. -/
structure OwnApplied (f : Frame) (s t : State) : Prop where
  re : t.re = (effectsOf s.re f).replica.advance
  state : t.sc.state = s.sc.state
  counted : t.mp.counters.ownFramesApplied = s.mp.counters.ownFramesApplied
  board : t.bu.board = s.bu.board
  outside : OutsideKept s t

theorem ownApplied_of_others {f : Frame} {s : State} (hv : s.re.valid = true) (ho : OfOthers s.me (effectsOf s.re f))
    (hb : batchOf s.me true f s.re (effectsOf s.re f) = batchOf s.me false f s.re (effectsOf s.re f)) :
    applyFrame true f s = reported (effectsOf s.re f) (applied true f s) ∧
      (∀ e ∈ batchOf s.me true f s.re (effectsOf s.re f), ∀ r, e ≠ .removed r) ∧
      OwnApplied f s (applyFrame true f s) := by
  have heq : applyFrame true f s = reported (effectsOf s.re f) (applied true f s) := by
    rw [applyFrame_own hv, membershipReports_of_others ho]
  have hnone : ∀ e ∈ batchOf s.me true f s.re (effectsOf s.re f), ∀ r, e ≠ .removed r := fun e he r =>
    ne_removed_of_mem_batchOf ho.expelled (hb ▸ he) r
  refine ⟨heq, hnone, ?_⟩
  rw [heq]
  refine ⟨by simp, ?_, ?_, ?_, by simp [OutsideKept]⟩
  · rw [reported_sc]
    simp
  · simp only [reported_keeps, applied_counters_own]
  · simp only [reported_keeps]
    unfold applied
    rw [takeBatch_board _ hnone]
    simp

section
variable {s : State} {a : Attempt} {x : Station} {why : ExpelReason} (h : AwaitsOwnWindow s a)
  (hb : a.frame.body = .expel x why)
include h hb

/-- An own EXPEL that no replica is valid to apply. -/
theorem ownExpel_of_invalid (hv : s.re.valid = false) (hl : s.sc.state = .awaitSnapshot → s.re.load = none) :
    ∃ t, exec (.ownWindowClose false) s = .next t ∧ OwnTaken s t ∧
      t.mp.notices = (s.mp.post (.expelSent x why)).notices ∧ t.re = s.re ∧ t.sc.state = s.sc.state := by
  have hexec := exec_ownWindowClose_of_accepted h
  rw [applyFrame_of_invalid (by simpa using hv)] at hexec
  have hf : ownFrameAccepted a.frame (ownTaken a s) = postNotice (.expelSent x why) (presenceMarked (ownTaken a s)) := by
    by_cases hst : s.sc.state = .awaitSnapshot
    · have hno : ∀ p, a.frame.body ≠ .snapshot p := by simp [hb]
      have haw : ((ownTaken a s).sc.state == .awaitSnapshot) = true := by simp [hst]
      have hout : frameOutsideRun (presenceMarked (ownTaken a s)) = presenceMarked (ownTaken a s) :=
        if_neg (by simp [ReplicaEngine.loading, hl hst])
      have := frameWhileAwaiting_of_no_part hno (presenceMarked (ownTaken a s))
      simp only [ownFrameAccepted, haw, hb]
      exact congrArg (postNotice (.expelSent x why)) (this.trans hout)
    · exact expelAccepted_of_state hb (by simpa using hst)
  rw [hf] at hexec
  obtain ⟨hown, -⟩ := ownFrames_of_lasting (postNotice_lasting (.expelSent x why) (presenceMarked (ownTaken a s)))
  refine ⟨_, hexec, ownTaken_of_ended (hown.trans (by simp)) (by simp) (by simp [OutsideKept]), ?_, by simp,
    by simp [presenceMarked_sc]⟩
  simp only [ownEnded_keeps, postNotice_mp, presenceMarked_keeps, ownTaken_keeps]

/-- An own EXPEL in ACTIVE, with its target taken out unless it was absent. -/
theorem ownExpel_of_active {m : Station} (hm : s.xi.number = some m) (hs : a.frame.sender = m) (hx : x ≠ m)
    (hst : s.sc.state = .active) (hv : s.re.valid = true) (hact : s.re.members[m] = .active) :
    ∃ t, exec (.ownWindowClose false) s = .next t ∧ OwnTaken s t ∧
      (t.mp.notices.getLast? = some (.expelSent x why) ∨ 32 ≤ t.mp.notices.length) ∧
      (s.re.members[x] ≠ .absent →
        (∀ r : Resource, t.re.records[r] = s.re.records[r].takeOut x) ∧
          t.re.members = s.re.members.set x .absent ∧ t.re.count = s.re.count + 1 ∧
          t.sc.silence[x] = { watched := false, count := 0 }) ∧
      (s.re.members[x] = .absent → t.re = { s.re with count := s.re.count + 1 }) ∧
      (QueueLawful s → a.discarded = false → a.sent = .entry (.expel x why) → t.tq.holdsExpel x = false) ∧
      t.sc.state = .active := by
  obtain ⟨u, hu⟩ : ∃ u, u = ownTaken a s := ⟨_, rfl⟩
  have hure : u.re = s.re := by simp [hu]
  have hume : u.me = m := by rw [hu, ownTaken_me, me_of_number hm]
  have hbatch : batchOf u.me true a.frame u.re (effectsOf u.re a.frame) =
      batchOf u.me false a.frame u.re (effectsOf u.re a.frame) :=
    batchOf_own (by rw [ownEntry, hb]) fun r => by rw [ownClaimOn, hb]; rfl
  obtain ⟨heq, hnone, ha⟩ := ownApplied_of_others (s := u) (hure ▸ hv) (hume ▸ expel_ofOthers hb hx u.re) hbatch
  obtain ⟨v, hvdef⟩ : ∃ v, v = applyFrame true a.frame u := ⟨_, rfl⟩
  rw [← hvdef] at ha heq
  have hstv : v.sc.state = .active := by simp [ha.state, hu, hst]
  have hexec := exec_ownWindowClose_of_accepted h
  rw [← hu, ← hvdef, expelAccepted_of_state hb (by simp [hstv])] at hexec
  obtain ⟨hown, -⟩ := ownFrames_of_lasting (postNotice_lasting (.expelSent x why) (presenceMarked v))
  have hre : (ownEnded (postNotice (.expelSent x why) (presenceMarked v))).re =
      (effectsOf s.re a.frame).replica.advance := by
    rw [← hure, ← ha.re]
    simp
  refine ⟨_, hexec, ownTaken_of_ended (hown.trans ?_) ?_ ?_, ?_, fun hn => ?_, fun hn => ?_, fun hq hd hsent => ?_, ?_⟩
  · simpa [hu] using ha.counted
  · simpa [hu] using ha.board
  · simpa [OutsideKept, hu] using ha.outside
  · simp only [ownEnded_keeps, postNotice_mp]
    exact getLast?_post _ _
  · obtain ⟨hcount, -, -⟩ := effectsOf_keeps s.re a.frame
    have he := expel_takesOut hb (hs ▸ hact) hn
    rw [hre]
    refine ⟨he.records, he.members, congrArg (· + 1) hcount, ?_⟩
    simp only [ownEnded_keeps, postNotice_keeps, presenceMarked_sc, heq, reported, hure, he.member]
    exact memberReport_silence x (st := .absent) nofun _
  · rw [hre, effectsOf_eq_none (.inl ⟨x, why, hb, .inr hn⟩)]
    rfl
  · obtain ⟨_, _, hatt, _⟩ := h
    rw [holdsExpel_of_items x (ownEnded_items _)]
    simp only [postNotice_keeps, presenceMarked_keeps, heq]
    refine reported_holdsExpel x ?_ _
    rw [applied_holdsExpel x hnone, hu, ownTaken_tq a s hd]
    exact accepted_expel_holdsExpel hq hatt hd hsent
  · simp [presenceMarked_sc, hstv]

end

end Sys2Proof.Machine
end

section
/-! PROOF. The own synced PRESENCE in CONFIRMING (O31, third part): the silence expulsions that stand due, and the claims
taken up after them (R81, R150, R169). -/

namespace Sys2Proof.Machine

open Sys2Proof.Safety

/-! ### The claims taken up (R81) -/

theorem entryFor_append_of_ne {q : TransmitQueue} {r : Resource} (h : q.entryFor r = none) {i : Item}
    (hi : i.resource? ≠ some r) : (q.append i).entryFor r = none := by
  have hf : q.entries.find? (Entry.isFor r) = none := h
  simp [TransmitQueue.entryFor, TransmitQueue.append, List.find?_append, hf, Entry.isFor, Entry.fresh, hi]

theorem demand_of_board {b b' : BindingUnit} (h : b.board = b'.board) : b.demand = b'.demand := by
  funext c
  unfold BindingUnit.demand
  rw [funext (request_of_board h)]

/-- One local claim of the take-up. -/
def takeUp (s : State) (c : LocalClaim) : State := if c.state = .none && s.bu.demand c then claimAfresh c s else s

theorem takeUpClaims_eq (s : State) : takeUpClaims s = s.bu.claims.foldl takeUp s := rfl

/-- Local claims in NONE, one for each resource, with no frame in the queue. -/
structure ReadyToClaim (cs : List LocalClaim) (s : State) : Prop where
  keys : (s.tq.entries.map fun e => keyOf e.item).Nodup
  distinct : (cs.map (·.resource)).Nodup
  idle : ∀ c ∈ cs, c.state = .none
  free : ∀ c ∈ cs, s.tq.entryFor c.resource = none
  found : ∀ c ∈ cs, s.bu.claimFor c.resource = some c

/-- Of local claims those with demand have claimed afresh, in their order, and the others are as they were. -/
structure TookUp (cs : List LocalClaim) (s t : State) : Prop where
  items : itemsOf t.tq = itemsOf s.tq ++ (cs.filter s.bu.demand).map claimOf
  keys : (t.tq.entries.map fun e => keyOf e.item).Nodup
  claims : ∀ c ∈ cs, if s.bu.demand c = true then ClaimedAfresh t c else t.bu.claimFor c.resource = some c
  othersFound : ∀ c : LocalClaim, c.resource ∉ cs.map (·.resource) → s.bu.claimFor c.resource = some c →
    t.bu.claimFor c.resource = some c
  othersAfresh : ∀ c : LocalClaim, c.resource ∉ cs.map (·.resource) → ClaimedAfresh s c → ClaimedAfresh t c

theorem claimedAfresh_of_other {s : State} {c d : LocalClaim} (hc : Afresh c s (claimAfresh c s))
    (hne : c.resource ≠ d.resource) (h : ClaimedAfresh s d) : ClaimedAfresh (claimAfresh c s) d := by
  obtain ⟨e, he, hi, hd⟩ := h
  refine ⟨e, ?_, hi, (claimAfresh_claimFor_of_ne s hne).trans hd⟩
  rw [hc.tq]
  exact List.mem_append_left _ he

theorem takeUp_foldl {cs : List LocalClaim} {s : State} (h : ReadyToClaim cs s) : TookUp cs s (cs.foldl takeUp s) := by
  induction cs generalizing s with
  | nil => exact ⟨by simp, h.keys, nofun, fun _ _ hc => hc, fun _ _ hc => hc⟩
  | cons c cs ih =>
    obtain ⟨hkeys, hdist, hidle, hfree, hfound⟩ := h
    obtain ⟨hnot, hdist'⟩ := List.nodup_cons.mp hdist
    have hne {d : LocalClaim} (hd : d ∈ cs) : c.resource ≠ d.resource := fun he =>
      hnot (List.mem_map.mpr ⟨d, hd, he.symm⟩)
    have hcc := hidle c List.mem_cons_self
    rw [List.foldl_cons]
    by_cases hd : s.bu.demand c = true
    · have hup : takeUp s c = claimAfresh c s := by simp [takeUp, hcc, hd]
      have hafresh := claimAfresh_afresh (hfound c List.mem_cons_self) hkeys (hfree c List.mem_cons_self)
      have hdem : (claimAfresh c s).bu.demand = s.bu.demand := demand_of_board (claimAfresh_board s c)
      have hready : ReadyToClaim cs (claimAfresh c s) := by
        refine ⟨hafresh.keys, hdist', fun d hd => hidle d (List.mem_cons_of_mem c hd), fun d hd => ?_, fun d hd => ?_⟩
        · rw [hafresh.tq]
          refine entryFor_append_of_ne (hfree d (List.mem_cons_of_mem c hd)) ?_
          simpa [Item.resource?] using hne hd
        · rw [claimAfresh_claimFor_of_ne s (hne hd)]
          exact hfound d (List.mem_cons_of_mem c hd)
      obtain ⟨hi, hk, hcl, hof, hoa⟩ := ih hready
      rw [hup]
      refine ⟨?_, hk, fun d hm => ?_, fun d hm hs => ?_, fun d hm hs => ?_⟩
      · rw [hi, hafresh.tq, itemsOf_append, hdem, List.filter_cons_of_pos hd]
        simp
      · rcases List.mem_cons.mp hm with rfl | hm
        · rw [if_pos hd]
          exact hoa d hnot hafresh.claim
        · exact hdem ▸ hcl d hm
      · rw [List.map_cons, List.mem_cons, not_or] at hm
        exact hof d hm.2 ((claimAfresh_claimFor_of_ne s (Ne.symm hm.1)).trans hs)
      · rw [List.map_cons, List.mem_cons, not_or] at hm
        exact hoa d hm.2 (claimedAfresh_of_other hafresh (Ne.symm hm.1) hs)
    · have hup : takeUp s c = s := by simp [takeUp, hd]
      have hready : ReadyToClaim cs s := ⟨hkeys, hdist', fun d hd => hidle d (List.mem_cons_of_mem c hd),
        fun d hd => hfree d (List.mem_cons_of_mem c hd), fun d hd => hfound d (List.mem_cons_of_mem c hd)⟩
      obtain ⟨hi, hk, hcl, hof, hoa⟩ := ih hready
      rw [hup]
      refine ⟨?_, hk, fun d hm => ?_, fun d hm hs => ?_, fun d hm hs => ?_⟩
      · rw [hi, List.filter_cons_of_neg hd]
      · rcases List.mem_cons.mp hm with rfl | hm
        · rw [if_neg hd]
          exact hof d hnot (hfound d List.mem_cons_self)
        · exact hcl d hm
      · rw [List.map_cons, List.mem_cons, not_or] at hm
        exact hof d hm.2 hs
      · rw [List.map_cons, List.mem_cons, not_or] at hm
        exact hoa d hm.2 hs

/-! ### The silence expulsions asked for (R91, R169) -/

/-- EXPELs for targets not yet in the queue have been appended and counted. -/
structure ExpelsAsked (ts : List Station) (s t : State) : Prop where
  items : itemsOf t.tq = itemsOf s.tq ++ ts.map (Item.expel · .silent)
  keys : (s.tq.entries.map fun e => keyOf e.item).Nodup → (t.tq.entries.map fun e => keyOf e.item).Nodup
  free : ∀ r, s.tq.entryFor r = none → t.tq.entryFor r = none
  notices : t.mp.notices = s.mp.notices
  counters : t.mp.counters = { s.mp.counters with expelsQueued := bump^[ts.length] s.mp.counters.expelsQueued }

theorem askExpel_of_held {x : Station} {s : State} (h : s.tq.holdsExpel x = true) (why : ExpelReason) :
    askExpel x why s = s := by
  rw [askExpel, if_pos h]

theorem askExpel_of_not_held {x : Station} {s : State} (h : s.tq.holdsExpel x = false) (why : ExpelReason) :
    askExpel x why s = countUp .expelsQueued (s.withTq (s.tq.append (.expel x why))) := by
  rw [askExpel, if_neg (by simp [h])]

theorem keyOf_eq_expel {i : Item} {x : Station} : keyOf i = .expel x ↔ i.target? = some x := by
  cases i <;> simp [keyOf, Item.target?]

theorem expelsAsked_one {x : Station} {s : State} (h : s.tq.holdsExpel x = false) :
    ExpelsAsked [x] s (askExpel x .silent s) := by
  rw [askExpel_of_not_held h]
  refine ⟨?_, fun hk => append_keys_of_free hk fun f hf hkey => ?_, fun r hr => ?_, rfl, rfl⟩
  · exact itemsOf_append s.tq _
  · have : f.item.target? = some x := keyOf_eq_expel.mp hkey
    exact List.any_eq_false.mp h f hf (by simp [Entry.expels, this])
  · exact entryFor_append_of_ne hr (by simp [Item.resource?])

theorem ExpelsAsked.trans {ts us : List Station} {s t u : State} (h : ExpelsAsked ts s t) (k : ExpelsAsked us t u) :
    ExpelsAsked (ts ++ us) s u where
  items := by rw [k.items, h.items]; simp
  keys hs := k.keys (h.keys hs)
  free r hr := k.free r (h.free r hr)
  notices := k.notices.trans h.notices
  counters := by
    rw [k.counters, h.counters, List.length_append, Nat.add_comm, Function.iterate_add_apply]

theorem askSilentExpels_asked {ts : List Station} (hn : ts.Nodup) (s : State) :
    ExpelsAsked (ts.filter fun x => !s.tq.holdsExpel x) s (askSilentExpels ts s) := by
  induction ts generalizing s with
  | nil => exact ⟨by simp [askSilentExpels], id, fun _ h => h, rfl, rfl⟩
  | cons x ts ih =>
    obtain ⟨hx, hn'⟩ := List.nodup_cons.mp hn
    have hstep : askSilentExpels (x :: ts) s = askSilentExpels ts (askExpel x .silent s) := rfl
    rw [hstep]
    cases hh : s.tq.holdsExpel x with
    | true =>
      rw [askExpel_of_held hh, List.filter_cons_of_neg (by simp [hh])]
      exact ih hn' s
    | false =>
      have hone := expelsAsked_one hh
      have hrest := ih hn' (askExpel x .silent s)
      have hsame : (ts.filter fun y => !(askExpel x .silent s).tq.holdsExpel y) = ts.filter fun y => !s.tq.holdsExpel y := by
        refine List.filter_congr fun y hy => ?_
        have hxy : x ≠ y := fun he => hx (he ▸ hy)
        have hq : (askExpel x .silent s).tq = s.tq.append (.expel x .silent) := by rw [askExpel_of_not_held hh]; rfl
        rw [hq, append_holdsExpel]
        simp [Item.target?, hxy]
      rw [hsame] at hrest
      rw [List.filter_cons_of_pos (by simp [hh])]
      exact hone.trans hrest

end Sys2Proof.Machine
end

section
/-! PROOF. The own synced PRESENCE accepted in CONFIRMING, and with it the whole of O31. -/

namespace Sys2Proof.Machine

open Sys2Proof.Safety

/-! ### The effects of the own PRESENCE (R37) -/

/-- The replica with this station promoted. -/
def promoted (m : Station) (e : ReplicaEngine) : ReplicaEngine :=
  { e with members := e.members.set m .active, count := e.count + 1 }

/-- The state in which CONFIRMED is reported. -/
def confirmReady (m : Station) (s : State) : State := countUp .framesApplied (s.withRe (promoted m s.re))

/-- A JOINING station is not the reference (R11). -/
theorem not_reference_of_joining {e : ReplicaEngine} {m : Station} (hj : e.members[m] = .joining) :
    e.reference ≠ some m := fun hr => by
  obtain ⟨_, hact, _⟩ := (reference_iff e m).mp hr
  exact absurd (hj.symm.trans hact) (by decide)

section
variable {s : State} {f : Frame} {m : Station} {d : Half} (hm : s.me = m) (hs : f.sender = m)
  (hb : f.body = .presence true d) (hj : s.re.members[m] = .joining)
include hm hs hb hj

theorem ownPresence_effects : effectsOf s.re f =
    { Effects.none (s.re.setMember m .active) with member := some (m, .active) } := by
  subst hs
  simp only [effectsOf, hb, presenceEffects]
  rw [if_pos (by simpa using hj)]

theorem ownPresence_batch : batchOf s.me true f s.re (effectsOf s.re f) = [] := by
  rw [batchOf_own (by rw [ownEntry, hb]) fun r => by rw [ownClaimOn, hb]; rfl]
  refine batchOf_of_records ?_ ?_ ?_ <;> rw [ownPresence_effects hm hs hb hj] <;> rfl

/-- The own PRESENCE in CONFIRMING promotes this station, which is then told so. -/
theorem applyFrame_ownPresence (hv : s.re.valid = true) :
    applyFrame true f s = confirmedReport (confirmReady m s) := by
  have happlied : applied true f s = confirmReady m s := by
    rw [applied_eq, ownPresence_batch hm hs hb hj, counted, ownPresence_effects hm hs hb hj]
    have hjoin : f.isJoin = false := by simp [Frame.isJoin, hb]
    have hwas : (s.re.reference == some s.me) = false := by
      simpa [hm] using not_reference_of_joining hj
    unfold referenceDerived
    rw [hjoin, hwas]
    rfl
  rw [applyFrame_own hv, happlied, ownPresence_effects hm hs hb hj]
  subst hm
  simp [membershipReports, Effects.none, hj]

end

/-! ### The queue that the own PRESENCE leaves (R92, R93) -/

theorem beside_entryFor_of_none {q : TransmitQueue} {r : Resource} (h : q.entryFor r = none) :
    q.beside.entryFor r = none :=
  List.find?_eq_none.mpr fun f hf => List.find?_eq_none.mp h f (List.mem_filter.mp hf).1

section
variable {s : State} {a : Attempt} (hq : QueueLawful s) (ha : s.xi.attempt = some a) (hd : a.discarded = false)
  (hs : a.sent = .entry .presence)
include hq ha hd hs

theorem accepted_presence : s.tq.accepted a.sent = s.tq.beside := by
  obtain ⟨e, he, hi, hx⟩ := inFlight_entry hq ha hd hs
  obtain ⟨_, hkeys, _, _, hone, _⟩ := hq
  have hnone : s.tq.beside.entries.filter (Entry.untaken .presence) = [] := List.filter_eq_nil_iff.mpr fun f hf hu => by
    have hne := beside_keyOf_ne hkeys he hi hf
    rw [hx] at hne
    obtain ⟨i, _, _⟩ := f
    cases i <;> simp_all [Entry.untaken, Item.cls, keyOf]
  have hsame : removeFirst (Entry.untaken .presence) s.tq.beside.entries = s.tq.beside.entries := by
    rw [removeFirst_of_one (by simp [hnone])]
    exact List.filter_eq_self.mpr fun f hf => by simpa using List.filter_eq_nil_iff.mp hnone f hf
  rw [hs, accepted_of_lawful hone, hsame]

/-- The EXPELs of the queue are beside the PRESENCE in flight. -/
theorem beside_holdsExpel (x : Station) : s.tq.beside.holdsExpel x = s.tq.holdsExpel x := by
  obtain ⟨e, he, hi, hx⟩ := inFlight_entry hq ha hd hs
  obtain ⟨_, hkeys, _, _, hone, hatt⟩ := hq
  rw [Bool.eq_iff_iff]
  simp only [TransmitQueue.holdsExpel, List.any_eq_true]
  refine ⟨fun ⟨f, hf, hfx⟩ => ⟨f, (List.mem_filter.mp hf).1, hfx⟩, fun ⟨f, hf, hfx⟩ => ⟨f, ?_, hfx⟩⟩
  refine List.mem_filter.mpr ⟨hf, ?_⟩
  by_contra hfl
  have hmem : Sent.entry f.item ∈ inFlight s.tq :=
    List.mem_append_left _ (List.mem_map.mpr ⟨f, List.mem_filter.mpr ⟨hf, by simpa using hfl⟩, rfl⟩)
  rw [hatt a ha hd, hs] at hmem
  have hpres : f.item = .presence := Sent.entry.inj (List.mem_singleton.mp hmem)
  simp [Entry.expels, hpres, Item.target?] at hfx

end

/-! ### The entry to ACTIVE (R150) -/

theorem confirmedReport_of_confirming {s : State} (h : s.sc.state = .confirming) :
    confirmedReport s =
      takeUpClaims (askSilentExpels s.silentStations (enterState .active .confirmed s)) := by
  unfold confirmedReport
  rw [h]

theorem atLimit_of_params {s : State} {p : StationParams} (h : s.sc.params = some p) (r : Silence) :
    r.atLimit s.limit = (r.watched && r.count == p.limit) := by
  rw [State.limit, h]
  rfl

theorem allStations_nodup : allStations.Nodup := List.nodup_finRange 16

/-- The stations whose EXPEL the entry to ACTIVE asks for (R169). -/
def silenceDue (s : State) (p : StationParams) : List Station :=
  allStations.filter fun x => s.sc.silence[x].watched && s.sc.silence[x].count == p.limit && !s.tq.holdsExpel x

theorem silenceDue_eq {s : State} {p : StationParams} (h : s.sc.params = some p) {q : TransmitQueue}
    (hq : ∀ x, q.holdsExpel x = s.tq.holdsExpel x) :
    (s.silentStations.filter fun x => !q.holdsExpel x) = silenceDue s p := by
  rw [State.silentStations, List.filter_filter, silenceDue]
  refine List.filter_congr fun x _ => ?_
  rw [atLimit_of_params h, hq, Bool.and_comm]

/-- What the CONFIRMED report leaves at a station whose claims are all in NONE with no frame in the queue. -/
structure Confirmed (s t : State) : Prop where
  sc : t.sc = s.sc.change .active
  re : t.re = s.re.discardLoad
  items : itemsOf t.tq = itemsOf s.tq ++ (s.silentStations.filter fun x => !s.tq.holdsExpel x).map (Item.expel · .silent) ++
    (s.bu.claims.filter s.bu.demand).map claimOf
  keys : (t.tq.entries.map fun e => keyOf e.item).Nodup
  claims : ∀ c ∈ s.bu.claims, if s.bu.demand c = true then ClaimedAfresh t c else t.bu.claimFor c.resource = some c
  notices : t.mp.notices = (s.mp.post (.stateChanged .active .confirmed)).notices
  ownFrames : t.mp.counters.ownFramesApplied = s.mp.counters.ownFramesApplied
  frames : t.mp.counters.framesApplied = s.mp.counters.framesApplied
  expels : t.mp.counters.expelsQueued =
    bump^[(s.silentStations.filter fun x => !s.tq.holdsExpel x).length] s.mp.counters.expelsQueued
  board : t.bu.board = s.bu.board
  outside : OutsideKept s t

theorem claimFor_of_mem {b : BindingUnit} (h : (b.claims.map (·.resource)).Nodup) {c : LocalClaim} (hc : c ∈ b.claims) :
    b.claimFor c.resource = some c := by
  obtain ⟨d, hd⟩ : ∃ d, b.claimFor c.resource = some d :=
    Option.isSome_iff_exists.mp (List.find?_isSome.mpr ⟨c, hc, by simp⟩)
  rw [hd, List.inj_on_of_nodup_map h (claimFor_mem hd) hc (claimFor_resource hd)]

theorem confirmedReport_confirmed {s : State} (hst : s.sc.state = .confirming)
    (hk : (s.tq.entries.map fun e => keyOf e.item).Nodup) (hr : (s.bu.claims.map (·.resource)).Nodup)
    (hc : ∀ c ∈ s.bu.claims, c.state = .none ∧ s.tq.entryFor c.resource = none) :
    Confirmed s (confirmedReport s) := by
  obtain ⟨v, hv⟩ : ∃ v, v = enterState .active .confirmed s := ⟨_, rfl⟩
  have hvtq : v.tq = s.tq := by simp [hv, StationState.queueEmptied]
  have hvbu : v.bu = s.bu := by simp [hv]
  have hask := askSilentExpels_asked (allStations_nodup.filter fun x => s.sc.silence[x].atLimit s.limit) v
  obtain ⟨w, hw⟩ : ∃ w, w = askSilentExpels s.silentStations v := ⟨_, rfl⟩
  change ExpelsAsked (s.silentStations.filter _) v (askSilentExpels s.silentStations v) at hask
  rw [← hw, hvtq] at hask
  have hwbu : w.bu = s.bu := by simp [hw, hvbu]
  have hready : ReadyToClaim s.bu.claims w :=
    ⟨hask.keys (hvtq ▸ hk), hr, fun c hm => (hc c hm).1, fun c hm => hask.free _ (hvtq ▸ (hc c hm).2),
      fun c hm => hwbu ▸ claimFor_of_mem hr hm⟩
  have htook := takeUp_foldl hready
  have heq : confirmedReport s = takeUpClaims w := by rw [confirmedReport_of_confirming hst, ← hv, ← hw]
  rw [← hwbu] at htook
  rw [← takeUpClaims_eq, ← heq, hwbu] at htook
  have hdem : w.bu.demand = s.bu.demand := by rw [hwbu]
  obtain ⟨hitems, hkeys, hclaims, _⟩ := htook
  rw [hdem] at hitems hclaims
  obtain ⟨hown, hframes, hexpels⟩ := ownFrames_of_lasting (enterState_lasting .active .confirmed s)
  have hmp : (confirmedReport s).mp = w.mp := by simp [heq]
  rw [← hv] at hown hframes hexpels
  refine ⟨?_, ?_, ?_, hkeys, hclaims, ?_, ?_, ?_, ?_, ?_, ?_⟩
  · simp [heq, hw, hv]
  · simp [heq, hw, hv]
  · rw [hitems, hask.items, hvtq]
  · simp only [heq, takeUpClaims_keeps, hask.notices, hv, enterState_mp]
  · rw [hmp, hask.counters, ← hown]
  · rw [hmp, hask.counters, ← hframes]
  · rw [hmp, hask.counters, ← hexpels]
  · simp [heq, hwbu]
  · simp [OutsideKept, heq, hw, hv]

/-! ### The end of the event -/

theorem ownEnded_claim {s : State} {r : Resource} {l : LocalClaim} (hl : l.state ≠ .queued)
    (h : s.bu.claimFor r = some l) : (ownEnded s).bu.claimFor r = some l :=
  (askStable_claimFor r hl).outcome (s := countUp .ownFramesApplied (s.withXi { s.xi with dropStreak := 0 })) h false

theorem ownEnded_afresh {s : State} {c : LocalClaim} (hk : (s.tq.entries.map fun e => keyOf e.item).Nodup)
    (h : ClaimedAfresh s c) : ClaimedAfresh (ownEnded s) c := by
  have hs : ClaimedAfresh (countUp .ownFramesApplied (s.withXi { s.xi with dropStreak := 0 })) c := by
    unfold ClaimedAfresh
    simp only [countUp_keeps, State.withXi_tq, State.withXi_bu]
    exact h
  exact ((askStable_claimedAfresh c).outcome
    (s := countUp .ownFramesApplied (s.withXi { s.xi with dropStreak := 0 })) ⟨hk, hs⟩ false).2

/-- The own synced PRESENCE in CONFIRMING. -/
theorem ownPresence_confirms {s : State} {a : Attempt} {m : Station} {p : StationParams} {d : Half}
    (h : AwaitsOwnWindow s a) (hq : QueueLawful s) (hd : a.discarded = false) (hs : a.sent = .entry .presence)
    (hst : s.sc.state = .confirming) (hv : s.re.valid = true) (hm : s.xi.number = some m) (hf : a.frame.sender = m)
    (hb : a.frame.body = .presence true d) (hj : s.re.members[m] = .joining) (hp : s.sc.params = some p)
    (hc : ∀ c ∈ s.bu.claims, c.state = .none ∧ s.tq.entryFor c.resource = none) :
    ∃ t, exec (.ownWindowClose false) s = .next t ∧ OwnTaken s t ∧
      t.sc.state = .active ∧
      t.re = { s.re with members := s.re.members.set m .active, count := s.re.count + 1, load := none } ∧
      itemsOf t.tq = itemsBeside s.tq ++ (silenceDue s p).map (Item.expel · .silent) ++
        (s.bu.claims.filter s.bu.demand).map claimOf ∧
      (∀ c ∈ s.bu.claims,
        if s.bu.demand c = true then ClaimedAfresh t c else t.bu.claimFor c.resource = some c) ∧
      t.sc.silence = s.sc.silence ∧ t.sc.satisfied = true ∧
      t.mp.notices = (s.mp.post (.stateChanged .active .confirmed)).notices ∧
      t.mp.counters.expelsQueued = bump^[(silenceDue s p).length] s.mp.counters.expelsQueued ∧
      t.mp.counters.framesApplied = bump s.mp.counters.framesApplied := by
  obtain ⟨_, _, hatt, _⟩ := id h
  obtain ⟨⟨hres, _⟩, hkeys, _⟩ := id hq
  obtain ⟨w, hw⟩ : ∃ w, w = confirmReady m (ownTaken a s) := ⟨_, rfl⟩
  have hwtq : w.tq = s.tq.beside := by
    rw [← accepted_presence hq hatt hd hs, ← ownTaken_tq a s hd, hw]
    rfl
  have hwbu : w.bu = s.bu := by simp [hw, confirmReady]
  have hwsc : w.sc = s.sc := by simp [hw, confirmReady]
  have hwmp : w.mp = { s.mp with counters := s.mp.counters.increment .framesApplied } := by
    simp [hw, confirmReady, countUp]
  have hdue : (w.silentStations.filter fun x => !w.tq.holdsExpel x) = silenceDue s p := by
    have : w.silentStations = s.silentStations := by simp only [State.silentStations, State.limit, hwsc]
    rw [this]
    exact silenceDue_eq hp fun x => by rw [hwtq]; exact beside_holdsExpel hq hatt hd hs x
  have hready := confirmedReport_confirmed (s := w) (by simp [hwsc, hst]) (by rw [hwtq]; exact beside_keys hkeys)
    (by rw [hwbu]; exact hres)
    (fun c hcm => by
      rw [hwbu] at hcm
      exact ⟨(hc c hcm).1, by rw [hwtq]; exact beside_entryFor_of_none (hc c hcm).2⟩)
  have happly : applyFrame true a.frame (ownTaken a s) = confirmedReport w := by
    rw [hw]
    exact applyFrame_ownPresence (by rw [ownTaken_me, me_of_number hm]) hf hb (by simpa using hj) (by simpa using hv)
  obtain ⟨v, hvdef⟩ : ∃ v, v = confirmedReport w := ⟨_, rfl⟩
  rw [← hvdef] at hready
  have hvst : v.sc.state = .active := by rw [hready.sc]; rfl
  have hexec := exec_ownWindowClose_of_accepted h
  rw [happly, ← hvdef, ownFrameAccepted_of_not_awaiting (by simp [hvst]), hb] at hexec
  dsimp only at hexec
  refine ⟨_, hexec, ownTaken_of_ended ?_ ?_ ?_, ?_, ?_, ?_, fun c hcm => ?_, ?_, ?_, ?_, ?_, ?_⟩
  · simp [hready.ownFrames, hwmp, Counters.increment]
  · simpa [hwbu] using hready.board
  · simpa [OutsideKept, hw, confirmReady] using hready.outside
  · simp [presenceMarked_sc, hvst]
  · simp only [ownEnded_keeps, presenceMarked_keeps, hready.re, hw, confirmReady, countUp_keeps, State.withRe_re,
      ownTaken_keeps]
    rfl
  · rw [ownEnded_items]
    simp only [presenceMarked_keeps]
    rw [hready.items, hdue, hwtq, hwbu]
    rfl
  · have := hready.claims c (hwbu ▸ hcm)
    rw [hwbu] at this
    split at this
    next hdem =>
      rw [if_pos hdem]
      exact ownEnded_afresh hready.keys this
    next hdem =>
      rw [if_neg hdem]
      exact ownEnded_claim (by simp [(hc c hcm).1]) this
  · simp [presenceMarked_sc, hready.sc, hwsc, StationController.change]
  · simp [presenceMarked_sc, hready.sc, StationController.change, StationState.duty]
  · simp only [ownEnded_keeps, presenceMarked_keeps, hready.notices]
    exact post_notices_congr (by rw [hwmp]) _
  · simp [Counters.increment, hready.expels, hdue, hwmp]
  · simp [Counters.increment, hready.frames, hwmp]

end Sys2Proof.Machine
end

section
/-! PROOF. The own JOIN, LEAVE, PRESENCE and EXPEL, and the frames heard without a valid replica (O31). -/

namespace Sys2Proof.Machine

open Sys2Proof.Safety

/-- Settles O31, from the lemma of each frame in each state. -/
theorem ownJoinAndLeaveAccepted : Obligations.OwnJoinAndLeaveAccepted := by
  refine ⟨fun s a m h hv hm => ⟨fun hb hst hf => ?_, fun hb hst hf => ?_, fun hb hst => ?_⟩, fun s f m h => ?_,
    fun s a m p d h hq hd hs hst hv hm hf hb hj hp hc => ?_,
    fun s a m x why h hm hs hb hx => ⟨fun hst hv hact => ?_, fun hv hl => ?_⟩⟩
  · obtain ⟨t, ht, ho, hs, hre, hsil, hframes⟩ := ownJoin_founds h hv hm hb hst hf
    exact ⟨t, ht, hs, hre, hsil, ho.counted, hframes, ho.dropStreak, ho.board, ho.outside⟩
  · obtain ⟨t, ht, ho, hs, hdl, hheard, hseen, hre⟩ := ownJoin_awaits h hv hb hst hf
    exact ⟨t, ht, hs, hdl, hheard, hseen, hre, ho.counted, ho.dropStreak, ho.board, ho.outside⟩
  · obtain ⟨t, ht, ho, hs, hoff, hempty⟩ := ownLeave_detaches h hv hb hst
    exact ⟨t, ht, hs, hoff, hempty, ho.counted, ho.dropStreak, ho.board, ho.outside⟩
  · refine ⟨windowClose_founded_seen h, fun hst => ⟨fun ms hb => ?_, fun k recs i hf hb hl hp hk => ?_,
      fun recs i hf hi hb hl hp => load_completes h hst hf hi hb hl hp, load_ends h hst, fun hb hl => ?_⟩⟩
    · obtain ⟨t, ht, hw⟩ := awaits_of_first_part h hst hb
      exact ⟨t, ht, hw.re, hw.state, hw.deadline, hw.tableHeard, hw.tq, hw.mp, hw.bu, hw.outside⟩
    · obtain ⟨t, ht, hw⟩ := awaits_of_next_part h hst hf hb hl hp hk
      exact ⟨t, ht, hw.re, hw.state, hw.deadline, hw.tableHeard, hw.tq, hw.mp, hw.bu, hw.outside⟩
    · obtain ⟨t, ht, hw⟩ := awaits_of_no_load h hst hb hl
      exact ⟨t, ht, hw.re, hw.state, hw.deadline, hw.tableHeard, hw.tq, hw.mp, hw.bu, hw.outside⟩
  · obtain ⟨t, ht, ho, hact, hre, hitems, hclaims, hsil, hsat, hnotices, hexpels, hframes⟩ :=
      ownPresence_confirms h hq hd hs hst hv hm hf hb hj hp hc
    exact ⟨t, ht, hact, hre, hitems, hclaims, hsil, hsat, hnotices, hexpels, ho.counted, hframes, ho.dropStreak, ho.board,
      ho.outside⟩
  · obtain ⟨t, ht, ho, hnotice, htaken, habsent, hqueue, hs'⟩ := ownExpel_of_active h hb hm hs hx hst hv hact
    exact ⟨t, ht, hnotice, htaken, habsent, hqueue, ho.counted, ho.dropStreak, hs', ho.board, ho.outside⟩
  · obtain ⟨t, ht, ho, hnotice, hre, hs'⟩ := ownExpel_of_invalid h hb hv hl
    exact ⟨t, ht, hnotice, hre, hs', ho.counted, ho.dropStreak, ho.board, ho.outside⟩

end Sys2Proof.Machine
end

section
/-! PROOF. A CLAIM of another station granted at once (O16). -/

namespace Sys2Proof.Machine

open Sys2Proof.Safety

/-! ### A holder added at once (R13, R31) -/

/-- The wait list of a resource whose state is FREE is empty: its head would be compatible (R14). -/
theorem waits_of_free {ms : Vector MemberState 16} {k : Record} (h : RecordLawful ms k) (hf : k.holding = .free) :
    k.waits = [] := by
  obtain ⟨_, _, _, hhead, _⟩ := h
  cases hw : k.waits with
  | nil => rfl
  | cons w ws =>
    have := hhead w (by simp [hw])
    rw [hf, compatible_free] at this
    cases this

/-- A holder added at once leaves the head of the wait list incompatible with the state. -/
theorem head_incompatible_of_added {ms : Vector MemberState 16} {k : Record} (h : RecordLawful ms k) {md : Mode}
    (hc : k.holding.compatible md = true) (x : Holder) :
    ∀ w ∈ (k.withHolder md x).waits.head?, (k.withHolder md x).holding.compatible w.entry.mode = false := by
  intro w hw
  have hnone : k.holding ≠ .free := fun hf => by simp [waits_of_free h hf] at hw
  obtain ⟨_, _, _, hhead, _⟩ := h
  have hbefore : k.holding.compatible w.entry.mode = false := hhead w hw
  cases md with
  | exclusive => exact absurd ((compatible_exclusive_iff _).mp hc) hnone
  | shared =>
    obtain ⟨hs, hk⟩ := ((compatible_shared_iff _).mp hc).resolve_left hnone
    rw [hk] at hbefore
    simp only [hk, Holding.add]
    cases hm : w.entry.mode with
    | exclusive => rfl
    | shared => rw [hm] at hbefore; cases hbefore

/-- No URGENT entry heads a list in which nothing is ahead of a CLAIM. -/
theorem urgentHead_of_noneAhead {c : ClaimClass} {ws : List Wait} (h : NoneAhead c ws) : urgentHead ws = false := by
  cases ws with
  | nil => rfl
  | cons w ws => simp [urgentHead, (h w (by simp)).2]

/-- A holder added at once: the grant pass that follows grants no one, and no yield is asked (R16, R31). -/
theorem grantPass_withHolder {ms : Vector MemberState 16} {k : Record} (h : RecordLawful ms k) {md : Mode}
    {c : ClaimClass} (hc : k.holding.compatible md = true) (hn : NoneAhead c k.waits) (x : Holder) :
    (k.withHolder md x).grantPass = { holding := k.holding.add md x, waits := k.waits, yieldDemand := false } := by
  rw [grantPass_of_head _ (head_incompatible_of_added h hc x), Record.recomputeYield, Record.demandedYield,
    urgentHead_of_noneAhead hn, Bool.and_false]

/-- The CLAIM operation on a record that grants at once: that record alone changes, and no pool entry is freed. -/
theorem claim_of_noneAhead {e : ReplicaEngine} {x : Station} {r : Resource} {md : Mode} {c : ClaimClass} (y : Bool)
    (hl : RecordLawful e.members e.records[r]) (hh : e.records[r].has x = false)
    (hc : e.records[r].holding.compatible md = true) (hn : NoneAhead c e.records[r].waits) :
    e.claim x r md c y =
      ({ e with
          records :=
            e.records.set r
              { holding := e.records[r].holding.add md { station := x, yieldable := y }
                waits := e.records[r].waits, yieldDemand := false } }, .granted) := by
  have hg := grantPass_withHolder hl hc hn { station := x, yieldable := y }
  have hs : slotsLeft (e.records[r].withHolder md { station := x, yieldable := y })
      (e.records[r].withHolder md { station := x, yieldable := y }).grantPass = [] := slotsLeft_of_waits (by rw [hg])
  rw [claim_of_grantsAtOnce e x r md c y hh ((grantsAtOnce_iff _ _ _).mpr ⟨hc, hn⟩), ReplicaEngine.rewrite, hs,
    freeSlots_nil, hg]

theorem claimEffects_of_active {e : ReplicaEngine} {x : Station} (hx : e.members[x] = .active) (r : Resource) (md : Mode)
    (c : ClaimClass) (y : Bool) :
    claimEffects e x r md c y =
      { Effects.none (e.claim x r md c y).1 with outcome := some (e.claim x r md c y).2 } := if_pos hx

/-- Settles O16: the CLAIM's effects are the holder added, and what the close of the window leaves is that of any frame
that concerns no member. -/
theorem claimGrantedAtOnce : Obligations.ClaimGrantedAtOnce := by
  intro s f m r md c y h hb hx hl hh hc hn
  have hcaught : caughtForeign s.re f = false := by simp [caughtForeign, hx]
  obtain ⟨t, ht, _, hf⟩ := frameTaken h hcaught (claim_ofOthers hb m)
  have he := claim_of_noneAhead y hl hh hc hn
  have hre := hf.re
  simp only [effectsOf, hb, claimEffects_of_active hx, he] at hre
  exact ⟨t, ht, hre, hf.counted, hf.state, hf.board, hf.outside⟩

end Sys2Proof.Machine
end

section
/-! PROOF. What a station that leaves its table keeps and loses (R151), with the foreign-table rule (O22), the twin frame (O23)
and the station's own expulsion (O25). -/

namespace Sys2Proof.Machine

open Sys2Proof.Safety

/-! ### Wiring and counters through a teardown -/

/-- The lines and the configured fields of the binding unit. -/
def BindingUnit.wiring (b : BindingUnit) : Vector Bool 12 × Option (Vector BindingConfig 12) := (b.lines, b.bindings)

theorem wiring_of_board {b b' : BindingUnit} (h : b.board = b'.board) : b.wiring = b'.wiring := by
  obtain ⟨hb, hl, _⟩ := board_fields h
  rw [BindingUnit.wiring, BindingUnit.wiring, hb, hl]

@[simp] theorem teardown_wiring (why : LossReason) (s : State) : (teardown why s).bu.wiring = s.bu.wiring := by
  rw [teardown_bu]
  rfl

@[simp] theorem teardown_latches (why : LossReason) (s : State) :
    (teardown why s).bu.latches = Vector.replicate 12 false := by
  rw [teardown_bu]

@[simp] theorem wholesaleLoss_lasting (why : LossReason) (s : State) :
    (wholesaleLoss why s).mp.counters.lasting = s.mp.counters.lasting := by
  unfold wholesaleLoss
  refine (foldl_keeps (·.mp.counters.lasting) _ (fun s n => ?_) _ _).trans ?_ <;> simp

@[simp] theorem teardown_lasting (why : LossReason) (s : State) :
    (teardown why s).mp.counters.lasting = s.mp.counters.lasting := by
  simp [teardown]

/-- A REMOVED entry clears latches alone; no other entry changes the board (R79). -/
theorem takeEntry_wiring (s : State) (e : BatchEntry) : (takeEntry s e).bu.wiring = s.bu.wiring := by
  cases e with
  | removed r =>
    refine onClaim_keeps (·.bu.wiring) r _ (fun c s => ?_) s
    simp only [BindingUnit.wiring, BindingUnit.clearLatches, postHoldLost_keeps, State.withBu_bu, State.withTq_bu]
    rfl
  | _ => exact wiring_of_board (takeEntry_board s nofun)

theorem takeBatch_wiring (es : List BatchEntry) (s : State) : (takeBatch es s).bu.wiring = s.bu.wiring :=
  foldl_keeps (·.bu.wiring) takeEntry takeEntry_wiring es s

@[simp] theorem applied_wiring (own : Bool) (f : Frame) (s : State) : (applied own f s).bu.wiring = s.bu.wiring := by
  unfold applied
  rw [takeBatch_wiring]
  simp

/-! ### GNT and YLD out of ACTIVE -/

theorem gntLevel_of_not_active {st : StationState} (h : st ≠ .active) (b : BindingUnit) (n : BindingNo) :
    gntLevel st b n = false := by
  have : (st == .active) = false := by simpa using h
  unfold gntLevel
  split <;> simp [this]

theorem yldLevel_of_not_active {st : StationState} (h : st ≠ .active) (b : BindingUnit) (n : BindingNo) :
    yldLevel st b n = false := by
  unfold yldLevel
  split <;> simp [gntLevel_of_not_active h]

/-- The end of an event out of ACTIVE drives every grant and every yield low. -/
theorem settle_pins_of_not_active {s : State} (h : s.sc.state ≠ .active) (n : BindingNo) :
    (settle s).pins.gnt[n] = false ∧ (settle s).pins.yld[n] = false := by
  rw [settle_gnt, settle_yld]
  exact ⟨gntLevel_of_not_active h _ n, yldLevel_of_not_active h _ n⟩

/-! ### A table left (R151) -/

/-- A station has left its table: no replica, no claim, no latch, no queued frame and no silence record is left, and the
lines, the bindings and what lies outside the event are as they were. -/
structure LeftTable (s t : State) : Prop where
  re : t.re = ReplicaEngine.empty
  claims : NoClaims t
  latches : ∀ n : BindingNo, t.bu.latches[n] = false
  tq : t.tq = TransmitQueue.empty
  silence : ∀ x : Station, t.sc.silence[x] = { watched := false, count := 0 }
  wiring : t.bu.wiring = s.bu.wiring
  outside : OutsideKept s t

/-- The teardown and the entry to a state in which the queue is emptied. -/
theorem leftTable_of_teardown (why : LossReason) {st : StationState} (hst : st.queueEmptied = true) (c : Cause)
    (s : State) : LeftTable s (enterState st c (teardown why s)) where
  re := by simp [ReplicaEngine.discardLoad, ReplicaEngine.empty]
  claims := by simpa [NoClaims] using teardown_noClaims why s
  latches n := by simp
  tq := by simp [hst]
  silence x := by simp [StationController.change, noSilence, Silence.unwatched]
  wiring := by simp
  outside := by simp [OutsideKept]

section
variable {s t : State} (h : LeftTable s t)
include h

/-- The end of the event leaves it so: the queue is empty, so that no frame is taken. -/
theorem LeftTable.settle : LeftTable s (settle t) where
  re := by simpa using h.re
  claims := askStable_noClaims.settle h.claims
  latches n := by
    rw [(board_fields (settle_board t)).2.2]
    exact h.latches n
  tq := (settle_steady t).tq h.tq
  silence x := by simpa using h.silence x
  wiring := (wiring_of_board (settle_board t)).trans h.wiring
  outside := by simpa [OutsideKept] using h.outside

/-- No silence record is watched that the frame's sender could reset. -/
theorem LeftTable.silenceHeard (x : Station) : silenceHeard x t = t := by
  have hx : t.sc.silence[x].watched = false := by rw [h.silence x]
  rw [Machine.silenceHeard, hx, if_neg (by decide)]

theorem LeftTable.trans_of_kept {r : State} (hw : s.bu.wiring = r.bu.wiring) (ho : OutsideKept r s) : LeftTable r t where
  re := h.re
  claims := h.claims
  latches := h.latches
  tq := h.tq
  silence := h.silence
  wiring := h.wiring.trans hw
  outside := by
    obtain ⟨h1, h2, h3, h4, h5⟩ := h.outside
    obtain ⟨k1, k2, k3, k4, k5⟩ := ho
    exact ⟨h1.trans k1, h2.trans k2, h3.trans k3, h4.trans k4, h5.trans k5⟩

/-- A change of the station controller's marks alone. -/
theorem LeftTable.withSc {b : StationController} (hb : b.silence = t.sc.silence) : LeftTable s (t.withSc b) where
  re := by simpa using h.re
  claims := h.claims
  latches := h.latches
  tq := by simpa using h.tq
  silence x := by simpa [hb] using h.silence x
  wiring := h.wiring
  outside := by simpa [OutsideKept] using h.outside

end

theorem wiring_fields {b b' : BindingUnit} (h : b.wiring = b'.wiring) : b.lines = b'.lines ∧ b.bindings = b'.bindings :=
  Prod.mk.inj h

/-- A frame heard by a station that has left its table for LISTENING, or for DETACHED. -/
theorem LeftTable.otherFrameAccepted {s t : State} (h : LeftTable s t)
    (hst : t.sc.state = .listening ∨ t.sc.state = .detached) (f : Frame) :
    LeftTable s (otherFrameAccepted f t) ∧ (otherFrameAccepted f t).mp = t.mp ∧
      (otherFrameAccepted f t).sc = { t.sc with foundedSeen := (otherFrameAccepted f t).sc.foundedSeen } := by
  rcases hst with hst | hst
  · have heq : Machine.otherFrameAccepted f t =
        t.withSc { t.sc with foundedSeen := t.sc.foundedSeen || f.body == .join } := by
      simp only [Machine.otherFrameAccepted, h.silenceHeard, hst]
    rw [heq]
    exact ⟨h.withSc rfl, rfl, rfl⟩
  · have heq : Machine.otherFrameAccepted f t = t := by
      simp only [Machine.otherFrameAccepted, h.silenceHeard, hst]
    rw [heq]
    exact ⟨h, rfl, rfl⟩

/-! ### The close of a window in a table (R106) -/

/-- The close of a clean window at a station in its table: the frame is applied, and then heard. -/
theorem exec_windowClose_of_holds {s : State} {f : Frame} {m : Station} (h : HoldsWhole s f m) :
    exec (.windowClose false) s = .next (settle (otherFrameAccepted f (applyFrame false f (received s)))) := by
  obtain ⟨hp, _, hrx, hn, hm, _, hin⟩ := h
  have hw : windowCloses false s = handOver f (received s) := by
    rw [windowCloses, hrx]
    exact congrArg (handOver f) (heardReport_of_inTable (s := received s) hin f)
  have ht : (received s).isTwin f = false := by simpa [State.isTwin, received, hn] using hm
  rw [exec_windowClose hp, hw, handOver, ht, if_neg (by decide)]

/-! ### The foreign-table rule (R48, R49) -/

/-- A frame of a foreign table with a count equal or greater: the replica is abandoned (R48, R153). -/
theorem applyFrame_of_foreign {s : State} {f : Frame} (hv : s.re.valid = true) (hin : s.sc.state.inTable = true)
    (hf : caughtForeign s.re f = true) (hc : s.re.count.toNat ≤ f.count.toNat) :
    applyFrame false f s = enterState .listening .foreign (teardown .foreign s) := by
  rw [applyFrame, if_pos hv, if_pos (by simpa using hf), if_pos hc, foreignReport, if_pos hin]

/-- A frame of a foreign table with a lesser count is a no-op with the count increment (R49). -/
theorem applyFrame_of_lesser {s : State} {f : Frame} (hv : s.re.valid = true) (hf : caughtForeign s.re f = true)
    (hc : f.count.toNat < s.re.count.toNat) :
    applyFrame false f s = countUp .framesApplied (s.withRe s.re.advance) := by
  rw [applyFrame, if_pos hv, if_pos (by simpa using hf), if_neg (by omega)]

/-- Settles O22: at an equal or greater count the teardown and the entry to LISTENING, at a lesser one the count alone. -/
theorem foreignTableRule : Obligations.ForeignTableRule := by
  intro s f m h hf
  have hexec := exec_windowClose_of_holds h
  obtain ⟨_, hsettled, hrx, _, _, hv, hin⟩ := h
  refine ⟨fun hc => ?_, fun hc => ?_⟩
  · rw [applyFrame_of_foreign (s := received s) hv hin hf hc] at hexec
    obtain ⟨u, hu⟩ : ∃ u, u = enterState .listening .foreign (teardown .foreign (received s)) := ⟨_, rfl⟩
    have hleft : LeftTable s u := hu ▸
      (leftTable_of_teardown .foreign rfl .foreign (received s)).trans_of_kept (by simp) (by simp [OutsideKept])
    have hst : u.sc.state = .listening := by simp [hu]
    have hframes : u.mp.counters.framesApplied = s.mp.counters.framesApplied := by
      refine framesApplied_of_lasting ?_
      rw [hu, enterState_lasting, teardown_lasting]
      simp
    obtain ⟨hleft', hmp, hsc⟩ := hleft.otherFrameAccepted (.inl hst) f
    rw [← hu] at hexec
    have hst' : (otherFrameAccepted f u).sc.state = .listening := by rw [hsc]; exact hst
    have hend := hleft'.settle
    obtain ⟨hlines, hbindings⟩ := wiring_fields hend.wiring
    refine ⟨_, hexec, by simpa using hst', ?_, hend.re, hend.claims, hend.latches,
      settle_pins_of_not_active (by simp [hst']), hend.tq, hend.silence, ?_, hlines, hbindings, hend.outside⟩
    · have hlisten : (otherFrameAccepted f u).sc.listenTimer = true := by
        rw [hsc]
        simp [hu, StationController.change]
      simpa using hlisten
    · simpa [hmp] using hframes
  · rw [applyFrame_of_lesser (s := received s) hv hf hc] at hexec
    obtain ⟨u, hu⟩ : ∃ u, u = countUp .framesApplied ((received s).withRe (received s).re.advance) := ⟨_, rfl⟩
    have hheard : otherFrameAccepted f u = silenceHeard f.sender u :=
      otherFrameAccepted_of_inTable (by simpa [hu] using hin) f
    have hst : (silenceHeard f.sender u).sc.state = s.sc.state := by rw [silenceHeard_sc]; simp [hu]
    rw [← hu, hheard, settle_of_unmoved hsettled hst (by simp [hu]) (by simp [hu]) (by simp [hu])
      (by simpa [hu, received] using pairDrive_received hrx) (by simp [hu]) (by simp [hu])] at hexec
    exact ⟨_, hexec, by simp [hu, ReplicaEngine.advance], by simp [hu, countUp, Counters.increment], by simp [hu],
      by simp [hu], by simp [hu], by simp [hu], hst, by simp [OutsideKept, hu]⟩

/-! ### A twin frame (R28, R113, R154) -/

theorem heardReport_state (f : Frame) (s : State) : (heardReport f s).sc.state = s.sc.state := by
  unfold heardReport
  split <;> rfl

/-- The close of the window of a twin frame (R113). -/
theorem exec_windowClose_of_twin {s : State} {f : Frame} (hp : s.powered = true) (hrx : s.xi.rx = .whole f)
    (hn : s.xi.number = some f.sender) (hst : s.sc.state.receiverOn = true) :
    exec (.windowClose false) s =
      .next (settle (enterFault .twin .twin (teardownIfInTable .twin (heardReport f (received s))))) := by
  have ht : (heardReport f (received s)).isTwin f = true := by simpa [State.isTwin, received] using hn
  have hw : windowCloses false s = handOver f (heardReport f (received s)) := by
    rw [windowCloses, hrx]
    rfl
  rw [exec_windowClose hp, hw, handOver, if_pos ht, twinReport, if_pos (by simpa [heardReport_state] using hst)]

@[simp] theorem teardownIfInTable_lasting (why : LossReason) (s : State) :
    (teardownIfInTable why s).mp.counters.lasting = s.mp.counters.lasting := by
  unfold teardownIfInTable
  split <;> simp

@[simp] theorem teardownIfInTable_wiring (why : LossReason) (s : State) :
    (teardownIfInTable why s).bu.wiring = s.bu.wiring := by
  unfold teardownIfInTable
  split <;> simp

theorem teardownIfInTable_re (why : LossReason) (s : State) :
    (teardownIfInTable why s).re.discardLoad = if s.sc.state.inTable then ReplicaEngine.empty else s.re.discardLoad := by
  unfold teardownIfInTable
  split
  · rw [teardown_re]
    rfl
  · rfl

/-- An OFFLINE station drives neither line of the bus, and takes no frame at the end of an event (R115, R133). -/
theorem settle_of_offline {s : State} (h : s.tc.state = .offline) :
    (settle s).tc.state = .offline ∧ (settle s).xi = s.xi ∧ (settle s).tq = s.tq ∧ (settle s).bu = s.bu ∧
      (settle s).pins.xten = .released ∧ (settle s).pins.xwant = false := by
  have hn : (noteWork s).tc.state = .offline := h
  rw [settle_offline s h]
  exact ⟨hn, rfl, rfl, rfl, by simp [State.drivenPins, TenureController.xtenDrive, hn],
    by simp [State.drivenPins, TenureController.xwantDrive, hn]⟩

/-- Settles O23, by the teardown where the station stands in a table and by the entry to FAULT. -/
theorem twinFrameFaults : Obligations.TwinFrameFaults := by
  intro s f hp hrx hn hon
  have hexec := exec_windowClose_of_twin hp hrx hn hon
  obtain ⟨w, hw⟩ : ∃ w, w = teardownIfInTable .twin (heardReport f (received s)) := ⟨_, rfl⟩
  obtain ⟨v, hv⟩ : ∃ v, v = enterState .fault .twin (w.withSc { w.sc with fault := .twin }) := ⟨_, rfl⟩
  have hfault : enterFault .twin .twin w = v := hv.symm
  rw [← hw, hfault] at hexec
  have hst : v.sc.state = .fault := by simp [hv]
  obtain ⟨hoff, hxi, htq, hbu, hxten, hxwant⟩ := settle_of_offline (hv ▸ (enterState_offline _ _ _).mpr rfl)
  have hre : v.re = if s.sc.state.inTable then ReplicaEngine.empty else s.re.discardLoad := by
    have := teardownIfInTable_re .twin (heardReport f (received s))
    rw [← hw, heardReport_state] at this
    simpa [hv] using this
  have hframes : v.mp.counters.framesApplied = s.mp.counters.framesApplied := by
    refine framesApplied_of_lasting ?_
    rw [hv, enterState_lasting, State.withSc_mp, hw, teardownIfInTable_lasting]
    simp
  obtain ⟨hlines, hbindings⟩ := wiring_fields (show v.bu.wiring = s.bu.wiring by simp [hv, hw])
  refine ⟨_, hexec, by simpa using hst, by simp [hv, StationController.change], hoff, ?_, ?_, hxten, hxwant, by simpa using hre,
    fun hin => ?_, settle_pins_of_not_active (by simp [hst]), by simpa using hframes, by rw [hbu, hlines],
    by rw [hbu, hbindings], by simp [OutsideKept, hv, hw]⟩
  · rw [hxi, hv]
    exact enterState_rx _ _ _ rfl
  · rw [htq, hv, enterState_tq]
    rfl
  · rw [hbu]
    have hdown : w = teardown .twin (heardReport f (received s)) := by
      rw [hw, teardownIfInTable, if_pos (by simpa [heardReport_state] using hin)]
    have := teardown_noClaims .twin (heardReport f (received s))
    simpa [hv, hdown] using this

/-! ### The own expulsion (R38, R152) -/

/-- The reports about a station's own expulsion: no MEMBER, and SELF EXPELLED (R51). -/
theorem membershipReports_of_own_expulsion {m : Station} {x : Effects} {why : ExpelReason}
    (hm : x.member = some (m, .absent)) (he : x.expelled = some (m, why)) (before : ReplicaEngine) (s : State) :
    membershipReports m before x s = selfExpelled why s := by
  simp [membershipReports, hm, he]

/-- An EXPEL of this station by an ACTIVE sender: the frame is applied, and the station leaves its table. -/
theorem applyFrame_of_own_expulsion {s : State} {f : Frame} {why : ExpelReason} (hv : s.re.valid = true)
    (hin : s.sc.state.inTable = true) (hb : f.body = .expel s.me why) (hx : s.re.members[f.sender] = .active)
    (hme : s.re.members[s.me] ≠ .absent) :
    applyFrame false f s =
      enterState (if s.autoRejoin then .listening else .detached) (expelledCause why)
        (teardown .expelled (applied false f s)) := by
  have hcaught : caughtForeign s.re f = false := by simp [caughtForeign, hx]
  have he : effectsOf s.re f = { removal s.re s.me .absent with expelled := some (s.me, why) } := by
    simp only [effectsOf, hb, expelEffects]
    exact if_pos ⟨hx, hme⟩
  have hauto : (teardown .expelled (applied false f s)).autoRejoin = s.autoRejoin := by simp [State.autoRejoin]
  rw [applyFrame, if_pos hv, hcaught, if_neg (by decide), applyFully_eq,
    membershipReports_of_own_expulsion (by rw [he]; rfl) (by rw [he]), selfExpelled, if_pos (by simpa using hin)]
  dsimp only
  rw [hauto]

/-- Settles O25: whatever the batch has taken, the teardown after it leaves nothing. -/
theorem ownExpulsionLeavesTheTable : Obligations.OwnExpulsionLeavesTheTable := by
  intro s f m why h hb hx hme
  have hexec := exec_windowClose_of_holds h
  obtain ⟨_, _, _, hn, _, hv, hin⟩ := h
  obtain rfl := me_of_number hn
  rw [applyFrame_of_own_expulsion (s := received s) hv hin hb hx hme] at hexec
  obtain ⟨st, hst⟩ : ∃ st : StationState, st = if (received s).autoRejoin then .listening else .detached := ⟨_, rfl⟩
  have hcases : st = .listening ∨ st = .detached := by rw [hst]; split <;> simp
  obtain ⟨u, hu⟩ : ∃ u, u = enterState st (expelledCause why) (teardown .expelled (applied false f (received s))) :=
    ⟨_, rfl⟩
  rw [← hst, ← hu] at hexec
  have hleft : LeftTable s u := hu ▸
    (leftTable_of_teardown .expelled (by rcases hcases with h | h <;> rw [h] <;> rfl) _ _).trans_of_kept (by simp)
      (by simp [OutsideKept])
  have hust : u.sc.state = st := by simp [hu]
  have hframes : u.mp.counters.framesApplied = bump s.mp.counters.framesApplied := by
    have := framesApplied_of_lasting ((enterState_lasting st (expelledCause why) _).trans
      (teardown_lasting .expelled (applied false f (received s))))
    rw [hu, this, applied_framesApplied]
    simp
  obtain ⟨hleft', hmp, hsc⟩ := hleft.otherFrameAccepted (by rwa [hust]) f
  have hst' : (otherFrameAccepted f u).sc.state = st := by rw [hsc]; exact hust
  have hend_state : (settle (otherFrameAccepted f u)).sc.state = st := by simpa using hst'
  have hend := hleft'.settle
  obtain ⟨hlines, hbindings⟩ := wiring_fields hend.wiring
  have hpins := settle_pins_of_not_active (s := otherFrameAccepted f u)
    (by rw [hst']; rcases hcases with h | h <;> rw [h] <;> decide)
  exact ⟨_, hexec, hend_state.trans hst, hend.re, hend.claims,
    fun n => ⟨hend.latches n, hpins n⟩, hend.tq, hend.silence, by simpa [hmp] using hframes, hlines, hbindings, hend.outside⟩

end Sys2Proof.Machine
end

section
/-! PROOF. The reference check and the count comparison on a PRESENCE (O24). -/

namespace Sys2Proof.Machine

open Sys2Proof.Safety

/-! ### Step 4 of R27 on a frame of another station (R44 to R46) -/

theorem askExpel_mp (x : Station) (why : ExpelReason) (s : State) :
    (askExpel x why s).mp =
      if s.tq.holdsExpel x then s.mp else { s.mp with counters := s.mp.counters.increment .expelsQueued } := by
  unfold askExpel
  split <;> rfl

theorem askExpel_tq (x : Station) (why : ExpelReason) (s : State) :
    (askExpel x why s).tq = if s.tq.holdsExpel x then s.tq else s.tq.append (.expel x why) := by
  unfold askExpel
  split <;> rfl

/-- The port as a mismatch that is counted, or not, leaves it. -/
def mismatchCounted (differs : Bool) (p : ManagementPort) : ManagementPort :=
  if differs then { p with counters := p.counters.increment .countMismatch } else p

/-- Whether the reference finds the count of a frame different (R44). -/
def countDiffers (e : ReplicaEngine) (f : Frame) : Bool := countCompared e f && f.count != e.count

section
variable {s : State} {f : Frame}

theorem referenceCheck_eq :
    referenceCheck f s =
      (let t := if countDiffers s.re f then countUp .countMismatch s else s
      if countDiffers s.re f || digestDiffers s.re f then askExpel f.sender .disagree t else t) := by
  unfold referenceCheck countDiffers
  dsimp only
  congr 2
  split <;> rfl

/-- A frame that agrees at the reference changes nothing. -/
theorem referenceCheck_of_agreement (hc : countDiffers s.re f = false) (hd : digestDiffers s.re f = false) :
    referenceCheck f s = s := by
  simp [referenceCheck_eq, hc, hd]

/-- A frame that disagrees at the reference: the mismatch is counted where it is one of the count, and the EXPEL is asked
for. -/
theorem referenceCheck_of_disagreement (h : countDiffers s.re f = true ∨ digestDiffers s.re f = true) :
    (referenceCheck f s).tq = (askExpel f.sender .disagree s).tq ∧
      (referenceCheck f s).mp =
        if s.tq.holdsExpel f.sender then mismatchCounted (countDiffers s.re f) s.mp
        else { mismatchCounted (countDiffers s.re f) s.mp with
          counters := (mismatchCounted (countDiffers s.re f) s.mp).counters.increment .expelsQueued } := by
  have hor : (countDiffers s.re f || digestDiffers s.re f) = true := by simpa using h
  rw [referenceCheck_eq]
  dsimp only
  rw [if_pos hor, askExpel_tq, askExpel_tq, askExpel_mp, mismatchCounted]
  cases countDiffers s.re f <;> exact ⟨rfl, rfl⟩

end

/-- Step 4 of R27 looks at the station, the replica and the queue, and not at the receiver. -/
theorem checkFrame_received (f : Frame) (s : State) :
    (checkFrame f (received s)).tq = (checkFrame f s).tq ∧ (checkFrame f (received s)).mp = (checkFrame f s).mp := by
  unfold checkFrame
  simp only [received_keeps, received_me]
  split
  · by_cases hd : countDiffers s.re f = true ∨ digestDiffers s.re f = true
    · obtain ⟨htq, hmp⟩ := referenceCheck_of_disagreement (s := received s) hd
      obtain ⟨htq', hmp'⟩ := referenceCheck_of_disagreement (s := s) hd
      rw [htq, hmp, htq', hmp', askExpel_tq, askExpel_tq]
      exact ⟨rfl, rfl⟩
    · rw [not_or, Bool.not_eq_true, Bool.not_eq_true] at hd
      rw [referenceCheck_of_agreement (s := received s) hd.1 hd.2, referenceCheck_of_agreement hd.1 hd.2]
      exact ⟨rfl, rfl⟩
  · unfold countComparison
    simp only [received_keeps]
    (repeat' split) <;> exact ⟨rfl, rfl⟩

/-! ### A PRESENCE at a station in its table (R37) -/

/-- A PRESENCE of another station has been taken: what step 4 has left of the port and of the frames in the queue stands,
FRAMES APPLIED counts it, and its sender is promoted where it was JOINING and synced. -/
structure PresenceTaken (f : Frame) (s t : State) : Prop where
  mp : t.mp = { (checkFrame f s).mp with counters := (checkFrame f s).mp.counters.increment .framesApplied }
  items : itemsOf t.tq = itemsOf (checkFrame f s).tq
  re : t.re =
    { s.re with
      members :=
        if f.syncedPresence = true ∧ s.re.members[f.sender] = .joining then s.re.members.set f.sender .active
        else s.re.members
      count := s.re.count + 1 }
  tq : (s.re.reference = some s.me → t.re.reference = some s.me) → (checkFrame f s).tq = s.tq → t.tq = s.tq

theorem roleTaken_items (f : Frame) (me : Station) (was : Bool) (e : ReplicaEngine) (q : TransmitQueue) :
    itemsOf (roleTaken f me was e q) = itemsOf q := by
  unfold roleTaken
  (repeat' split) <;> simp [itemsOf, arm_entries, roleLost_entries]

theorem counted_tq (f : Frame) (s : State) :
    (counted false f s).tq =
      roleTaken f s.me (s.re.reference == some s.me) (effectsOf s.re f).replica.advance (checkFrame f s).tq := by
  unfold counted
  rw [referenceDerived_tq]
  simp [State.me, checked]

theorem counted_mp (f : Frame) (s : State) :
    (counted false f s).mp =
      { (checkFrame f s).mp with counters := (checkFrame f s).mp.counters.increment .framesApplied } := by
  simp [counted, countRefusal, countUp, checked]

theorem presenceTaken {s : State} {f : Frame} {m : Station} (h : HoldsWhole s f m) (hc : caughtForeign s.re f = false)
    {synced : Bool} {d : Half} (hb : f.body = .presence synced d) :
    ∃ t, exec (.windowClose false) s = .next t ∧ PresenceTaken f s t := by
  obtain ⟨_, ⟨hwork, _⟩, _, _, hm, _⟩ := id h
  have he := effectsOf_promotes s.re (.inl ⟨synced, d, hb⟩)
  obtain ⟨t, ht, hte, hf⟩ := frameTaken h hc (he.ofOthers hm)
  have hbatch : batchOf s.me false f s.re (effectsOf s.re f) = [] :=
    batchOf_of_records (by rw [he.replica]) he.expelled he.freed
  have hafter : afterFrame f s = silenceHeard f.sender (counted false f (received s)) := by
    have : applied false f (received s) = counted false f (received s) := by
      rw [applied_eq]
      simp [hbatch, takeBatch]
    rw [afterFrame, this, reported_of_promotes he]
  obtain ⟨hctq, hcmp⟩ := checkFrame_received f s
  have htq : (afterFrame f s).tq =
      roleTaken f s.me (s.re.reference == some s.me) t.re (checkFrame f s).tq := by
    rw [hafter, hf.re]
    simp only [silenceHeard_keeps, counted_tq, hctq]
    rfl
  refine ⟨t, ht, ?_, ?_, ?_, fun hrole hkept => ?_⟩
  · simp [hte, hafter, counted_mp, hcmp]
  · rw [hte, settle_items, htq, roleTaken_items]
  · rw [hf.re, he.replica]
    rfl
  · have hjoin : f.isJoin = false := by simp [Frame.isJoin, hb]
    have hsame : (afterFrame f s).tq = s.tq := by
      rw [htq, hkept, roleTaken, if_neg (by simp [hjoin]), if_neg (by simpa using hrole)]
    rw [hte, settle_of_told _ (by rw [hsame, afterFrame_tc, hwork])]
    exact hsame

/-! ### What the reference and another station find (R44 to R46) -/

section
variable {s : State} {f : Frame} {synced : Bool} {d : Half} (hb : f.body = .presence synced d)
include hb

theorem digestDiffers_of_presence (hm : s.re.members[f.sender] ≠ .absent) :
    digestDiffers s.re f = (synced && d != s.re.digest) := by
  have hpresent : (s.re.members[f.sender] != .absent) = true := by simpa using hm
  simp only [digestDiffers, hb, hpresent, Bool.and_true]

/-- The count of a PRESENCE is compared where its sender is ACTIVE and says so, or is JOINING and synced. -/
theorem countDiffers_of_presence
    (hc : (f.active = true ∧ s.re.members[f.sender] = .active) ∨ (synced = true ∧ s.re.members[f.sender] = .joining)) :
    countDiffers s.re f = (f.count != s.re.count) := by
  rcases hc with ⟨ha, hm⟩ | ⟨hs, hm⟩
  · simp [countDiffers, countCompared, ha, hm]
  · simp [countDiffers, countCompared, Frame.syncedPresence, hb, hs, hm]

/-- A PRESENCE that disagrees at the reference. -/
theorem presence_disagrees {m : Station} (h : HoldsWhole s f m) (hc : caughtForeign s.re f = false)
    (hr : s.re.reference = some m) (hcount : countDiffers s.re f = (f.count != s.re.count))
    (hdis : countDiffers s.re f = true ∨ digestDiffers s.re f = true) :
    ∃ t, exec (.windowClose false) s = .next t ∧ PresenceTaken f s t ∧
      itemsOf t.tq = (if s.tq.holdsExpel f.sender then itemsOf s.tq else itemsOf s.tq ++ [.expel f.sender .disagree]) ∧
      t.mp =
        { s.mp with
          counters :=
            { s.mp.counters with
              countMismatch :=
                if f.count = s.re.count then s.mp.counters.countMismatch else bump s.mp.counters.countMismatch
              expelsQueued :=
                if s.tq.holdsExpel f.sender then s.mp.counters.expelsQueued else bump s.mp.counters.expelsQueued
              framesApplied := bump s.mp.counters.framesApplied } } := by
  obtain ⟨_, _, _, hn, _⟩ := id h
  obtain ⟨t, ht, hp⟩ := presenceTaken h hc hb
  have hcheck : checkFrame f s = referenceCheck f s := by rw [checkFrame, me_of_number hn, if_pos hr]
  obtain ⟨htq, hmp⟩ := referenceCheck_of_disagreement hdis
  refine ⟨t, ht, hp, ?_, ?_⟩
  · rw [hp.items, hcheck, htq, askExpel_tq]
    split
    · rfl
    · exact itemsOf_append _ _
  · rw [hp.mp, hcheck, hmp, hcount, mismatchCounted]
    by_cases he : f.count = s.re.count <;> cases s.tq.holdsExpel f.sender <;> simp [he, Counters.increment]

end

theorem mem_of_items {q : TransmitQueue} {i : Item} (h : i ∈ itemsOf q) : ∃ e ∈ q.entries, e.item = i := List.mem_map.mp h

/-- Settles O24, by what step 4 finds: at the reference a disagreement or none, elsewhere the count alone. -/
theorem referenceCheckExpels : Obligations.ReferenceCheckExpels := by
  intro s f m synced d h hb
  obtain ⟨_, _, _, hn, _⟩ := id h
  have hme := me_of_number hn
  have ofActive (ha : s.re.members[f.sender] = .active) : caughtForeign s.re f = false := by simp [caughtForeign, ha]
  have unpromoted {t : State} (ha : s.re.members[f.sender] = .active) (hp : PresenceTaken f s t) :
      t.re = { s.re with count := s.re.count + 1 } := by
    rw [hp.re, if_neg (by simp [ha])]
  have sameRole {t : State} (ha : s.re.members[f.sender] = .active) (hp : PresenceTaken f s t) :
      t.re.reference = s.re.reference := by
    rw [unpromoted ha hp]
    rfl
  have disagrees (ha : s.re.members[f.sender] = .active) (hact : f.active = true) (hr : s.re.reference = some m)
      (hdis : f.count ≠ s.re.count ∨ (synced = true ∧ d ≠ s.re.digest)) :=
    have hcount := countDiffers_of_presence (s := s) hb (.inl ⟨hact, ha⟩)
    presence_disagrees hb h (ofActive ha) hr hcount (by
      rw [hcount, digestDiffers_of_presence hb (by simp [ha])]
      simpa using hdis)
  have queued {t : State} (hheld : s.tq.holdsExpel f.sender = false) (hi : itemsOf t.tq =
      if s.tq.holdsExpel f.sender then itemsOf s.tq else itemsOf s.tq ++ [.expel f.sender .disagree]) :
      ∃ e ∈ t.tq.entries, e.item = .expel f.sender .disagree :=
    mem_of_items (by rw [hi, hheld]; simp)
  refine ⟨fun ha hact hr hheld => ⟨fun hne => ?_, fun heq hs hd => ?_⟩, fun ha hact hr hheld hdis => ?_,
    fun hj hact hs hr hheld hdis => ?_, fun ha hact hr heq hd => ?_, fun ha hact hr hst hne => ?_⟩
  · obtain ⟨t, ht, hp, hi, hmp⟩ := disagrees ha hact hr (.inl hne)
    rw [if_neg hne, hheld] at hmp
    exact ⟨t, ht, queued hheld hi, hmp, unpromoted ha hp⟩
  · obtain ⟨t, ht, hp, hi, hmp⟩ := disagrees ha hact hr (.inr ⟨hs, hd⟩)
    rw [if_pos heq, hheld] at hmp
    exact ⟨t, ht, queued hheld hi, hmp, unpromoted ha hp⟩
  · obtain ⟨t, ht, hp, hi, hmp⟩ := disagrees ha hact hr hdis
    rw [hheld] at hi hmp
    exact ⟨t, ht, hi, hmp⟩
  · have hcount := countDiffers_of_presence (s := s) hb (.inr ⟨hs, hj⟩)
    obtain ⟨t, ht, hp, hi, hmp⟩ := presence_disagrees hb h (by simp [caughtForeign, hact]) hr hcount (by
      rw [hcount, digestDiffers_of_presence hb (by simp [hj]), hs]
      simpa using hdis)
    rw [hheld] at hmp
    refine ⟨t, ht, queued hheld hi, hmp, ?_⟩
    rw [hp.re, if_pos ⟨by simp [Frame.syncedPresence, hb, hs], hj⟩]
  · obtain ⟨t, ht, hp⟩ := presenceTaken h (ofActive ha) hb
    have hcheck : checkFrame f s = s := by
      rw [checkFrame, hme, if_pos hr]
      refine referenceCheck_of_agreement ?_ ?_
      · simp [countDiffers, heq]
      · rw [digestDiffers_of_presence hb (by simp [ha])]
        simpa using hd
    refine ⟨t, ht, hp.tq (fun hw => (sameRole ha hp).trans hw) (by rw [hcheck]), ?_⟩
    rw [hp.mp, hcheck]
    rfl
  · obtain ⟨t, ht, hp⟩ := presenceTaken h (ofActive ha) hb
    have hcheck : checkFrame f s = countUp .countMismatch s := by
      rw [checkFrame, hme, if_neg hr, if_pos hst, countComparison, if_pos (by simp [hact, ha, hne])]
    refine ⟨t, ht, hp.tq (fun hw => (sameRole ha hp).trans hw) (by rw [hcheck]; rfl), ?_⟩
    rw [hp.mp, hcheck]
    rfl

end Sys2Proof.Machine
end

section
/-! PROOF. An own CLAIM or DROP accepted at an ACTIVE station: its batch, and the state in which the binding unit takes
it (R50, R93, R108). -/

namespace Sys2Proof.Machine

open Sys2Proof.Safety

/-! ### The batch of an own frame on one record (R50) -/

/-- A frame that expels none and rewrites one record: its own entry, that record's entry, and FREED. -/
theorem batchOf_of_record {me : Station} {own : Bool} {f : Frame} {before : ReplicaEngine} {x : Effects} {r : Resource}
    (hr : ∀ r' ≠ r, x.replica.records[r'] = before.records[r']) (he : x.expelled = none) :
    batchOf me own f before x =
      (if own then ownEntry me f x else []) ++
        standingEntry me false (ownClaimOn own f r) r before.records[r] x.replica.records[r] ++
        (if x.freed then [.freed] else []) := by
  have hentry (r' : Resource) (h : r' ≠ r) :
      standingEntry me false (ownClaimOn own f r') r' before.records[r'] x.replica.records[r'] = [] := by
    rw [hr r' h]
    exact standingEntry_self _ _ _ _
  have hsingle := flatMap_of_single (List.nodup_finRange 64) (List.mem_finRange r) hentry
  unfold batchOf
  rw [he]
  exact congrArg (_ ++ · ++ _) hsingle

theorem holderOf_of_not_holds {k : Record} {x : Station} (h : k.holds x = false) : k.holderOf x = none := by
  rwa [← holderOf_isSome, Option.isSome_eq_false_iff, Option.isNone_iff_eq_none] at h

/-- A record that does not make this station a holder gives no entry. -/
theorem standingEntry_of_not_holding {me : Station} (byOutcome : Bool) (r : Resource) (before : Record) {after : Record}
    (h : after.holds me = false) : standingEntry me false byOutcome r before after = [] := by
  simp [standingEntry, holderOf_of_not_holds h]

/-- The grant that an own CLAIM's outcome reports gives no entry beside it. -/
theorem standingEntry_byOutcome {me : Station} (r : Resource) {before : Record} (after : Record)
    (h : before.holds me = false) : standingEntry me false true r before after = [] := by
  simp only [standingEntry, Bool.false_eq_true, if_false, h, if_true]
  split <;> rfl

/-! ### The effects of an own CLAIM (R30 to R33) -/

theorem rewrite_records_of_ne (e : ReplicaEngine) {r r' : Resource} (before after : Record) (h : r' ≠ r) :
    (e.rewrite r before after).records[r'] = e.records[r'] := set_getElem_of_ne _ _ h

/-- A CLAIM touches no other record. -/
theorem claim_records_of_ne (e : ReplicaEngine) (x : Station) {r r' : Resource} (md : Mode) (c : ClaimClass) (y : Bool)
    (h : r' ≠ r) : (e.claim x r md c y).1.records[r'] = e.records[r'] := by
  unfold ReplicaEngine.claim
  dsimp only
  split
  · rfl
  · split
    · exact rewrite_records_of_ne e _ _ h
    · split
      · rfl
      · exact rewrite_records_of_ne _ _ _ h

/-- The batch of an own CLAIM is its outcome alone, with the standing that it leaves (R34, R50). -/
theorem batchOf_ownClaim {e : ReplicaEngine} {f : Frame} {m : Station} {r : Resource} {md : Mode} {c : ClaimClass}
    {y : Bool} (hs : f.sender = m) (hb : f.body = .claim r md c y) (hx : e.members[m] = .active) :
    batchOf m true f e (effectsOf e f) =
      [.claimOutcome r (e.claim m r md c y).2 ((e.claim m r md c y).1.records[r].standing m)] := by
  have heff : effectsOf e f = { Effects.none (e.claim m r md c y).1 with outcome := some (e.claim m r md c y).2 } := by
    simp only [effectsOf, hb, hs, claimEffects_of_active hx]
  have hown : ownClaimOn true f r = true := by simp [ownClaimOn, hb]
  have hstand : standingEntry m false true r e.records[r] (e.claim m r md c y).1.records[r] = [] := by
    cases hh : e.records[r].has m with
    | true => rw [claim_of_has e m r md c y hh]; exact standingEntry_self _ _ _ _
    | false => exact standingEntry_byOutcome r _ (Bool.or_eq_false_iff.mp hh).1
  rw [batchOf_of_record (r := r) (fun r' h => by rw [heff]; exact claim_records_of_ne e m md c y h) (by rw [heff]; rfl),
    heff, hown]
  simp only [Effects.none, ownEntry, hb, hstand]
  rfl

/-! ### The effects of an own DROP (R35, R36) -/

theorem drop_records (e : ReplicaEngine) (x : Station) (r : Resource) :
    (e.drop x r).1.records =
      e.records.set r (if e.records[r].has x then e.records[r].takeOut x else e.records[r]) := by
  cases hh : e.records[r].has x with
  | true => rw [drop_of_has hh]; rfl
  | false =>
    rw [drop_of_not_has hh, if_neg (by decide)]
    simp

/-- After its DROP a station does not stand in the record. -/
theorem has_after_drop (e : ReplicaEngine) (x : Station) (r : Resource) : (e.drop x r).1.records[r].has x = false := by
  rw [drop_records, set_getElem_self]
  split
  · exact has_takeOut _ _
  next hh => simpa using hh

theorem drop_records_of_ne (e : ReplicaEngine) (x : Station) {r r' : Resource} (h : r' ≠ r) :
    (e.drop x r).1.records[r'] = e.records[r'] := by
  rw [drop_records, set_getElem_of_ne _ _ h]

theorem byte_lt (r : Resource) : (byte r.val).toNat < 64 := by
  rw [byte_toNat_of_resource]
  exact r.isLt

theorem resource_of_byte (r : Resource) : (⟨(byte r.val).toNat, byte_lt r⟩ : Resource) = r :=
  Fin.ext (byte_toNat_of_resource r)

theorem effectsOf_drop {e : ReplicaEngine} {f : Frame} {m : Station} {r : Resource} (hs : f.sender = m)
    (hb : f.body = .drop (byte r.val)) (hx : e.members[m] = .active) :
    effectsOf e f =
      { Effects.none (e.drop m r).1 with
        finding := some (e.drop m r).2, freed := (e.drop m r).2 != .nothing } := by
  simp only [effectsOf, hb, hs, dropEffects]
  rw [if_pos hx, dif_pos (byte_lt r), resource_of_byte]

/-- The batch of an own DROP: its finding, and FREED where it took the station out (R36, R50). -/
theorem batchOf_ownDrop {e : ReplicaEngine} {f : Frame} {m : Station} {r : Resource} (hs : f.sender = m)
    (hb : f.body = .drop (byte r.val)) (hx : e.members[m] = .active) :
    batchOf m true f e (effectsOf e f) =
      .dropApplied r (e.drop m r).2 :: (if (e.drop m r).2 != .nothing then [.freed] else []) := by
  have heff := effectsOf_drop hs hb hx
  have hnot : (e.drop m r).1.records[r].holds m = false := (Bool.or_eq_false_iff.mp (has_after_drop e m r)).1
  rw [batchOf_of_record (r := r)
    (fun r' h => by rw [heff]; exact drop_records_of_ne e m h) (by rw [heff]; rfl), heff]
  simp only [Effects.none, standingEntry_of_not_holding _ _ _ hnot, ownEntry, hb]
  rw [dif_pos (byte_lt r), resource_of_byte]
  rfl

/-! ### The application of an own CLAIM or DROP (R27, R108) -/

/-- The state in which the batch of an accepted own frame is taken. -/
def ownReady (a : Attempt) (s : State) : State := counted true a.frame (ownTaken a s)

/-- The end of the event after that batch. -/
def ownFinished (u : State) : State := ownEnded (presenceMarked u)

/-- What an accepted own CLAIM or DROP leaves at an ACTIVE station. -/
structure OwnFrameTaken (a : Attempt) (s t : State) : Prop extends OwnTaken s t where
  re : t.re = (effectsOf s.re a.frame).replica.advance
  frames : t.mp.counters.framesApplied = bump s.mp.counters.framesApplied
  state : t.sc.state = .active

theorem ownFrameTaken {s : State} {a : Attempt} {m : Station} {es : List BatchEntry} (h : AwaitsOwnWindow s a)
    (hst : s.sc.state = .active) (hv : s.re.valid = true) (hn : s.xi.number = some m)
    (hb : (∃ r md c y, a.frame.body = .claim r md c y) ∨ ∃ b, a.frame.body = .drop b)
    (hes : batchOf m true a.frame s.re (effectsOf s.re a.frame) = es) (hkept : ∀ e ∈ es, ∀ r, e ≠ .removed r) :
    ∃ t, exec (.ownWindowClose false) s = .next t ∧ t = ownFinished (takeBatch es (ownReady a s)) ∧
      OwnFrameTaken a s t := by
  have hothers : OfOthers (ownTaken a s).me (effectsOf (ownTaken a s).re a.frame) := by
    rcases hb with ⟨r, md, c, y, hb⟩ | ⟨b, hb⟩
    · exact claim_ofOthers hb _
    · exact drop_ofOthers hb _
  have hmember : (effectsOf (ownTaken a s).re a.frame).member = none := by
    rcases hb with ⟨r, md, c, y, hb⟩ | ⟨b, hb⟩
    · simp only [effectsOf, hb, claimEffects]; split <;> rfl
    · simp only [effectsOf, hb, dropEffects]; (repeat' split) <;> rfl
  have happly : applyFrame true a.frame (ownTaken a s) = applied true a.frame (ownTaken a s) := by
    rw [applyFrame_own (by simpa using hv), membershipReports_of_others hothers, reported, hmember]
  obtain ⟨u, hu⟩ : ∃ u, u = applied true a.frame (ownTaken a s) := ⟨_, rfl⟩
  have hbatch : u = takeBatch es (ownReady a s) := by
    rw [hu, applied_eq, ownReady]
    simp only [ownTaken_me, ownTaken_keeps, me_of_number hn, hes]
  have husc : u.sc = s.sc := by simp [hu]
  have haccept : ownFrameAccepted a.frame u = presenceMarked u := by
    rw [ownFrameAccepted_of_not_awaiting (by simp [husc, hst])]
    rcases hb with ⟨r, md, c, y, hb⟩ | ⟨b, hb⟩ <;> rw [hb]
  have hexec := exec_ownWindowClose_of_accepted h
  rw [happly, ← hu, haccept] at hexec
  have hboard : u.bu.board = s.bu.board := by
    rw [hbatch, takeBatch_board _ hkept]
    simp [ownReady]
  refine ⟨_, hexec, by rw [ownFinished, ← hbatch],
    ⟨ownTaken_of_ended ?_ (by simpa using hboard) (by simp [OutsideKept, hu]), ?_, ?_, ?_⟩⟩
  · simp [hu, applied_counters_own]
  · simp [hu]
  · simp [hu, Counters.increment]
  · simp [presenceMarked_sc, husc, hst]

@[simp] theorem ownReady_bu (a : Attempt) (s : State) : (ownReady a s).bu = s.bu := by simp [ownReady]

theorem ownReady_claimFor {a : Attempt} {s : State} {r : Resource} {c : LocalClaim} (h : s.bu.claimFor r = some c) :
    (ownReady a s).bu.claimFor r = some c := by rwa [ownReady_bu]

theorem ownFinished_claim {u : State} {r : Resource} {l : LocalClaim} (hl : l.state ≠ .queued)
    (h : u.bu.claimFor r = some l) : (ownFinished u).bu.claimFor r = some l :=
  ownEnded_claim hl (by simpa using h)

theorem ownFinished_items (u : State) : itemsOf (ownFinished u).tq = itemsOf u.tq :=
  (ownEnded_items _).trans (by simp)

theorem ownFinished_afresh {u : State} {c : LocalClaim} (hk : (u.tq.entries.map fun e => keyOf e.item).Nodup)
    (h : ClaimedAfresh u c) : ClaimedAfresh (ownFinished u) c := by
  refine ownEnded_afresh (s := presenceMarked u) (by simpa using hk) ?_
  unfold ClaimedAfresh
  simpa using h

/-! ### The queue in which the batch is taken (R93) -/

theorem removeFirst_sublist {α : Type} (p : α → Bool) (as : List α) : (removeFirst p as).Sublist as := by
  induction as with
  | nil => exact .slnil
  | cons a as ih =>
    unfold removeFirst
    split
    · exact List.sublist_cons_self a as
    · exact ih.cons_cons a

theorem ownReady_entries {a : Attempt} {s : State} (hd : a.discarded = false) :
    (ownReady a s).tq.entries = (s.tq.accepted a.sent).entries := by
  unfold ownReady counted
  rw [referenceDerived_tq]
  simp only [countRefusal_keeps, countUp_keeps, State.withRe_tq, checked_own, ownTaken_tq a s hd]
  unfold roleTaken
  (repeat' split) <;> simp [arm_entries, roleLost_entries]

/-- An entry is held for a resource just where a frame of the queue names it. -/
theorem entryFor_eq_none {q : TransmitQueue} {r : Resource} :
    q.entryFor r = none ↔ ∀ i ∈ itemsOf q, i.resource? ≠ some r := by
  simp [TransmitQueue.entryFor, Entry.isFor, itemsOf]

section
variable {a : Attempt} {s : State} (hq : QueueLawful s) (hd : a.discarded = false) {i : Item} (hs : a.sent = .entry i)
include hq hd hs

theorem ownReady_sublist : (ownReady a s).tq.entries.Sublist s.tq.beside.entries := by
  obtain ⟨_, _, _, _, hone, _⟩ := hq
  rw [ownReady_entries hd, hs, accepted_of_lawful hone]
  exact removeFirst_sublist _ _

theorem ownReady_keys : ((ownReady a s).tq.entries.map fun e => keyOf e.item).Nodup := by
  have hsub := ownReady_sublist hq hd hs
  obtain ⟨_, hkeys, _⟩ := hq
  exact (beside_keys hkeys).sublist (hsub.map _)

/-- No frame is left for the resource of the accepted one. -/
theorem ownReady_entryFor (ha : s.xi.attempt = some a) {r : Resource} (hr : i.resource? = some r) : (ownReady a s).tq.entryFor r = none := by
  obtain ⟨e, he, hi, rfl⟩ := inFlight_entry hq ha hd hs
  have hsub := ownReady_sublist hq hd hs
  obtain ⟨_, hkeys, _⟩ := hq
  refine List.find?_eq_none.mpr fun f hf hfr => ?_
  have hne := beside_keyOf_ne hkeys he hi (hsub.subset hf)
  rw [(keyOf_eq_claimFamily _ r).mpr hr, Ne, keyOf_eq_claimFamily] at hne
  exact hne (by simpa [Entry.isFor] using hfr)

end

end Sys2Proof.Machine
end

section
/-! PROOF. The outcomes of an own CLAIM and an own DROP accepted (O30). -/

namespace Sys2Proof.Machine

open Sys2Proof.Safety

/-! ### The outcome of an own CLAIM at its local claim (R63 to R65) -/

theorem handDrop_tq {c : LocalClaim} {s : State} {r : Resource} (hr : c.resource = r) (hn : s.tq.entryFor r = none) :
    (handDrop c s).tq = s.tq.append (.drop r) := by
  subst hr
  simp [handDrop, TransmitQueue.addDrop, hn]

/-- The demand that the outcome of a CLAIM takes from a standing (R34). -/
def Standing.demand : Standing → Bool
  | .holder _ _ d => d
  | .waiter => false
  | .neither => false

theorem demand_standing (k : Record) (x : Station) : (k.standing x).demand = (k.holds x && k.yieldDemand) := by
  rw [← holderOf_isSome, Record.standing]
  cases k.holderOf x with
  | some h => rfl
  | none => cases k.waitsFor x <;> rfl

section
variable {s : State} {r : Resource} {c : LocalClaim} (hc : s.bu.claimFor r = some c)
include hc

theorem claimOutcome_of_sending (hs : c.state = .sending) (o : ClaimOutcome) (st : Standing) :
    claimOutcome r o st s =
      match o with
      | .granted | .already => if c.cancel then enterDropping c st.demand s else takeStanding c st s
      | .waiting => if c.cancel then enterDropping c false s else putClaim (c.to .waiting) s
      | .refused =>
        if c.cancel then putClaim (c.to .none) s else postNotice (.claimRefused r) (putClaim (c.to .refused) s) := by
  unfold claimOutcome
  rw [onClaim_of_some s hc, hs]
  cases o <;> cases st <;> rfl

/-- A local claim that goes to DROPPING, with its DROP where no frame for its resource is queued. -/
theorem enterDropping_leaves (d : Bool) :
    (enterDropping c d s).bu.claimFor r = some { c.to .dropping with yieldSeen := d } ∧
      (s.tq.entryFor r = none → .drop r ∈ itemsOf (enterDropping c d s).tq) := by
  have hr : c.resource = r := claimFor_resource hc
  refine ⟨putClaim_claimFor_same s (c := { c.to .dropping with yieldSeen := d }) hr hc, fun hn => ?_⟩
  have htq := handDrop_tq (s := putClaim { c.to .dropping with yieldSeen := d } s) hr hn
  rw [enterDropping, htq, itemsOf_append]
  simp

theorem enterHeld_leaves (d : Bool) :
    (enterHeld c d s).bu.claimFor r = some { c.to .held with yieldSeen := d } := by
  rw [enterHeld_bu]
  exact putClaim_claimFor_same s (c := { c.to .held with yieldSeen := d }) (claimFor_resource (c := c) hc) hc

theorem putClaim_leaves (st : ClaimState) : (putClaim (c.to st) s).bu.claimFor r = some (c.to st) :=
  putClaim_claimFor_same s (c := c.to st) (claimFor_resource (c := c) hc) hc

/-- A CLAIM that leaves its sender in the record: the local claim takes the standing, or is dropped where it was cancelled
(R63, R65, R68). -/
theorem claimOutcome_of_standing (hs : c.state = .sending) {o : ClaimOutcome} (ho : o = .granted ∨ o = .already)
    {k : Record} {x : Station} (hk : k.has x = true) :
    (claimOutcome r o (k.standing x) s).bu.claimFor r =
        some
          (if k.holds x then { c.to (if c.cancel then .dropping else .held) with yieldSeen := k.yieldDemand }
          else if c.cancel then { c.to .dropping with yieldSeen := false }
          else c.to .waiting) ∧
      (c.cancel = true → s.tq.entryFor r = none → .drop r ∈ itemsOf (claimOutcome r o (k.standing x) s).tq) := by
  have heq : claimOutcome r o (k.standing x) s =
      if c.cancel then enterDropping c (k.holds x && k.yieldDemand) s else takeStanding c (k.standing x) s := by
    rw [claimOutcome_of_sending hc hs, demand_standing]
    rcases ho with rfl | rfl <;> rfl
  rw [heq]
  cases hcan : c.cancel with
  | true =>
    obtain ⟨hclaim, hdrop⟩ := enterDropping_leaves hc (k.holds x && k.yieldDemand)
    refine ⟨?_, fun _ => hdrop⟩
    rw [if_pos rfl, hclaim]
    cases k.holds x <;> rfl
  | false =>
    refine ⟨?_, nofun⟩
    rw [if_neg (by decide), takeStanding_standing]
    cases hh : k.holds x with
    | true => exact enterHeld_leaves hc k.yieldDemand
    | false =>
      have hw : k.waitsFor x = true := by simpa [Record.has, hh] using hk
      rw [if_neg (by decide), if_pos hw]
      exact putClaim_leaves hc .waiting

end

/-- A holder just added holds. -/
theorem holds_of_added {k : Record} {hd : Holding} {md : Mode} {x : Holder} (hc : hd.compatible md = true)
    (hk : k.holding = hd.add md x) : k.holds x.station = true := by
  rw [holds_iff, hk]
  exact List.mem_map_of_mem ((add_holders_perm hd md x hc).mem_iff.mpr List.mem_cons_self)

theorem has_of_holds {k : Record} {x : Station} (h : k.holds x = true) : k.has x = true := by simp [Record.has, h]

theorem lowestFree_isSome {pool : Vector Bool 96} (h : ∃ i : Fin 96, pool[i] = false) : ∃ i, lowestFree pool = some i := by
  obtain ⟨i, hi⟩ := h
  exact Option.isSome_iff_exists.mp (List.find?_isSome.mpr ⟨i, List.mem_finRange i, by simpa using hi⟩)

/-- A CLAIM put into the wait list waits there. -/
theorem waitsFor_of_waiting {ms : Vector MemberState 16} {k : Record} (h : RecordLawful ms k) {w : Wait}
    (hw : ¬ (k.holding.compatible w.entry.mode = true ∧ NoneAhead w.entry.cls k.waits)) :
    (k.withWait w).grantPass.waitsFor w.entry.station = true := by
  rw [(grantPass_withWait h hw).1, waitsFor_iff]
  exact List.mem_map.mpr ⟨w, (insertWait_perm w k.waits).mem_iff.mpr List.mem_cons_self, rfl⟩

/-! ### The four outcomes of an own CLAIM -/

/-- An own CLAIM stands in its window, with its local claim in SENDING at an ACTIVE station. -/
structure ClaimStands (s : State) (a : Attempt) (m : Station) (r : Resource) (md : Mode) (cl : ClaimClass) (y : Bool)
    (c : LocalClaim) : Prop where
  awaits : AwaitsOwnWindow s a
  active : s.sc.state = .active
  valid : s.re.valid = true
  number : s.xi.number = some m
  sender : a.frame.sender = m
  body : a.frame.body = .claim r md cl y
  member : s.re.members[m] = .active
  claim : s.bu.claimFor r = some c
  sending : c.state = .sending

/-- The counters and the notices in which the batch of an own frame is taken. -/
theorem ownReady_mp (a : Attempt) (s : State) :
    (ownReady a s).mp.notices = s.mp.notices ∧
      ((effectsOf s.re a.frame).outcome = some .refused →
        (ownReady a s).mp.counters.claimsRefused = bump s.mp.counters.claimsRefused) := by
  refine ⟨by simp [ownReady], fun ho => ?_⟩
  simp [ownReady, counted, countRefusal, ho, countUp, Counters.increment]

theorem ownFinished_mp (u : State) :
    (ownFinished u).mp = { u.mp with counters := u.mp.counters.increment .ownFramesApplied } := by
  simp [ownFinished]

/-- The pins of a binding whose resource is held after an accepted own frame. -/
theorem ownFinished_pins {s t u : State} (ht : t = ownFinished u) (hst : t.sc.state = .active) (hb : BoardKept s t)
    {n : BindingNo} {k : BindingConfig} {l : LocalClaim} (hk : s.bu.config n = some k) (he : k.enabled = true)
    (hc : t.bu.claimFor k.resource = some l) (hl : l.state = .held) :
    t.pins.gnt[n] = s.bu.request n ∧ t.pins.yld[n] = (s.bu.request n && (l.yieldSeen && l.yieldable)) := by
  rw [boardKept_iff] at hb
  subst ht
  exact settle_pins_of_held (by simpa [ownFinished, ownEnded] using hst) hb hk he hc hl

section
variable {s : State} {a : Attempt} {m : Station} {r : Resource} {md : Mode} {cl : ClaimClass} {y : Bool} {c : LocalClaim}

/-- An own CLAIM accepted: the replica is that of the CLAIM operation, and its outcome is handed to the local claim. -/
theorem ClaimStands.taken (h : ClaimStands s a m r md cl y c) {e : ReplicaEngine} {o : ClaimOutcome}
    (he : s.re.claim m r md cl y = (e, o)) :
    ∃ t, exec (.ownWindowClose false) s = .next t ∧
      t = ownFinished (claimOutcome r o (e.records[r].standing m) (ownReady a s)) ∧
      OwnFrameTaken a s t ∧ t.re = e.advance := by
  have hbatch := batchOf_ownClaim h.sender h.body h.member
  rw [he] at hbatch
  obtain ⟨t, ht, hte, hown⟩ := ownFrameTaken h.awaits h.active h.valid h.number (.inl ⟨r, md, cl, y, h.body⟩) hbatch
    (by simp)
  refine ⟨t, ht, hte, hown, ?_⟩
  rw [hown.re]
  simp only [effectsOf, h.body, h.sender, claimEffects_of_active h.member, he]
  rfl

/-- An own CLAIM granted at once (R31, R63). -/
theorem ClaimStands.granted (h : ClaimStands s a m r md cl y c) (hl : RecordLawful s.re.members s.re.records[r])
    (hh : s.re.records[r].has m = false) (hc : s.re.records[r].holding.compatible md = true)
    (hn : NoneAhead cl s.re.records[r].waits) :
    ∃ t, exec (.ownWindowClose false) s = .next t ∧ OwnFrameTaken a s t ∧
      t.re =
        { s.re with
          records :=
            s.re.records.set r
              { holding := s.re.records[r].holding.add md { station := m, yieldable := y }
                waits := s.re.records[r].waits, yieldDemand := false }
          count := s.re.count + 1 } ∧
      t.bu.claimFor r = some { c.to (if c.cancel then .dropping else .held) with yieldSeen := false } ∧
      (c.cancel = true → (ownReady a s).tq.entryFor r = none → .drop r ∈ itemsOf t.tq) ∧ ∃ u, t = ownFinished u := by
  obtain ⟨k, hk⟩ : ∃ k : Record, k =
      { holding := s.re.records[r].holding.add md { station := m, yieldable := y }
        waits := s.re.records[r].waits, yieldDemand := false } := ⟨_, rfl⟩
  have hclaim := claim_of_noneAhead y hl hh hc hn
  rw [← hk] at hclaim
  obtain ⟨t, ht, hte, hown, hre⟩ := h.taken hclaim
  have hholds : k.holds m = true := holds_of_added hc (congrArg Record.holding hk)
  rw [set_getElem_self] at hte
  obtain ⟨hleft, hdrop⟩ := claimOutcome_of_standing (ownReady_claimFor (a := a) h.claim) h.sending (.inl rfl)
    (has_of_holds hholds)
  rw [hholds, if_pos rfl] at hleft
  refine ⟨t, ht, hown, hre.trans (by rw [hk]; rfl), ?_, fun hcan hfree => ?_, _, hte⟩
  · rw [hte, ownFinished_claim (by cases c.cancel <;> simp [LocalClaim.to]) hleft, hk]
  · rw [hte, ownFinished_items]
    exact hdrop hcan hfree

/-- An own CLAIM put into the wait list (R32, R64). -/
theorem ClaimStands.waits (h : ClaimStands s a m r md cl y c) (hl : RecordLawful s.re.members s.re.records[r])
    (hh : s.re.records[r].has m = false)
    (hn : ¬ (s.re.records[r].holding.compatible md = true ∧ NoneAhead cl s.re.records[r].waits))
    (hp : ∃ i : Fin 96, s.re.pool[i] = false) :
    ∃ t, exec (.ownWindowClose false) s = .next t ∧ OwnFrameTaken a s t ∧
      t.re.records[r].waitsFor m = true ∧ t.re.count = s.re.count + 1 ∧
      t.bu.claimFor r = some (if c.cancel then { c.to .dropping with yieldSeen := false } else c.to .waiting) ∧
      (c.cancel = true → (ownReady a s).tq.entryFor r = none → .drop r ∈ itemsOf t.tq) := by
  obtain ⟨i, hi⟩ := lowestFree_isSome hp
  obtain ⟨t, ht, hte, hown, hre⟩ := h.taken (claim_of_free s.re m r md cl y hh (grantsAtOnce_false hn) hi)
  have hc := ownReady_claimFor (a := a) h.claim
  rw [claimOutcome_of_sending hc h.sending] at hte
  refine ⟨t, ht, hown, ?_, by rw [hre]; rfl, ?_, fun hcan hfree => ?_⟩
  · rw [hre]
    simp only [ReplicaEngine.advance, ReplicaEngine.rewrite, set_getElem_self]
    exact waitsFor_of_waiting hl (w := waitOf m md cl y i) hn
  · rw [hte]
    cases hcan : c.cancel with
    | true => exact ownFinished_claim (by simp [LocalClaim.to]) (enterDropping_leaves hc false).1
    | false => exact ownFinished_claim (by simp [LocalClaim.to]) (putClaim_leaves hc .waiting)
  · rw [hte, ownFinished_items, hcan]
    exact (enterDropping_leaves hc false).2 hfree

/-- An own CLAIM refused (R33, R64). -/
theorem ClaimStands.refused (h : ClaimStands s a m r md cl y c) (hh : s.re.records[r].has m = false)
    (hn : ¬ (s.re.records[r].holding.compatible md = true ∧ NoneAhead cl s.re.records[r].waits))
    (hp : ∀ i : Fin 96, s.re.pool[i] = true) :
    ∃ t, exec (.ownWindowClose false) s = .next t ∧ OwnFrameTaken a s t ∧
      t.re = { s.re with count := s.re.count + 1 } ∧
      t.bu.claimFor r = some (if c.cancel then c.to .none else c.to .refused) ∧
      t.mp.counters.claimsRefused = bump s.mp.counters.claimsRefused ∧
      (s.mp.notices.length < 32 →
        t.mp.notices = if c.cancel then s.mp.notices else s.mp.notices ++ [.claimRefused r]) ∧
      itemsOf t.tq = itemsOf (ownReady a s).tq := by
  have hclaim := claim_of_full s.re m r md cl y hh (grantsAtOnce_false hn) (lowestFree_eq_none hp)
  obtain ⟨t, ht, hte, hown, hre⟩ := h.taken hclaim
  have hc := ownReady_claimFor (a := a) h.claim
  have hrefused : (effectsOf s.re a.frame).outcome = some .refused := by
    simp only [effectsOf, h.body, h.sender, claimEffects_of_active h.member, hclaim]
  obtain ⟨hnotices, hcount⟩ := ownReady_mp a s
  obtain ⟨u, hu⟩ : ∃ u, u = claimOutcome r .refused (s.re.records[r].standing m) (ownReady a s) := ⟨_, rfl⟩
  have hclaims : u.bu.claimFor r = some (if c.cancel then c.to .none else c.to .refused) := by
    rw [hu, claimOutcome_of_sending hc h.sending]
    cases c.cancel with
    | true => exact putClaim_leaves hc .none
    | false => exact putClaim_leaves hc .refused
  have htq : u.tq = (ownReady a s).tq := by
    rw [hu, claimOutcome_of_sending hc h.sending]
    cases c.cancel <;> rfl
  have hmp : u.mp = if c.cancel then (ownReady a s).mp else (ownReady a s).mp.post (.claimRefused r) := by
    rw [hu, claimOutcome_of_sending hc h.sending]
    cases c.cancel <;> rfl
  rw [← hu] at hte
  refine ⟨t, ht, hown, hre, ?_, ?_, fun hlen => ?_, by rw [hte, ownFinished_items, htq]⟩
  · rw [hte]
    exact ownFinished_claim (by cases c.cancel <;> simp [LocalClaim.to]) hclaims
  · rw [hte, ownFinished_mp]
    change u.mp.counters.claimsRefused = _
    rw [hmp, ← hcount hrefused]
    cases c.cancel with
    | true => rfl
    | false =>
      rw [if_neg (by decide), post_counter]
  · rw [hte, ownFinished_mp]
    change u.mp.notices = _
    rw [hmp, ← hnotices]
    cases c.cancel with
    | true => rfl
    | false => simp [ManagementPort.post, Config.noticeCapacity, hnotices, hlen]

/-- An own CLAIM whose sender stands in the record already (R30, R65). -/
theorem ClaimStands.already (h : ClaimStands s a m r md cl y c) (hh : s.re.records[r].has m = true) :
    ∃ t, exec (.ownWindowClose false) s = .next t ∧ OwnFrameTaken a s t ∧
      t.re = { s.re with count := s.re.count + 1 } ∧
      t.bu.claimFor r =
        some
          (if s.re.records[r].holds m then
            { c.to (if c.cancel then .dropping else .held) with yieldSeen := s.re.records[r].yieldDemand }
          else if c.cancel then { c.to .dropping with yieldSeen := false }
          else c.to .waiting) ∧
      (c.cancel = true → (ownReady a s).tq.entryFor r = none → .drop r ∈ itemsOf t.tq) := by
  obtain ⟨t, ht, hte, hown, hre⟩ := h.taken (claim_of_has s.re m r md cl y hh)
  obtain ⟨hleft, hdrop⟩ := claimOutcome_of_standing (ownReady_claimFor (a := a) h.claim) h.sending (.inr rfl) hh
  refine ⟨t, ht, hown, hre, ?_, fun hcan hfree => ?_⟩
  · rw [hte]
    refine ownFinished_claim ?_ hleft
    cases c.cancel <;> cases s.re.records[r].holds m <;> simp [LocalClaim.to]
  · rw [hte, ownFinished_items]
    exact hdrop hcan hfree

end

/-! ### An own DROP (R35, R72) -/

/-- What a fresh CLAIM of any local claim keeps, FREED keeps, where it holds only of the local claims in REFUSED (R75). -/
theorem freedEntry_induct {P : State → Prop} {s : State}
    (hstep : ∀ c ∈ s.bu.claims, c.state = .refused → ∀ u, P u → P (claimAfresh c u)) (hs : P s) : P (freedEntry s) := by
  have hfold (cs : List LocalClaim) (hcs : ∀ c ∈ cs, c ∈ s.bu.claims) (u : State) (hu : P u) :
      P (cs.foldl (fun s c => if c.state = .refused then claimAfresh c s else s) u) := by
    induction cs generalizing u with
    | nil => exact hu
    | cons c cs ih =>
      refine ih (fun d hd => hcs d (List.mem_cons_of_mem c hd)) _ ?_
      dsimp only
      split
      next hc => exact hstep c (hcs c List.mem_cons_self) hc u hu
      next => exact hu
  exact hfold s.bu.claims (fun _ hc => hc) s hs

theorem addClaim_keys {q : TransmitQueue} (h : (q.entries.map fun e => keyOf e.item).Nodup) (r : Resource) (m : Mode)
    (c : ClaimClass) (y : Bool) : ((q.addClaim r m c y).entries.map fun e => keyOf e.item).Nodup := by
  unfold TransmitQueue.addClaim
  split
  · exact h
  next hn => exact append_keys h rfl hn

theorem addClaim_entryFor_of_ne {q : TransmitQueue} {r r' : Resource} (h : q.entryFor r = none) (hr : r' ≠ r) (m : Mode)
    (c : ClaimClass) (y : Bool) : (q.addClaim r' m c y).entryFor r = none := by
  unfold TransmitQueue.addClaim
  split
  · exact h
  · exact entryFor_append_of_ne h (by simpa [Item.resource?] using hr)

theorem mem_addClaim {q : TransmitQueue} {e : Entry} (h : e ∈ q.entries) (r : Resource) (m : Mode) (c : ClaimClass)
    (y : Bool) : e ∈ (q.addClaim r m c y).entries := by
  unfold TransmitQueue.addClaim
  split
  · exact h
  · exact List.mem_append_left _ h

theorem dropApplied_of_dropping {s : State} {r : Resource} {c : LocalClaim} (hc : s.bu.claimFor r = some c)
    (hs : c.state = .dropping) : dropApplied r s = if c.reclaim then claimAfresh c s else putClaim (c.to .none) s := by
  unfold dropApplied
  rw [onClaim_of_some s hc, hs]

/-- No other local claim of the resource is in REFUSED, where one has just been written back in another state. -/
theorem resource_ne_of_refused {s : State} {c d : LocalClaim} (hc : c.state ≠ .refused)
    (hd : d ∈ (putClaim c s).bu.claims) (hr : d.state = .refused) : d.resource ≠ c.resource := fun he =>
  hc (mem_putClaim s hd he ▸ hr)

section
variable {s : State} {r : Resource} {c : LocalClaim} (hc : s.bu.claimFor r = some c) (hs : c.state = .dropping)
  (hn : s.tq.entryFor r = none) (freed : Bool)
include hc hs hn

/-- The batch of an own DROP closes its local claim (R72). -/
theorem dropBatch_closes (hr : c.reclaim = false) (d : DropFinding) :
    (takeBatch (.dropApplied r d :: if freed then [.freed] else []) s).bu.claimFor r = some (c.to .none) ∧
      (takeBatch (.dropApplied r d :: if freed then [.freed] else []) s).tq.entryFor r = none := by
  have hres : c.resource = r := claimFor_resource (c := c) hc
  have hdrop : dropApplied r s = putClaim (c.to .none) s := by rw [dropApplied_of_dropping hc hs, hr, if_neg (by decide)]
  have hleft : (putClaim (c.to .none) s).bu.claimFor r = some (c.to .none) ∧
      (putClaim (c.to .none) s).tq.entryFor r = none := ⟨putClaim_leaves hc .none, hn⟩
  cases freed with
  | false => simpa only [Bool.false_eq_true, if_false, takeBatch, List.foldl, takeEntry, hdrop] using hleft
  | true =>
    simp only [if_true, takeBatch, List.foldl, takeEntry, hdrop]
    refine freedEntry_induct (P := fun u => u.bu.claimFor r = some (c.to .none) ∧ u.tq.entryFor r = none)
      (fun b hb hbr u ⟨hu, hq⟩ => ?_) hleft
    have hne : b.resource ≠ r := hres ▸ resource_ne_of_refused (c := c.to .none) (by simp [LocalClaim.to]) hb hbr
    exact ⟨(claimAfresh_claimFor_of_ne u hne).trans hu, addClaim_entryFor_of_ne hq hne _ _ _⟩

/-- The batch of an own DROP has its local claim claim afresh where the reclaim flag is set (R72). -/
theorem dropBatch_reclaims (hk : (s.tq.entries.map fun e => keyOf e.item).Nodup) (hr : c.reclaim = true)
    (d : DropFinding) :
    (((takeBatch (.dropApplied r d :: if freed then [.freed] else []) s).tq.entries.map fun e => keyOf e.item).Nodup) ∧
      ClaimedAfresh (takeBatch (.dropApplied r d :: if freed then [.freed] else []) s) c := by
  have hdrop : dropApplied r s = claimAfresh c s := by rw [dropApplied_of_dropping hc hs, hr, if_pos rfl]
  have hafresh := claimAfresh_afresh hc hk hn
  have hleft := And.intro hafresh.keys hafresh.claim
  cases freed with
  | false => simpa only [Bool.false_eq_true, if_false, takeBatch, List.foldl, takeEntry, hdrop] using hleft
  | true =>
    simp only [if_true, takeBatch, List.foldl, takeEntry, hdrop]
    refine freedEntry_induct
      (P := fun u => (u.tq.entries.map fun e => keyOf e.item).Nodup ∧ ClaimedAfresh u c)
      (fun b hb hbr u ⟨huk, e, he, hi, hu⟩ => ?_) hleft
    have hne : b.resource ≠ c.resource :=
      resource_ne_of_refused (c := c.to .queued) (s := s) (by simp [LocalClaim.to]) hb hbr
    exact ⟨addClaim_keys huk _ _ _ _, e, mem_addClaim he _ _ _ _, hi, (claimAfresh_claimFor_of_ne u hne).trans hu⟩

end

/-- An own DROP accepted (R35, R72). -/
theorem ownDrop_accepted {s : State} {a : Attempt} {m : Station} {r : Resource} {c : LocalClaim}
    (h : AwaitsOwnWindow s a) (hq : QueueLawful s) (hd : a.discarded = false) (hst : s.sc.state = .active)
    (hv : s.re.valid = true) (hn : s.xi.number = some m) (hf : a.frame.sender = m)
    (hb : a.frame.body = .drop (byte r.val)) (hs : a.sent = .entry (.drop r)) (hx : s.re.members[m] = .active)
    (hc : s.bu.claimFor r = some c) (hcs : c.state = .dropping) :
    ∃ t, exec (.ownWindowClose false) s = .next t ∧ OwnFrameTaken a s t ∧ t.re = (s.re.drop m r).1.advance ∧
      (c.reclaim = false → t.bu.claimFor r = some (c.to .none) ∧ t.tq.entryFor r = none) ∧
      (c.reclaim = true → ClaimedAfresh t c) := by
  obtain ⟨_, _, hatt, _⟩ := id h
  have hbatch := batchOf_ownDrop hf hb hx
  obtain ⟨t, ht, hte, hown⟩ := ownFrameTaken h hst hv hn (.inr ⟨_, hb⟩) hbatch
    (fun e he r' => by
      rcases List.mem_cons.mp he with rfl | he
      · nofun
      · split at he
        · rw [List.mem_singleton.mp he]; nofun
        · exact absurd he List.not_mem_nil)
  have hc' := ownReady_claimFor (a := a) hc
  have hfree := ownReady_entryFor hq hd hs hatt (r := r) rfl
  refine ⟨t, ht, hown, ?_, fun hr => ?_, fun hr => ?_⟩
  · rw [hown.re, effectsOf_drop hf hb hx]
    rfl
  · obtain ⟨hclaim, hempty⟩ := dropBatch_closes hc' hcs hfree ((s.re.drop m r).2 != .nothing) hr (s.re.drop m r).2
    rw [hte]
    refine ⟨ownFinished_claim (by simp [LocalClaim.to]) hclaim, ?_⟩
    rw [entryFor_eq_none, ownFinished_items, ← entryFor_eq_none]
    exact hempty
  · obtain ⟨hkeys, hafresh⟩ := dropBatch_reclaims hc' hcs hfree ((s.re.drop m r).2 != .nothing)
      (ownReady_keys hq hd hs) hr (s.re.drop m r).2
    rw [hte]
    exact ownFinished_afresh hkeys hafresh

/-- Settles O30, from the four outcomes of an own CLAIM and from the own DROP. -/
theorem ownClaimGranted : Obligations.OwnClaimGranted := by
  refine ⟨fun s a m r md cl y c h hst hv hn hf hb hx hrec hc hcs hcan => ?_,
    fun s a m r md cl y c h hq hd hst hv hn hf hb hs hx hl hc hcs => ?_,
    fun s a m r c h hq hd hst hv hn hf hb hs hx hc hcs => ?_⟩
  · have hstands : ClaimStands s a m r md cl y c := ⟨h, hst, hv, hn, hf, hb, hx, hc, hcs⟩
    obtain ⟨t, ht, hown, hre, hclaim, _, u, hu⟩ := hstands.granted (by rw [hrec]; exact recordLawful_empty _)
      (by rw [hrec]; rfl) (by rw [hrec]; exact compatible_free md) (by rw [hrec]; exact nofun)
    rw [hcan, if_neg (by decide)] at hclaim
    refine ⟨t, ht, by rw [hre, hrec], hclaim, fun n b hcfg hen hr => ?_, hown.counted, hown.frames, hown.dropStreak,
      hown.state, hown.board, hown.outside⟩
    subst hr
    obtain ⟨hg, hy⟩ := ownFinished_pins hu hown.state hown.board hcfg hen hclaim rfl
    exact ⟨hg, hy.trans (by simp)⟩
  · have hstands : ClaimStands s a m r md cl y c := ⟨h, hst, hv, hn, hf, hb, hx, hc, hcs⟩
    obtain ⟨_, _, hatt, _⟩ := id h
    have hfree := ownReady_entryFor hq hd hs hatt (r := r) rfl
    refine ⟨fun hh hnot hp => ?_, fun hh hnot hp => ?_, fun hh => ?_, fun hh hcomp hnone hcan => ?_⟩
    · obtain ⟨t, ht, hown, hwait, hcount, hclaim, hdrop⟩ := hstands.waits hl hh hnot hp
      exact ⟨t, ht, hwait, hclaim, fun hcan => mem_of_items (hdrop hcan hfree), hcount, hown.state, hown.board,
        hown.outside⟩
    · obtain ⟨t, ht, hown, hre, hclaim, hcount, hnotices, hitems⟩ := hstands.refused hh hnot hp
      exact ⟨t, ht, hre, hclaim, hcount, hnotices, by rwa [entryFor_eq_none, hitems, ← entryFor_eq_none], hown.state,
        hown.board, hown.outside⟩
    · obtain ⟨t, ht, hown, hre, hclaim, hdrop⟩ := hstands.already hh
      exact ⟨t, ht, hre, hclaim, fun hcan => mem_of_items (hdrop hcan hfree), hown.state, hown.board, hown.outside⟩
    · obtain ⟨t, ht, hown, hre, hclaim, hdrop, _⟩ := hstands.granted hl hh hcomp hnone
      have htr : t.re.records[r] = { holding := s.re.records[r].holding.add md { station := m, yieldable := y }
                                     waits := s.re.records[r].waits, yieldDemand := false } := by
        rw [hre]
        exact set_getElem_self _ _ _
      rw [hcan] at hclaim
      refine ⟨t, ht, ?_, by rw [htr]; exact hclaim, mem_of_items (hdrop hcan hfree), by rw [hre], hown.state, hown.board,
        hown.outside⟩
      rw [htr]
      exact holds_of_added (x := { station := m, yieldable := y })
        (k := ⟨s.re.records[r].holding.add md { station := m, yieldable := y }, s.re.records[r].waits, false⟩) hcomp rfl
  · obtain ⟨t, ht, hown, hre, hclosed, hafresh⟩ := ownDrop_accepted h hq hd hst hv hn hf hb hs hx hc hcs
    obtain ⟨hmem, hcount, _⟩ := drop_keeps s.re m r
    have hres : c.resource = r := claimFor_resource (c := c) hc
    refine ⟨t, ht, ?_, ?_, ?_, ?_, hclosed, fun hr => ?_, hown.state, hown.board, hown.outside⟩
    · rw [hre]
      exact drop_records s.re m r
    · rw [hre]
      exact has_after_drop s.re m r
    · rw [hre]
      exact hmem
    · rw [hre, ← hcount]
      rfl
    · have := hafresh hr
      unfold ClaimedAfresh at this
      rwa [claimOf, hres] at this

end Sys2Proof.Machine
end

section
/-! PROOF. What the additions to the transmit queue and the withdrawals from it leave: the frames in flight, and the keys
of the entries (laws L9 and L10, R88 to R92). -/

namespace Sys2Proof.Machine

open Sys2Proof.Safety

/-! ### Additions and withdrawals (R88 to R92) -/

/-- What the queue's additions and withdrawals keep, where the Local Claim Table has claims on the given resources: the
frames in flight, the keys each with one entry, and the resources of CLAIM and DROP entries; no JOIN or LEAVE is added. -/
structure Amended (rs : List Resource) (q q' : TransmitQueue) : Prop where
  inFlight : inFlight q' = inFlight q
  keys : (q.entries.map fun e => keyOf e.item).Nodup → (q'.entries.map fun e => keyOf e.item).Nodup
  named : ∀ e ∈ q'.entries, e ∈ q.entries ∨ ∀ r ∈ e.item.resource?, r ∈ rs
  joins : ∀ e ∈ q'.entries, e.item.isJoinOrLeave = true → e ∈ q.entries

section
variable {rs : List Resource} {q q' q'' : TransmitQueue}

theorem Amended.refl (rs : List Resource) (q : TransmitQueue) : Amended rs q q :=
  ⟨rfl, id, fun _ => .inl, fun _ he _ => he⟩

theorem Amended.trans (h : Amended rs q q') (k : Amended rs q' q'') : Amended rs q q'' where
  inFlight := k.inFlight.trans h.inFlight
  keys := k.keys ∘ h.keys
  named e he := (k.named e he).elim (h.named e) .inr
  joins e he hj := h.joins e (k.joins e he hj) hj

/-- The job may change as long as no part of it is in flight before and after. -/
theorem Amended.of_entries (he : q'.entries = q.entries) (hf : Safety.inFlight q' = Safety.inFlight q) :
    Amended rs q q' where
  inFlight := hf
  keys h := he ▸ h
  named _ h := .inl (he ▸ h)
  joins _ h _ := he ▸ h

@[simp] theorem inFlight_append (q : TransmitQueue) (i : Item) : inFlight (q.append i) = inFlight q := by
  simp [inFlight, TransmitQueue.append, Entry.fresh]

theorem append_amended {i : Item} (hr : ∀ r ∈ i.resource?, r ∈ rs) (hj : i.isJoinOrLeave = false)
    (hfree : ∀ f ∈ q.entries, keyOf f.item ≠ keyOf i) : Amended rs q (q.append i) where
  inFlight := inFlight_append q i
  keys h := append_keys_of_free h hfree
  named e he := by
    rcases List.mem_append.mp he with h | h
    · exact .inl h
    · obtain rfl := List.mem_singleton.mp h
      exact .inr hr
  joins e he hi := by
    rcases List.mem_append.mp he with h | h
    · exact h
    · obtain rfl := List.mem_singleton.mp h
      exact absurd hi (by simp [Entry.fresh, hj])

theorem filter_removeFirst {α : Type} {p k : α → Bool} {a : α} {as : List α} (h : as.find? p = some a) (ha : k a = false) :
    (removeFirst p as).filter k = as.filter k := by
  induction as with
  | nil => rfl
  | cons b bs ih =>
    unfold removeFirst
    by_cases hp : p b = true
    · obtain rfl : b = a := by simpa [hp] using h
      rw [if_pos hp, List.filter_cons_of_neg (by simp [ha])]
    · rw [if_neg hp, List.filter_cons, List.filter_cons, ih (by simpa [hp] using h)]

/-- An UNTAKEN entry taken out. -/
theorem removeFirst_amended {p : Entry → Bool} {e : Entry} (h : q.entries.find? p = some e) (he : e.inFlight = false) :
    Amended rs q { q with entries := removeFirst p q.entries } where
  inFlight := by
    simp only [inFlight]
    rw [filter_removeFirst h he]
  keys hk := hk.sublist ((removeFirst_sublist p q.entries).map _)
  named _ hf := .inl (mem_of_mem_removeFirst hf)
  joins _ hf _ := mem_of_mem_removeFirst hf

theorem withdrawWhere_amended (rs : List Resource) (q : TransmitQueue) (p : Entry → Bool) :
    Amended rs q (q.withdrawWhere p).1 := by
  unfold TransmitQueue.withdrawWhere
  split
  · exact .refl rs q
  next e he =>
    split
    · exact .refl rs q
    next hi => exact removeFirst_amended he (by simpa using hi)

theorem keyOf_ne_of_entryFor {r : Resource} (hn : q.entryFor r = none) {i : Item} (hi : i.resource? = some r) (f : Entry)
    (hf : f ∈ q.entries) : keyOf f.item ≠ keyOf i := by
  rw [(keyOf_eq_claimFamily i r).mpr hi, Ne, keyOf_eq_claimFamily]
  exact entryFor_eq_none.mp hn f.item (List.mem_map_of_mem hf)

theorem addClaim_amended {r : Resource} (hr : r ∈ rs) (q : TransmitQueue) (m : Mode) (c : ClaimClass) (y : Bool) :
    Amended rs q (q.addClaim r m c y) := by
  unfold TransmitQueue.addClaim
  split
  · exact .refl rs q
  next hn => exact append_amended (by simpa [Item.resource?] using hr) rfl (keyOf_ne_of_entryFor hn rfl)

theorem addDrop_amended {r : Resource} (hr : r ∈ rs) (q : TransmitQueue) : Amended rs q (q.addDrop r).1 := by
  unfold TransmitQueue.addDrop
  split
  next hn => exact append_amended (by simpa [Item.resource?] using hr) rfl (keyOf_ne_of_entryFor hn rfl)
  next e he =>
    (repeat' split)
    · exact .refl rs q
    next hi => exact removeFirst_amended he (by simpa using hi)
    · exact .refl rs q

theorem keyOf_eq_presence (i : Item) : keyOf i = .presence ↔ i = .presence := by cases i <;> simp [keyOf]

theorem keyOf_eq_joinOrLeave (i : Item) : keyOf i = .joinOrLeave ↔ i.isJoinOrLeave = true := by
  cases i <;> simp [keyOf, Item.isJoinOrLeave]

theorem addPresence_amended (rs : List Resource) (q : TransmitQueue) : Amended rs q q.addPresence := by
  unfold TransmitQueue.addPresence
  split
  · exact .refl rs q
  next hn =>
    refine append_amended nofun rfl fun f hf hk => hn (List.any_eq_true.mpr ⟨f, hf, ?_⟩)
    simpa using (keyOf_eq_presence _).mp hk

theorem askExpel_amended (rs : List Resource) (t : Station) (why : ExpelReason) (s : State) :
    Amended rs s.tq (askExpel t why s).tq := by
  unfold askExpel
  split
  · exact .refl rs s.tq
  next hn =>
    refine append_amended nofun rfl fun f hf hk => hn (List.any_eq_true.mpr ⟨f, hf, ?_⟩)
    simpa [Entry.expels] using keyOf_eq_expel.mp hk

theorem amended_arm (rs : List Resource) (q : TransmitQueue) : Amended rs q q.arm := by
  refine .of_entries (arm_entries q) ?_
  unfold TransmitQueue.arm
  split <;> simp_all [inFlight]

theorem roleLost_amended (rs : List Resource) (q : TransmitQueue) : Amended rs q q.roleLost := by
  unfold TransmitQueue.roleLost
  split
  next h => exact .of_entries rfl (by simp [inFlight, h])
  all_goals exact .refl rs q

end

/-! ### The binding unit's operations on the queue and the Local Claim Table -/

/-- What an operation keeps that stays in the station state and begins or ends no attempt. -/
structure Amends (s t : State) : Prop where
  resources : t.bu.claims.map (·.resource) = s.bu.claims.map (·.resource)
  bindings : t.bu.bindings = s.bu.bindings
  attempt : t.xi.attempt = s.xi.attempt
  number : t.xi.number = s.xi.number
  state : t.sc.state = s.sc.state
  queue : Amended (s.bu.claims.map (·.resource)) s.tq t.tq

section
variable {s t u : State}

theorem Amends.of_kept (hbu : t.bu = s.bu) (htq : t.tq = s.tq) (hxi : t.xi = s.xi) (hst : t.sc.state = s.sc.state) :
    Amends s t :=
  ⟨by rw [hbu], by rw [hbu], by rw [hxi], by rw [hxi], hst, htq ▸ .refl _ _⟩

theorem Amends.refl (s : State) : Amends s s := .of_kept rfl rfl rfl rfl

theorem Amends.trans (h : Amends s t) (k : Amends t u) : Amends s u :=
  ⟨k.resources.trans h.resources, k.bindings.trans h.bindings, k.attempt.trans h.attempt, k.number.trans h.number,
    k.state.trans h.state, h.queue.trans (h.resources ▸ k.queue)⟩

theorem Amends.withTq {q : TransmitQueue} (h : Amended (s.bu.claims.map (·.resource)) s.tq q) : Amends s (s.withTq q) :=
  ⟨rfl, rfl, rfl, rfl, rfl, h⟩

theorem withdraw_amends (s : State) (r : Resource) : Amends s (s.withTq (s.tq.withdraw r).1) :=
  .withTq (withdrawWhere_amended _ _ _)

theorem putClaim_amends (c : LocalClaim) (s : State) : Amends s (putClaim c s) where
  resources := by
    simp only [putClaim, State.withClaims, State.withBu_bu, List.map_map]
    refine List.map_congr_left fun d _ => ?_
    simp only [Function.comp_apply]
    split
    next h => exact h.symm
    next => rfl
  bindings := rfl
  attempt := rfl
  number := rfl
  state := rfl
  queue := .refl _ _

theorem postNotice_amends (n : Notice) (s : State) : Amends s (postNotice n s) := .of_kept rfl rfl rfl rfl

theorem countUp_amends (k : Counter) (s : State) : Amends s (countUp k s) := .of_kept rfl rfl rfl rfl

theorem board_amends (s : State) (ls ts : Vector Bool 12) :
    Amends s (s.withBu { s.bu with lines := ls, latches := ts }) :=
  ⟨rfl, rfl, rfl, rfl, rfl, .refl _ _⟩

theorem mem_resources_of_claimFor {b : BindingUnit} {r : Resource} {c : LocalClaim} (h : b.claimFor r = some c) :
    c.resource ∈ b.claims.map (·.resource) :=
  List.mem_map_of_mem (claimFor_mem h)

theorem onClaim_amends {r : Resource} {f : LocalClaim → State → State}
    (h : ∀ c, c.resource ∈ s.bu.claims.map (·.resource) → Amends s (f c s)) : Amends s (onClaim r f s) := by
  unfold onClaim
  split
  · exact .refl s
  next c hc => exact h c (mem_resources_of_claimFor hc)

theorem foldl_amends {α : Type} {f : State → α → State} {as : List α}
    (h : ∀ u, Amends s u → ∀ a ∈ as, Amends u (f u a)) : Amends s (as.foldl f s) := by
  suffices hs : ∀ u, Amends s u → Amends s (as.foldl f u) from hs s (.refl s)
  induction as with
  | nil => exact fun u hu => hu
  | cons a as ih =>
    intro u hu
    exact ih (fun v hv b hb => h v hv b (List.mem_cons_of_mem a hb)) _ (hu.trans (h u hu a List.mem_cons_self))

end

section
variable {s : State} {c : LocalClaim} (hc : c.resource ∈ s.bu.claims.map (·.resource))
include hc

theorem handClaim_amends : Amends s (handClaim c s) := .withTq (addClaim_amended hc _ _ _ _)

theorem handDrop_amends : Amends s (handDrop c s) := .withTq (addDrop_amended hc _)

theorem claimAfresh_amends : Amends s (claimAfresh c s) := by
  have hput := putClaim_amends (c.to .queued) s
  exact hput.trans (handClaim_amends (by rwa [hput.resources]))

theorem enterDropping_amends (d : Bool) : Amends s (enterDropping c d s) := by
  have hput := putClaim_amends { c.to .dropping with yieldSeen := d } s
  exact hput.trans (handDrop_amends (by rwa [hput.resources]))

omit hc in
theorem enterHeld_amends (c : LocalClaim) (d : Bool) (s : State) : Amends s (enterHeld c d s) := by
  unfold enterHeld
  dsimp only
  split
  · exact (putClaim_amends _ s).trans (postNotice_amends _ _)
  · exact putClaim_amends _ s

theorem takeStanding_amends (st : Standing) : Amends s (takeStanding c st s) := by
  cases st with
  | holder m y d => exact enterHeld_amends c d s
  | waiter => exact putClaim_amends _ s
  | neither => exact claimAfresh_amends hc

theorem demandRise_amends : Amends s (demandRise c s) := by
  unfold demandRise
  split
  · exact claimAfresh_amends hc
  · exact putClaim_amends _ s
  · split
    · exact .refl s
    · have hw := withdraw_amends s c.resource
      dsimp only
      split
      · exact hw.trans (takeStanding_amends (by rwa [hw.resources]) _)
      · exact putClaim_amends _ s
      · exact putClaim_amends _ s
  all_goals exact .refl s

theorem demandFall_amends : Amends s (demandFall c s) := by
  have hd : Amends s (s.withTq (s.tq.addDrop c.resource).1) := handDrop_amends hc
  unfold demandFall
  split
  · exact .refl s
  · dsimp only
    split
    · exact hd.trans (putClaim_amends _ _)
    · exact putClaim_amends _ s
    · exact .refl s
    · exact hd
  · exact putClaim_amends _ s
  · exact enterDropping_amends hc _
  · exact enterDropping_amends hc _
  · exact putClaim_amends _ s
  · exact putClaim_amends _ s

end

section
variable (s : State)

theorem changeRequest_amends (n : BindingNo) {f : BindingUnit → BindingUnit}
    (hf : ∀ b, (f b).claims = b.claims ∧ (f b).bindings = b.bindings) : Amends s (changeRequest n f s) := by
  obtain ⟨hcs, hbs⟩ := hf s.bu
  have hb : Amends s (s.withBu (f s.bu)) := ⟨by simp [hcs], by simp [hbs], rfl, rfl, rfl, .refl _ _⟩
  unfold changeRequest
  dsimp only
  split
  · exact hb
  · split
    · refine hb.trans (onClaim_amends fun c hc => ?_)
      split
      · exact demandRise_amends hc
      · exact demandFall_amends hc
      · exact .refl _
      · exact .refl _
    · exact hb

theorem lineRise_amends (n : BindingNo) : Amends s (lineRise n s) := changeRequest_amends s n fun _ => ⟨rfl, rfl⟩

theorem lineFall_amends (n : BindingNo) : Amends s (lineFall n s) := changeRequest_amends s n fun _ => ⟨rfl, rfl⟩

theorem clearLatch_amends (n : BindingNo) : Amends s (clearLatch n s) := changeRequest_amends s n fun _ => ⟨rfl, rfl⟩

theorem takenReport_amends (r : Resource) : Amends s (takenReport r s) := by
  refine onClaim_amends fun c _ => ?_
  split
  · exact putClaim_amends _ s
  all_goals exact .refl s

theorem claimOutcome_amends (r : Resource) (o : ClaimOutcome) (st : Standing) : Amends s (claimOutcome r o st s) := by
  unfold claimOutcome
  refine onClaim_amends fun c hc => ?_
  split
  · split
    · split
      · exact enterDropping_amends hc _
      · exact takeStanding_amends hc st
    · split
      · exact enterDropping_amends hc _
      · exact takeStanding_amends hc st
    · split
      · exact enterDropping_amends hc _
      · exact putClaim_amends _ s
    · split
      · exact putClaim_amends _ s
      · exact (putClaim_amends _ s).trans (postNotice_amends _ _)
  all_goals exact .refl s

theorem dropApplied_amends (r : Resource) : Amends s (dropApplied r s) := by
  refine onClaim_amends fun c hc => ?_
  split
  · split
    · exact claimAfresh_amends hc
    · exact putClaim_amends _ s
  all_goals exact .refl s

theorem claimDropped_amends (r : Resource) : Amends s (claimDropped r s) := by
  refine onClaim_amends fun c hc => ?_
  split
  · split
    · exact putClaim_amends _ s
    · exact claimAfresh_amends hc
  all_goals exact .refl s

theorem dropDropped_amends (r : Resource) : Amends s (dropDropped r s) := by
  refine onClaim_amends fun c hc => ?_
  split
  · split
    · exact takeStanding_amends hc _
    · exact handDrop_amends hc
  all_goals exact .refl s

theorem grantedEntry_amends (r : Resource) (d : Bool) : Amends s (grantedEntry r d s) := by
  refine onClaim_amends fun c _ => ?_
  split
  · exact enterHeld_amends c d s
  · exact putClaim_amends _ s
  all_goals exact .refl s

theorem yieldEntry_amends (r : Resource) (d : Bool) : Amends s (yieldEntry r d s) := by
  refine onClaim_amends fun c _ => ?_
  split
  · dsimp only
    split
    · exact (putClaim_amends _ s).trans (postNotice_amends _ _)
    · exact putClaim_amends _ s
  · exact putClaim_amends _ s
  all_goals exact .refl s

theorem postHoldLost_amends (ns : List BindingNo) (r : Resource) (why : LossReason) :
    Amends s (postHoldLost ns r why s) := by
  unfold postHoldLost
  split
  · exact .refl s
  · exact postNotice_amends _ s

theorem removedEntry_amends (r : Resource) : Amends s (removedEntry r s) := by
  refine onClaim_amends fun c _ => ?_
  exact (((putClaim_amends _ s).trans (withdraw_amends _ r)).trans (board_amends _ _ _)).trans
    (postHoldLost_amends _ _ _ _)

theorem freedEntry_amends : Amends s (freedEntry s) := by
  refine foldl_amends fun u hu c hc => ?_
  split
  · exact claimAfresh_amends (hu.resources ▸ List.mem_map_of_mem hc)
  · exact .refl u

theorem takeEntry_amends (e : BatchEntry) : Amends s (takeEntry s e) := by
  cases e with
  | claimOutcome r o st => exact claimOutcome_amends s r o st
  | dropApplied r d => exact dropApplied_amends s r
  | granted r m y k => exact grantedEntry_amends s r _
  | yield r k => exact yieldEntry_amends s r _
  | removed r => exact removedEntry_amends s r
  | freed => exact freedEntry_amends s

theorem takeBatch_amends (es : List BatchEntry) : Amends s (takeBatch es s) :=
  foldl_amends fun u _ e _ => takeEntry_amends u e

theorem takeUpClaims_amends : Amends s (takeUpClaims s) := by
  refine foldl_amends fun u hu c hc => ?_
  split
  · exact claimAfresh_amends (hu.resources ▸ List.mem_map_of_mem hc)
  · exact .refl u

theorem wholesaleLoss_amends (why : LossReason) : Amends s (wholesaleLoss why s) := by
  have hclaims : Amends s (s.withBu
      { s.bu with claims := s.bu.claims.map (·.to .none), latches := Vector.replicate 12 false }) :=
    ⟨by simp [LocalClaim.to], rfl, rfl, rfl, rfl, .refl _ _⟩
  exact hclaims.trans (foldl_amends fun u _ n _ => postHoldLost_amends u _ _ _)

end

/-! ### The station controller and the application of a frame -/

section
variable (s : State)

theorem askExpel_amends (t : Station) (why : ExpelReason) : Amends s (askExpel t why s) :=
  ⟨by simp, by simp, by simp, by simp, by simp, askExpel_amended _ t why s⟩

theorem askSilentExpels_amends (ts : List Station) : Amends s (askSilentExpels ts s) :=
  foldl_amends fun u _ t _ => askExpel_amends u t .silent

theorem memberReport_amends (x : Station) (m : MemberState) : Amends s (memberReport x m s) := by
  cases m with
  | active => exact .refl s
  | joining => exact ⟨rfl, rfl, rfl, rfl, rfl, withdrawWhere_amended _ _ _⟩
  | absent => exact ⟨rfl, rfl, rfl, rfl, rfl, withdrawWhere_amended _ _ _⟩

theorem silenceHeard_amends (x : Station) : Amends s (silenceHeard x s) := by
  unfold silenceHeard
  split
  · exact .of_kept rfl rfl rfl rfl
  · exact .refl s

theorem heardReport_amends (f : Frame) : Amends s (heardReport f s) := by
  unfold heardReport
  split <;> exact .of_kept rfl rfl rfl rfl

theorem checked_amends (own : Bool) (f : Frame) : Amends s (checked own f s) := by
  unfold checked checkFrame referenceCheck countComparison
  dsimp only
  (repeat' split)
  · exact .refl s
  · exact (countUp_amends _ s).trans (askExpel_amends _ _ _)
  · exact countUp_amends _ s
  · exact askExpel_amends s _ _
  · exact .refl s
  · exact countUp_amends _ s
  · exact .refl s
  · exact .refl s

theorem counted_amends (own : Bool) (f : Frame) : Amends s (counted own f s) := by
  have href (u : State) (was : Bool) : Amends u (referenceDerived f was u) := by
    unfold referenceDerived
    dsimp only
    (repeat' split)
    · exact .withTq (amended_arm _ _)
    · exact .withTq (roleLost_amended _ _)
    · exact .refl u
  refine (checked_amends s own f).trans (Amends.trans ?_ (href _ _))
  exact .of_kept (by simp) (by simp) (by simp) (by simp)

theorem applied_amends (own : Bool) (f : Frame) : Amends s (applied own f s) :=
  (counted_amends s own f).trans (takeBatch_amends _ _)

theorem advanceSilence_amends : Amends s (advanceSilence s) := by
  have hsil (v : Vector Silence 16) : Amends s (s.withSilence v) := .of_kept rfl rfl rfl rfl
  unfold advanceSilence
  split
  · dsimp only
    split
    · exact (hsil _).trans (askSilentExpels_amends _ _)
    · exact hsil _
  · exact .refl s

theorem presenceDuty_amends : Amends s (presenceDuty s) := by
  have hsat (u : State) : Amends u (u.withSc { u.sc with satisfied := false }) := .of_kept rfl rfl rfl rfl
  unfold presenceDuty
  dsimp only
  split
  · exact hsat s
  · exact Amends.trans (t := s.withTq s.tq.addPresence) (.withTq (addPresence_amended _ _)) (hsat _)

theorem periodEnds_amends : Amends s (periodEnds s) := by
  unfold periodEnds
  split
  · exact (presenceDuty_amends s).trans (advanceSilence_amends _)
  · exact .refl s

end

end Sys2Proof.Machine
end

section
/-! PROOF. Laws L9 and L10 under every operation that a command starts with (O56). -/

namespace Sys2Proof.Machine

open Sys2Proof.Safety

/-! ### Laws L9 and L10 but for the attempt, and with it -/

/-- Laws L9 and L10 but for the attempt on the wire; the bound of R97 follows from the keys. -/
structure QueueTidy (s : State) : Prop where
  claims : ClaimsLawful s.bu
  keys : (s.tq.entries.map fun e => keyOf e.item).Nodup
  named : ∀ e ∈ s.tq.entries, ∀ r ∈ e.item.resource?, r ∈ s.bu.claims.map (·.resource)
  single : (inFlight s.tq).length ≤ 1

/-- Laws L9 and L10 with the link of the attempt on the wire to the frame in flight. -/
structure QueueSafe (s : State) : Prop extends QueueTidy s where
  link : ∀ a ∈ s.xi.attempt, a.discarded = false → inFlight s.tq = [a.sent]

/-- The keys that the entries of a queue can have, with the claims of a Local Claim Table. -/
def keysOf (b : BindingUnit) : List Key :=
  b.claims.map (fun c => .claimFamily c.resource) ++ allStations.map .expel ++ [.joinOrLeave, .presence]

theorem keyOf_mem_keysOf {b : BindingUnit} {i : Item} (h : ∀ r ∈ i.resource?, r ∈ b.claims.map (·.resource)) :
    keyOf i ∈ keysOf b := by
  cases i with
  | claim r m c y =>
    obtain ⟨d, hd, hr⟩ := List.mem_map.mp (h r rfl)
    exact List.mem_append_left _ (List.mem_append_left _ (List.mem_map.mpr ⟨d, hd, congrArg Key.claimFamily hr⟩))
  | drop r =>
    obtain ⟨d, hd, hr⟩ := List.mem_map.mp (h r rfl)
    exact List.mem_append_left _ (List.mem_append_left _ (List.mem_map.mpr ⟨d, hd, congrArg Key.claimFamily hr⟩))
  | expel t why =>
    exact List.mem_append_left _ (List.mem_append_right _ (List.mem_map_of_mem (List.mem_finRange t)))
  | join | leave | presence => simp [keysOf, keyOf]

/-- R97 from R57, R88, R91 and R92: 12 resources, 16 targets, a JOIN or LEAVE, a PRESENCE. -/
theorem QueueTidy.capacity {s : State} (h : QueueTidy s) : s.tq.entries.length ≤ Config.queueCapacity := by
  obtain ⟨_, hlen, _⟩ := h.claims
  have hsub : (s.tq.entries.map fun e => keyOf e.item) ⊆ keysOf s.bu := fun k hk => by
    obtain ⟨e, he, rfl⟩ := List.mem_map.mp hk
    exact keyOf_mem_keysOf (h.named e he)
  have hle := (List.subperm_of_subset h.keys hsub).length_le
  simp only [List.length_map, keysOf, List.length_append, allStations, List.length_finRange, List.length_cons,
    List.length_nil] at hle
  exact hle.trans (by simp only [Config.queueCapacity]; omega)

theorem queueLawful_iff {s : State} : QueueLawful s ↔ QueueSafe s :=
  ⟨fun ⟨hc, hk, hn, _, h1, ha⟩ => ⟨⟨hc, hk, hn, h1⟩, ha⟩,
    fun h => ⟨h.claims, h.keys, h.named, h.capacity, h.single, h.link⟩⟩

/-! ### Updates that the laws allow -/

/-- Law L10 looks at the resources of the claims and the bindings alone. -/
theorem claimsLawful_congr {b b' : BindingUnit} (h : ClaimsLawful b)
    (hr : b'.claims.map (·.resource) = b.claims.map (·.resource)) (hb : b'.bindings = b.bindings) : ClaimsLawful b' := by
  obtain ⟨hn, hl, hk⟩ := h
  refine ⟨hr ▸ hn, ?_, fun c hc => ?_⟩
  · rw [← List.length_map (f := (·.resource)), hr, List.length_map]
    exact hl
  · have hmem : c.resource ∈ b.claims.map (·.resource) := hr ▸ List.mem_map_of_mem hc
    obtain ⟨d, hd, hdr⟩ := List.mem_map.mp hmem
    rw [← hdr]
    simpa only [BindingUnit.config, hb] using hk d hd

section
variable {s t : State}

theorem QueueTidy.of_amends (h : QueueTidy s) (k : Amends s t) : QueueTidy t where
  claims := claimsLawful_congr h.claims k.resources k.bindings
  keys := k.queue.keys h.keys
  named e he r hr := by
    rw [k.resources]
    rcases k.queue.named e he with hold | hnew
    · exact h.named e hold r hr
    · exact hnew r hr
  single := k.queue.inFlight ▸ h.single

theorem QueueSafe.of_amends (h : QueueSafe s) (k : Amends s t) : QueueSafe t where
  toQueueTidy := h.toQueueTidy.of_amends k
  link a ha hd := by
    rw [k.queue.inFlight]
    exact h.link a (k.attempt ▸ ha) hd

theorem QueueTidy.of_kept (h : QueueTidy s) (hbu : t.bu = s.bu) (htq : t.tq = s.tq) : QueueTidy t :=
  ⟨hbu ▸ h.claims, htq ▸ h.keys, by rw [hbu, htq]; exact h.named, htq ▸ h.single⟩

/-- The attempt may go, be marked discarded or go on to its window. -/
theorem QueueSafe.of_attempt (h : QueueSafe s) (hbu : t.bu = s.bu) (htq : t.tq = s.tq)
    (hx : ∀ a ∈ t.xi.attempt, a.discarded = false → ∃ b ∈ s.xi.attempt, b.discarded = false ∧ b.sent = a.sent) :
    QueueSafe t where
  toQueueTidy := h.toQueueTidy.of_kept hbu htq
  link a ha hd := by
    obtain ⟨b, hb, hbd, hbs⟩ := hx a ha hd
    rw [htq, ← hbs]
    exact h.link b hb hbd

theorem QueueSafe.of_kept (h : QueueSafe s) (hbu : t.bu = s.bu) (htq : t.tq = s.tq) (hxi : t.xi.attempt = s.xi.attempt) :
    QueueSafe t :=
  h.of_attempt hbu htq fun a ha hd => ⟨a, hxi ▸ ha, hd, rfl⟩

/-- With no attempt on the wire there is no link to keep. -/
theorem QueueTidy.safe (h : QueueTidy s) (hx : s.xi.attempt = none) : QueueSafe s where
  toQueueTidy := h
  link a ha := by simp [hx] at ha

theorem QueueSafe.withoutAttempt (h : QueueSafe s) : QueueSafe (s.withXi { s.xi with attempt := none }) :=
  (h.toQueueTidy.of_kept (t := s.withXi { s.xi with attempt := none }) rfl rfl).safe rfl

/-! ### Entries discarded (R85, R93 to R96) -/

/-- Entries are taken out, and no frame comes to be in flight. -/
structure Shrunk (q q' : TransmitQueue) : Prop where
  entries : q'.entries.Sublist q.entries
  inFlight : (inFlight q').Sublist (inFlight q)

/-- Entries are taken out, and the job is clear or as it was. -/
theorem Shrunk.of_entries {q q' : TransmitQueue} (he : q'.entries.Sublist q.entries)
    (hj : q'.job = q.job ∨ q'.job = .clear) : Shrunk q q' := by
  refine ⟨he, ((he.filter _).map _).append ?_⟩
  rcases hj with hj | hj
  · rw [hj]
  · rw [hj]
    exact List.nil_sublist _

theorem Shrunk.trans {q q' q'' : TransmitQueue} (h : Shrunk q q') (k : Shrunk q' q'') : Shrunk q q'' :=
  ⟨k.entries.trans h.entries, k.inFlight.trans h.inFlight⟩

theorem QueueTidy.shrunk (h : QueueTidy s) {q : TransmitQueue} (k : Shrunk s.tq q) : QueueTidy (s.withTq q) where
  claims := h.claims
  keys := h.keys.sublist (k.entries.map _)
  named e he := h.named e (k.entries.subset he)
  single := k.inFlight.length_le.trans h.single

theorem anyInFlight_iff (q : TransmitQueue) : q.anyInFlight = true ↔ inFlight q ≠ [] := by
  have hentries : q.entries.any (·.inFlight) = true ↔ q.entries.filter (·.inFlight) ≠ [] := by
    simp [List.filter_eq_nil_iff]
  simp only [TransmitQueue.anyInFlight, inFlight, Bool.or_eq_true, hentries, ne_eq, List.append_eq_nil_iff,
    List.map_eq_nil_iff, not_and_or]
  refine or_congr_right ?_
  cases q.job with
  | running k n => cases n <;> simp
  | _ => simp

/-- What a discarding leaves of the attempt: it is as it was, or marked where its frame is gone. -/
theorem discardTo_attempt (q : TransmitQueue) (s : State) :
    (discardTo q s).xi =
      if s.tq.anyInFlight && !q.anyInFlight then s.xi.entryDiscarded else s.xi := by
  unfold discardTo
  dsimp only
  split <;> rfl

theorem discarded_of_mem_entryDiscarded {x : ExchangeInterface} {a : Attempt} (h : a ∈ x.entryDiscarded.attempt) :
    a.discarded = true := by
  obtain ⟨b, _, rfl⟩ := Option.map_eq_some_iff.mp h
  rfl

theorem discardTo_queue (h : QueueSafe s) {q : TransmitQueue} (k : Shrunk s.tq q) : QueueSafe (discardTo q s) where
  toQueueTidy := (h.toQueueTidy.shrunk k).of_kept (by simp) (by simp)
  link a ha hd := by
    rw [discardTo_attempt] at ha
    split at ha
    · exact absurd (discarded_of_mem_entryDiscarded ha) (by simp [hd])
    next hl =>
      have hone := h.link a ha hd
      have hany : s.tq.anyInFlight = true := (anyInFlight_iff s.tq).mpr (by simp [hone])
      have hq : inFlight q ≠ [] := (anyInFlight_iff q).mp (by simpa [hany] using hl)
      rw [discardTo_tq]
      have hsub := k.inFlight
      rw [hone] at hsub
      exact (List.sublist_singleton.mp hsub).resolve_left hq

theorem shrunk_empty (q : TransmitQueue) : Shrunk q TransmitQueue.empty := ⟨List.nil_sublist _, List.nil_sublist _⟩

theorem shrunk_purged (q : TransmitQueue) : Shrunk q q.purged := .of_entries List.filter_sublist (.inr rfl)

/-! ### The next frame handed (R86) -/

theorem updateFirst_of_find? {α : Type} {p : α → Bool} {a : α} {as : List α} (f : α → α) (h : as.find? p = some a) :
    ∃ bs cs, as = bs ++ a :: cs ∧ updateFirst p f as = bs ++ f a :: cs := by
  induction as with
  | nil => simp at h
  | cons b bs ih =>
    by_cases hp : p b = true
    · obtain rfl : b = a := by simpa [hp] using h
      exact ⟨[], bs, rfl, by simp [updateFirst, hp]⟩
    · obtain ⟨cs, ds, hbs, hu⟩ := ih (by simpa [hp] using h)
      exact ⟨b :: cs, ds, by rw [hbs, List.cons_append], by simp [updateFirst, hp, hu]⟩

/-- A further attempt of the entry in flight leaves the frames in flight as they are. -/
theorem inFlight_attempt {q : TransmitQueue} {e : Entry} (he : q.entries.find? (·.inFlight) = some e) :
    inFlight { q with entries := updateFirst (·.inFlight) Entry.attempt q.entries } = inFlight q := by
  obtain ⟨bs, cs, hes, hu⟩ := updateFirst_of_find? Entry.attempt he
  have hi : e.inFlight = true := by simpa using List.find?_some he
  simp only [inFlight, hu]
  rw [hes]
  simp [hi, Entry.attempt]

theorem inFlight_of_find? {q : TransmitQueue} (h1 : (inFlight q).length ≤ 1) {e : Entry}
    (he : q.entries.find? (·.inFlight) = some e) : inFlight q = [.entry e.item] := by
  have hmem : Sent.entry e.item ∈ inFlight q :=
    List.mem_append_left _ (List.mem_map.mpr
      ⟨e, List.mem_filter.mpr ⟨List.mem_of_find?_eq_some he, by simpa using List.find?_some he⟩, rfl⟩)
  match hq : inFlight q with
  | [] => simp [hq] at hmem
  | [x] => simpa [hq, eq_comm] using hmem
  | _ :: _ :: _ => simp [hq] at h1

/-- With no entry in flight the first attempt of an UNTAKEN entry puts that entry in flight. -/
theorem filter_inFlight_taken {es : List Entry} (hn : es.filter (·.inFlight) = []) {p : Entry → Bool} {e : Entry}
    (he : es.find? p = some e) : ((updateFirst p Entry.attempt es).filter (·.inFlight)).map (·.item) = [e.item] := by
  obtain ⟨bs, cs, hes, hu⟩ := updateFirst_of_find? Entry.attempt he
  rw [hes, List.filter_append, List.append_eq_nil_iff] at hn
  obtain ⟨hbs, hcs⟩ := hn
  have hcs' : cs.filter (·.inFlight) = [] :=
    List.eq_nil_of_sublist_nil (hcs ▸ (List.sublist_cons_self e cs).filter _)
  rw [hu, List.filter_append, hbs, List.filter_cons_of_pos (by rfl), hcs']
  rfl

/-- What the queue hands is then the one frame in flight. -/
theorem hand_inFlight {q : TransmitQueue} (h1 : (inFlight q).length ≤ 1) {h : Handed} (hh : q.hand.2 = some h) :
    inFlight q.hand.1 = [h.sent] := by
  unfold TransmitQueue.hand at hh ⊢
  split at hh
  next e he =>
    split at hh
    · obtain rfl := Option.some.inj hh
      rw [if_pos ‹_›, inFlight_attempt he, inFlight_of_find? h1 he]
    · exact absurd hh nofun
  next hn =>
    have hf : q.entries.filter (·.inFlight) = [] := List.filter_eq_nil_iff.mpr (List.find?_eq_none.mp hn)
    split at hh
    next k n hj =>
      split at hh
      next hlt =>
        obtain rfl := Option.some.inj hh
        simp [hlt, inFlight, hf]
      · exact absurd hh nofun
    next k hj =>
      obtain rfl := Option.some.inj hh
      simp [inFlight, hf]
    next hj =>
      obtain rfl := Option.some.inj hh
      simp [inFlight, hf]
    next hj =>
      split at hh
      · exact absurd hh nofun
      next e he =>
        obtain rfl := Option.some.inj hh
        have ht := filter_inFlight_taken hf (oldestUntaken_spec he)
        simp only [inFlight, hj, List.append_nil]
        rw [show (fun e : Entry => Sent.entry e.item) = Sent.entry ∘ (·.item) from rfl, ← List.map_map, ht]
        rfl

end

end Sys2Proof.Machine
end

section
/-! PROOF. Laws L9 and L10 under every operation that a command starts with (O56). -/

namespace Sys2Proof.Machine

open Sys2Proof.Safety

section
variable {s : State}

/-! ### The tenure controller -/

theorem askNext_queue (h : QueueSafe s) : QueueSafe (askNext s) := by
  unfold askNext
  dsimp only
  split
  · exact h
  next handed hh =>
    have hone := hand_inFlight h.single hh
    have hitems : itemsOf s.tq.hand.1 = itemsOf s.tq := hand_items s.tq
    have htidy (t : TenureController) : QueueTidy ((s.withTq s.tq.hand.1).withTc t) := by
      refine ⟨h.claims, ?_, fun e he => ?_, by simp [hone]⟩
      · have hk := h.keys
        rw [← Function.comp_def keyOf, ← List.map_map] at hk ⊢
        exact (congrArg (fun is => (is.map keyOf).Nodup) hitems).mpr hk
      · have hmem : e.item ∈ itemsOf s.tq := hitems ▸ List.mem_map_of_mem he
        obtain ⟨e', he', hi⟩ := List.mem_map.mp hmem
        exact hi ▸ h.named e' he'
    have hbegin (u : State) (hu : QueueTidy u) (hf : inFlight u.tq = [handed.sent]) :
        QueueSafe (beginAttempt handed.sent (reportTaken handed u)) := by
      have ha : Amends u (reportTaken handed u) := by
        unfold reportTaken
        (repeat' split)
        · exact takenReport_amends u _
        all_goals exact .refl u
      refine ⟨(hu.of_amends ha).of_kept (by simp) (by simp), ?_⟩
      rintro a ⟨⟩ -
      rw [beginAttempt_keeps _ _ |>.2.2.2.2.2.2.1, ha.queue.inFlight, hf]
    split
    · exact hbegin _ (htidy _) hone
    · exact hbegin _ (htidy s.tc) hone

theorem askStable_queue : AskStable QueueSafe where
  ask _ h := askNext_queue h
  tenure _ _ h := h.of_kept rfl rfl rfl
  pins _ _ h := h.of_kept rfl rfl rfl

/-- The close of a contention asks for a frame at most; the rest of it is the tenure controller's and the line's. -/
theorem AskStable.contentionCloses {P : State → Prop} (hP : AskStable P) (hl : ∀ s l, P s → P (s.withLines l)) (h : P s)
    (o : Option Station) : P (contentionCloses o s) := by
  have hc (u : State) (hu : P u) (won : Bool) : P (contenderCloses won u) := by
    unfold contenderCloses
    dsimp only
    (repeat' split)
    · exact hP.ask _ (hP.tenure _ _ (hP.tenure _ _ hu))
    · exact hP.holdingDecision (hP.tenure _ _ (hP.tenure _ _ hu)) false
    · exact hP.tenure _ _ (hP.tenure _ _ hu)
    · exact hP.tenure _ _ (hP.tenure _ _ hu)
  have hf (u : State) (hu : P u) : P (busBecomesFree u) := by
    unfold busBecomesFree
    dsimp only
    split
    · exact hP.tenure _ _ (hP.tenure _ _ hu)
    all_goals exact hP.tenure _ _ hu
  unfold Machine.contentionCloses
  split
  · split
    · exact hc _ (hl _ _ h) _
    all_goals
      dsimp only
      split
      · exact hP.tenure _ _ (hl _ _ h)
      · exact hf _ (hl _ _ h)
  all_goals exact hl _ _ h

/-! ### The station controller -/

/-- An attempt that outlives the going OFFLINE is reported to no block (R112). -/
theorem placeOffline_attempt {a : Attempt} (h : a ∈ (placeOffline s).xi.attempt) :
    ∃ b ∈ s.xi.attempt, b.discarded = a.discarded ∧ b.sent = a.sent ∧ b.frame = a.frame ∧
      (s.tc.state = .offline ∧ a = b ∨ a.unreported = true) := by
  unfold placeOffline at h
  split at h
  next hoff => exact ⟨a, h, rfl, rfl, rfl, .inl ⟨hoff, rfl⟩⟩
  · simp only [State.withTc_xi, State.withXi_xi, ExchangeInterface.cutAttempt] at h
    split at h
    next hn => simp [hn] at h
    next b hb =>
      split at h
      · simp at h
      · obtain rfl := Option.some.inj h
        exact ⟨b, hb, rfl, rfl, rfl, .inr rfl⟩

/-- What a change of station state leaves of the attempt, before the receiver follows the state. -/
theorem enterState_attempt (st : StationState) (c : Cause) (s : State) :
    (enterState st c s).xi.attempt =
      (let u := if st.queueEmptied then emptyQueue (s.withRe s.re.discardLoad) else s.withRe s.re.discardLoad
       if st.tenureOnline then u else placeOffline u).xi.attempt := by
  unfold enterState
  dsimp only
  simp only [postNotice_keeps, State.withSc_xi, State.withXi_xi, forState_attempt]
  split <;> simp

theorem enterState_queue (h : QueueSafe s) (st : StationState) (c : Cause) : QueueSafe (enterState st c s) := by
  have hq : QueueSafe
      (if st.queueEmptied then emptyQueue (s.withRe s.re.discardLoad) else s.withRe s.re.discardLoad) := by
    have hd : QueueSafe (s.withRe s.re.discardLoad) := h.of_kept rfl rfl rfl
    split
    · exact discardTo_queue hd (shrunk_empty _)
    · exact hd
  refine hq.of_attempt ?_ ?_ fun a ha hd => ?_
  · split <;> simp
  · rw [enterState_tq]
    split <;> simp
  · rw [enterState_attempt] at ha
    dsimp only at ha
    generalize (if st.queueEmptied then emptyQueue (s.withRe s.re.discardLoad) else s.withRe s.re.discardLoad) = u at *
    split at ha
    · exact ⟨a, ha, hd, rfl⟩
    · obtain ⟨b, hb, hbd, hbs, _⟩ := placeOffline_attempt ha
      exact ⟨b, hb, hbd.trans hd, hbs⟩

theorem teardown_queue (h : QueueSafe s) (why : LossReason) : QueueSafe (teardown why s) := by
  have hl := h.of_amends (wholesaleLoss_amends s why)
  exact (discardTo_queue hl (shrunk_purged _)).of_kept rfl rfl rfl

theorem teardownIf_queue (h : QueueSafe s) (why : LossReason) : QueueSafe (teardownIfInTable why s) := by
  unfold teardownIfInTable
  split
  · exact teardown_queue h why
  · exact h

theorem withSc_queue (h : QueueSafe s) (b : StationController) : QueueSafe (s.withSc b) := h.of_kept rfl rfl rfl

theorem withRe_queue (h : QueueSafe s) (e : ReplicaEngine) : QueueSafe (s.withRe e) := h.of_kept rfl rfl rfl

theorem withSilence_queue (h : QueueSafe s) (v : Vector Silence 16) : QueueSafe (s.withSilence v) := h.of_kept rfl rfl rfl

theorem addJoinOrLeave_queue (h : QueueSafe s) {i : Item} (hi : i.isJoinOrLeave = true) :
    QueueSafe (s.withTq (s.tq.addJoinOrLeave i)) := by
  unfold TransmitQueue.addJoinOrLeave
  split
  · exact h
  next hn =>
    have hres : i.resource? = none := by cases i <;> simp_all [Item.isJoinOrLeave, Item.resource?]
    have hfree (f : Entry) (hf : f ∈ s.tq.entries) : keyOf f.item ≠ keyOf i := fun hk => by
      rw [(keyOf_eq_joinOrLeave i).mpr hi, keyOf_eq_joinOrLeave] at hk
      exact hn (List.any_eq_true.mpr ⟨f, hf, hk⟩)
    refine ⟨⟨h.claims, append_keys_of_free h.keys hfree, fun e he => ?_, ?_⟩, fun a ha hd => ?_⟩
    · rcases List.mem_append.mp he with h' | h'
      · exact h.named e h'
      · obtain rfl := List.mem_singleton.mp h'
        simp [Entry.fresh, hres]
    · simpa using h.single
    · simpa using h.link a ha hd

theorem isolate_queue (h : QueueSafe s) (c : Cause) : QueueSafe (isolate c s) := by
  unfold isolate
  split
  · exact enterState_queue (withSc_queue (teardownIf_queue h _) _) _ _
  · exact h

theorem enterFault_queue (h : QueueSafe s) (r : FaultReason) (c : Cause) : QueueSafe (enterFault r c s) :=
  enterState_queue (withSc_queue h _) _ _

theorem twinReport_queue (h : QueueSafe s) : QueueSafe (twinReport s) := by
  unfold twinReport
  split
  · exact enterFault_queue (teardownIf_queue h _) _ _
  · exact h

theorem selfExpelled_queue (h : QueueSafe s) (why : ExpelReason) : QueueSafe (selfExpelled why s) := by
  unfold selfExpelled
  split
  · exact enterState_queue (teardown_queue h _) _ _
  · exact h

theorem foreignReport_queue (h : QueueSafe s) : QueueSafe (foreignReport s) := by
  unfold foreignReport
  split
  · exact enterState_queue (teardown_queue h _) _ _
  · exact h

theorem leaveTable_queue (h : QueueSafe s) : QueueSafe (leaveTable s) :=
  enterState_queue (addJoinOrLeave_queue (teardown_queue h _) rfl) _ _

theorem joinAgain_queue (h : QueueSafe s) (c : Cause) : QueueSafe (joinAgain c s) :=
  enterState_queue (addJoinOrLeave_queue h rfl) _ _

theorem deadlineTakesEffect_queue (h : QueueSafe s) : QueueSafe (deadlineTakesEffect s) := by
  unfold deadlineTakesEffect
  split
  · exact joinAgain_queue h _
  · exact enterState_queue h _ _

theorem loadEnded_queue (h : QueueSafe s) : QueueSafe (loadEnded s) := by
  unfold loadEnded
  split
  · exact deadlineTakesEffect_queue h
  all_goals exact h

theorem completedLoad_queue (h : QueueSafe s) : QueueSafe (completedLoad s) := by
  have he := enterState_queue h .confirming .snapshotLoaded
  unfold completedLoad
  dsimp only
  split
  · exact (withSilence_queue he _).of_amends (.withTq (addPresence_amended _ _))
  all_goals exact joinAgain_queue (teardown_queue (withSilence_queue he _) _) _

theorem takePart_queue (h : QueueSafe s) (count : Half) (p : Part) : QueueSafe (takePart count p s) := by
  unfold takePart
  dsimp only
  split
  · exact withRe_queue h _
  · exact completedLoad_queue (withRe_queue h _)
  · exact loadEnded_queue (withRe_queue h _)

theorem frameWhileAwaiting_queue (h : QueueSafe s) (f : Frame) : QueueSafe (frameWhileAwaiting f s) := by
  unfold frameWhileAwaiting
  split
  · exact takePart_queue h _ _
  all_goals
    unfold frameOutsideRun
    split
    · exact loadEnded_queue (withRe_queue h _)
    · exact h

/-! ### The application of a frame -/

theorem confirmedReport_queue (h : QueueSafe s) : QueueSafe (confirmedReport s) := by
  unfold confirmedReport
  split
  · have he := enterState_queue h .active .confirmed
    exact (he.of_amends (askSilentExpels_amends _ _)).of_amends (takeUpClaims_amends _)
  all_goals exact h

theorem membershipReports_queue (h : QueueSafe s) (me : Station) (before : ReplicaEngine) (x : Effects) :
    QueueSafe (membershipReports me before x s) := by
  unfold membershipReports
  dsimp only
  have hm : QueueSafe
      (match x.member with
      | none => s
      | some (y, m) =>
        if y ≠ me then memberReport y m s
        else if before.members[me] = .joining ∧ m = .active then confirmedReport s
        else s) := by
    (repeat' split)
    · exact h
    · exact h.of_amends (memberReport_amends s _ _)
    · exact confirmedReport_queue h
    · exact h
  split
  · exact hm
  · split
    · exact selfExpelled_queue hm _
    · exact hm

theorem applyFrame_queue (h : QueueSafe s) (own : Bool) (f : Frame) : QueueSafe (applyFrame own f s) := by
  unfold applyFrame
  split
  · split
    · split
      · exact foreignReport_queue h
      · exact h.of_kept (by simp) (by simp) (by simp)
    · rw [applyFully_eq]
      exact membershipReports_queue (h.of_amends (applied_amends s own f)) _ _ _
  · exact h

theorem otherFrameAccepted_queue (h : QueueSafe s) (f : Frame) : QueueSafe (otherFrameAccepted f s) := by
  have hh := h.of_amends (silenceHeard_amends s f.sender)
  unfold otherFrameAccepted
  dsimp only
  split
  · exact withSc_queue hh _
  · exact withSc_queue hh _
  · exact frameWhileAwaiting_queue hh f
  all_goals exact hh

theorem found_queue (h : QueueSafe s) : QueueSafe (found s) := by
  rw [found_eq]
  exact (withSilence_queue (enterState_queue (withRe_queue h _) _ _) _).of_amends (takeUpClaims_amends _)

theorem ownJoinAccepted_queue (h : QueueSafe s) : QueueSafe (ownJoinAccepted s) := by
  unfold ownJoinAccepted
  split
  · split
    · exact enterState_queue h _ _
    · exact found_queue h
  all_goals exact h

theorem leaveEnds_queue (h : QueueSafe s) (c : Cause) : QueueSafe (leaveEnds c s) := by
  unfold leaveEnds
  split
  · exact enterState_queue h _ _
  all_goals exact h

theorem ownFrameAccepted_queue (h : QueueSafe s) (f : Frame) : QueueSafe (ownFrameAccepted f s) := by
  unfold ownFrameAccepted
  dsimp only
  have ha : QueueSafe
      (if s.sc.state == .awaitSnapshot then
        frameWhileAwaiting f (s.withSc { s.sc with satisfied := s.sc.satisfied || s.sc.presenceTimer })
      else s.withSc { s.sc with satisfied := s.sc.satisfied || s.sc.presenceTimer }) := by
    split
    · exact frameWhileAwaiting_queue (withSc_queue h _) f
    · exact withSc_queue h _
  split
  · exact ownJoinAccepted_queue ha
  · exact leaveEnds_queue ha _
  · exact ha.of_amends (postNotice_amends _ _)
  all_goals exact ha

/-! ### The exchange interface -/

theorem signalReject_queue (h : QueueSafe s) : QueueSafe (signalReject s) := by
  unfold signalReject
  dsimp only
  split
  · exact h.of_kept (by simp) (by simp) (by simp)
  · exact isolate_queue (h.of_kept (by simp) (by simp) (by simp)) _

theorem startMark_queue (h : QueueSafe s) : QueueSafe (startMark s) := by
  unfold startMark
  split
  · exact h.of_kept rfl rfl rfl
  · exact h

theorem closingMark_queue (h : QueueSafe s) (bytes : List Byte) : QueueSafe (closingMark bytes s) := by
  unfold closingMark
  split
  · split
    · exact h.of_kept rfl rfl rfl
    · exact signalReject_queue h
  all_goals exact h

theorem truncation_queue (h : QueueSafe s) : QueueSafe (truncation s) := by
  unfold truncation
  split
  · exact h.of_kept rfl rfl rfl
  all_goals exact h

theorem windowCloses_queue (h : QueueSafe s) (rejected : Bool) : QueueSafe (windowCloses rejected s) := by
  unfold windowCloses
  split
  next f _ =>
    have hr : QueueSafe (s.withXi { s.xi with rx := .none, rejectStreak := 0 }) := h.of_kept rfl rfl rfl
    have hh := hr.of_amends (heardReport_amends _ f)
    unfold wholeWindow handOver
    dsimp only
    (repeat' split)
    · exact hh
    · exact twinReport_queue hh
    · exact otherFrameAccepted_queue (applyFrame_queue hh false f) f
  · exact h.of_kept rfl rfl rfl
  all_goals exact h

theorem closingMarkSent_queue (h : QueueSafe s) : QueueSafe (closingMarkSent s) := by
  refine h.of_attempt rfl rfl fun a ha hd => ?_
  obtain ⟨b, hb, rfl⟩ := Option.map_eq_some_iff.mp ha
  refine ⟨b, hb, ?_, ?_⟩ <;> revert hd <;> split <;> simp

/-! ### An own attempt accepted or dropped (R93, R94) -/

theorem shrunk_accepted (q : TransmitQueue) (what : Sent) : Shrunk q (q.accepted what) := by
  have hp (u : TransmitQueue) : Shrunk u { u with entries := removeFirst (Entry.untaken .presence) u.entries } :=
    .of_entries (removeFirst_sublist _ _) (.inl rfl)
  cases what with
  | entry i =>
    exact .trans (q' := { q with entries := removeFirst (·.inFlight) q.entries })
      (.of_entries (removeFirst_sublist _ _) (.inl rfl)) (hp _)
  | part k =>
    refine .trans (q' := q.partAccepted) ?_ (hp _)
    unfold TransmitQueue.partAccepted
    split
    next j n hj =>
      have hnone (q' : TransmitQueue) (he : q'.entries = q.entries)
          (hi : inFlight q' = (q.entries.filter (·.inFlight)).map fun e => .entry e.item) :
          Shrunk q q' := ⟨he ▸ .refl _, hi ▸ List.sublist_append_left _ _⟩
      split
      · exact hnone _ rfl (by simp [inFlight])
      · exact hnone _ rfl (by simp [inFlight])
    all_goals exact .of_entries (.refl _) (.inl rfl)

theorem shrunk_partDropped (q : TransmitQueue) : Shrunk q q.partDropped := by
  unfold TransmitQueue.partDropped
  split
  · split
    · exact .of_entries (.refl _) (.inr rfl)
    · exact ⟨.refl _, by simp [inFlight]⟩
  all_goals exact .of_entries (.refl _) (.inl rfl)

theorem shrunk_beside (q : TransmitQueue) : Shrunk q q.beside := .of_entries List.filter_sublist (.inl rfl)

theorem dropped_queue (h : QueueSafe s) {a : Attempt} (ha : s.xi.attempt = some a) (hd : a.discarded = false) :
    QueueTidy (s.withTq (s.tq.dropped a.sent)) := by
  match hs : a.sent with
  | .part k => exact h.toQueueTidy.shrunk (shrunk_partDropped s.tq)
  | .entry i =>
    have hb := h.toQueueTidy.shrunk (shrunk_beside s.tq)
    have happ (hi : i.resource? = none) : QueueTidy (s.withTq (s.tq.beside.append i)) := by
      obtain ⟨e, he, hf, rfl⟩ := inFlight_entry (queueLawful_iff.mpr h) ha hd hs
      refine ⟨hb.claims, append_keys_of_free hb.keys fun f => beside_keyOf_ne h.keys he hf, fun g hg => ?_, ?_⟩
      · rcases List.mem_append.mp hg with h' | h'
        · exact hb.named g h'
        · obtain rfl := List.mem_singleton.mp h'
          simp [Entry.fresh, hi]
      · simpa using hb.single
    rw [dropped_of_lawful h.single]
    cases i with
    | expel t why => exact happ rfl
    | join => exact happ rfl
    | _ => exact hb

theorem ownAccepted_queue (h : QueueSafe s) (hx : s.xi.attempt = none) (a : Attempt) : QueueSafe (ownAccepted a s) := by
  have hq : QueueSafe (if a.discarded then s else runEnded (s.withTq (s.tq.accepted a.sent))) := by
    split
    · exact h
    · exact QueueTidy.safe ((h.toQueueTidy.shrunk (shrunk_accepted s.tq a.sent)).of_kept (by simp) (by simp))
        (by simpa using hx)
  have ho := ownFrameAccepted_queue (applyFrame_queue hq true a.frame) a.frame
  exact askStable_queue.attemptReport (ho.of_kept (by simp) (by simp) (by simp)) false

theorem reportDropped_queue (h : QueueSafe s) (what : Sent) : QueueSafe (reportDropped what s) := by
  unfold reportDropped
  split
  · exact h.of_amends (claimDropped_amends s _)
  · exact h.of_amends (dropDropped_amends s _)
  · exact h
  · exact h
  · exact leaveEnds_queue h _
  all_goals exact h

theorem advanceDropStreak_queue (h : QueueSafe s) : QueueSafe (advanceDropStreak s) := by
  unfold advanceDropStreak
  split
  · exact h.of_kept rfl rfl rfl
  · exact isolate_queue (h.of_kept (t := s.withXi { s.xi with dropStreak := 0 }) rfl rfl rfl) _

theorem ownWindowCloses_queue (h : QueueSafe s) (rejected : Bool) : QueueSafe (ownWindowCloses rejected s) := by
  have hx := h.withoutAttempt
  unfold ownWindowCloses
  dsimp only
  split
  · exact h
  next a ha =>
    (repeat' split)
    · exact h
    · exact hx
    · exact ownAccepted_queue hx rfl a
    · exact askStable_queue.attemptReport hx _
    · exact askStable_queue.attemptReport hx _
    next hd _ =>
      have hq := QueueTidy.safe
        (s := runEnded ((s.withXi { s.xi with attempt := none }).withTq (s.tq.dropped a.sent)))
        ((dropped_queue h ha (by simpa using hd)).of_kept (by simp) (by simp)) (by simp)
      have hr := (reportDropped_queue hq a.sent).of_amends ((countUp_amends .framesDropped _).trans
        (postNotice_amends (droppedNotice a.sent) _))
      exact askStable_queue.attemptReport (advanceDropStreak_queue hr) _

/-! ### Timers and configuration -/

theorem deadlineExpires_queue (h : QueueSafe s) : QueueSafe (deadlineExpires s) := by
  unfold deadlineExpires
  split
  · split
    · exact withSc_queue h _
    · exact deadlineTakesEffect_queue h
  all_goals exact h

theorem holdOffExpires_queue (h : QueueSafe s) : QueueSafe (holdOffExpires s) := by
  unfold holdOffExpires
  split
  · exact enterState_queue (withSc_queue h _) _ _
  · exact h

theorem configurationFault_queue (h : QueueSafe s) (r : FaultReason) (c : Cause) (d : FaultDetail) :
    QueueSafe (configurationFault r c d s) := by
  have hl (l : ConfigLoader) : QueueSafe (s.withCl l) := h.of_kept rfl rfl rfl
  exact enterFault_queue (hl _) _ _

end

/-! ### The Local Claim Table built (R53, R57) -/

/-- The local claim of a resource in a fresh table. -/
def freshClaim (bs : Vector BindingConfig 12) (r : Resource) : Option LocalClaim :=
  match enabledOn bs r with
  | [] => none
  | n :: ns =>
    some
      { resource := r, mode := bs[n].mode, cls := bs[n].cls, yieldable := bs[n].yieldable, bindings := n :: ns
        state := .none, cancel := false, reclaim := false, yieldSeen := false }

theorem localClaims_eq (bs : Vector BindingConfig 12) : localClaims bs = allResources.filterMap (freshClaim bs) := by
  unfold localClaims freshClaim
  rfl

theorem mem_enabledOn {bs : Vector BindingConfig 12} {r : Resource} {n : BindingNo} :
    n ∈ enabledOn bs r ↔ bs[n].enabled = true ∧ bs[n].resource = r := by
  simp [enabledOn, allBindings]

/-- A claim of a fresh table is in NONE and stands on the enabled bindings of its resource. -/
theorem freshClaim_spec {bs : Vector BindingConfig 12} {r : Resource} {c : LocalClaim} (h : freshClaim bs r = some c) :
    c.resource = r ∧ c.state = .none ∧ ∃ n, c.bindings.head? = some n ∧ bs[n].enabled = true ∧ bs[n].resource = r := by
  unfold freshClaim at h
  split at h
  · simp at h
  next n ns hn =>
    obtain rfl := Option.some.inj h
    exact ⟨rfl, rfl, n, rfl, mem_enabledOn.mp (hn ▸ List.mem_cons_self)⟩

theorem mem_localClaims {bs : Vector BindingConfig 12} {c : LocalClaim} (h : c ∈ localClaims bs) :
    c.state = .none ∧ ∃ n, c.bindings.head? = some n ∧ bs[n].enabled = true ∧ bs[n].resource = c.resource := by
  obtain ⟨r, _, hr⟩ := List.mem_filterMap.mp (localClaims_eq bs ▸ h)
  obtain ⟨rfl, hst, hn⟩ := freshClaim_spec hr
  exact ⟨hst, hn⟩

theorem localClaims_resources_nodup (bs : Vector BindingConfig 12) : ((localClaims bs).map (·.resource)).Nodup := by
  rw [localClaims_eq, List.map_filterMap]
  refine List.Nodup.filterMap (fun r r' k hr hr' => ?_) (List.nodup_finRange 64)
  obtain ⟨c, hc, rfl⟩ := Option.map_eq_some_iff.mp hr
  obtain ⟨d, hd, hdc⟩ := Option.map_eq_some_iff.mp hr'
  rw [← (freshClaim_spec hc).1, ← (freshClaim_spec hd).1, hdc]

/-- Law L10 of a fresh table: each claim has a binding of its own at its head, so there are at most 12 (R57). -/
theorem localClaims_lawful (b : BindingUnit) (bs : Vector BindingConfig 12) : ClaimsLawful (b.freeze bs) := by
  have hnodup := localClaims_resources_nodup bs
  refine ⟨hnodup, ?_, fun c hc => ?_⟩
  · have hheads : ((localClaims bs).map (·.bindings.head?)).Nodup := by
      refine List.Nodup.map_on (fun c hc d hd hh => ?_) (.of_map _ hnodup)
      obtain ⟨_, n, hn, _, hcr⟩ := mem_localClaims hc
      obtain ⟨_, m, hm, _, hdr⟩ := mem_localClaims hd
      obtain rfl : n = m := Option.some.inj (hn.symm.trans (hh.trans hm))
      exact List.inj_on_of_nodup_map hnodup hc hd (hcr.symm.trans hdr)
    have hsub : (localClaims bs).map (·.bindings.head?) ⊆ allBindings.map some := fun o ho => by
      obtain ⟨c, hc, rfl⟩ := List.mem_map.mp ho
      obtain ⟨_, n, hn, _⟩ := mem_localClaims hc
      exact hn ▸ List.mem_map_of_mem (List.mem_finRange n)
    simpa [allBindings, BindingUnit.freeze] using (List.subperm_of_subset hheads hsub).length_le
  · obtain ⟨_, n, _, he, hr⟩ := mem_localClaims hc
    exact ⟨n, bs[n], rfl, he, hr⟩

section
variable {s : State}

/-- An attempt that outlives the emptying of the queue is marked. -/
theorem emptyQueue_attempt (h : QueueSafe s) {a : Attempt} (ha : a ∈ (emptyQueue s).xi.attempt) : a.discarded = true := by
  rw [emptyQueue, discardTo_attempt] at ha
  split at ha
  · exact discarded_of_mem_entryDiscarded ha
  next hl =>
    by_contra hd
    have hone := h.link a ha (by simpa using hd)
    rw [(anyInFlight_iff s.tq).mpr (by simp [hone])] at hl
    exact hl rfl

theorem freeze_queue (h : QueueSafe s) (img : Vector Byte 30) : QueueSafe (freeze img s) := by
  have hk (u : State) (hxi : u.xi = s.xi) (hqu : u.tq = s.tq) :
      QueueSafe (enterState .listening .configured (u.withBu (u.bu.freeze (bindingsOf img)))) := by
    have htq : (enterState .listening .configured (u.withBu (u.bu.freeze (bindingsOf img)))).tq = TransmitQueue.empty := by
      rw [enterState_tq]
      rfl
    refine ⟨⟨?_, ?_, ?_, ?_⟩, fun a ha hd => ?_⟩
    · simpa using localClaims_lawful u.bu (bindingsOf img)
    · rw [htq]
      exact .nil
    · rw [htq]
      exact nofun
    · rw [htq]
      exact Nat.zero_le 1
    · rw [enterState_attempt] at ha
      have ha : a ∈ (emptyQueue s).xi.attempt := by
        rw [emptyQueue, discardTo_attempt, ← hxi, ← hqu]
        simpa [StationState.queueEmptied, StationState.tenureOnline, emptyQueue, discardTo_attempt] using ha
      simp [emptyQueue_attempt h ha] at hd
  exact hk _ rfl rfl

theorem takeImage_queue (h : QueueSafe s) (img : Vector Byte 30) : QueueSafe (takeImage img s) := by
  unfold takeImage
  split
  · exact freeze_queue h img
  · exact configurationFault_queue h _ _ _
  · exact configurationFault_queue h _ _ _

theorem memoryAnswered_queue (h : QueueSafe s) (img : Vector Byte 30) : QueueSafe (memoryAnswered img s) := by
  unfold memoryAnswered
  split
  · exact takeImage_queue h img
  all_goals exact h

theorem memoryNotAnswered_queue (h : QueueSafe s) : QueueSafe (memoryNotAnswered s) := by
  have he : QueueSafe (endFailedRead s) := h.of_kept rfl rfl rfl
  unfold memoryNotAnswered
  split
  · dsimp only
    split
    · exact he
    · exact configurationFault_queue he _ _ _
  all_goals exact h

theorem releaseReset_queue (h : QueueSafe s) (sid : Station) (cfgsrc : Bool) : QueueSafe (releaseReset sid cfgsrc s) := by
  have hl (l : ConfigLoader) : QueueSafe ((s.withXi { s.xi with number := some sid }).withCl l) := h.of_kept rfl rfl rfl
  unfold releaseReset
  split
  · dsimp only
    split
    · exact enterState_queue (hl _) _ _
    · exact enterState_queue (hl _) _ _
  all_goals exact h

/-! ### Every step (O56) -/

theorem leadsTo_queue (h : QueueSafe s) : LeadsTo QueueSafe s where
  stay := h
  atEnd _ hu := askStable_queue.settle hu
  port _ _ hu := hu.of_kept rfl rfl rfl
  reset _ := ⟨⟨⟨.nil, by simp [BindingUnit.reset], nofun⟩, .nil, nofun, by simp [inFlight, TransmitQueue.empty]⟩, nofun⟩
  release := releaseReset_queue h
  rise n := h.of_amends (lineRise_amends s n)
  fall n := h.of_amends (lineFall_amends s n)
  latch n := h.of_amends (clearLatch_amends s n)
  marked := startMark_queue h
  closed := closingMark_queue h
  truncated := truncation_queue h
  window := windowCloses_queue h
  sent := closingMarkSent_queue h
  ownWindow := ownWindowCloses_queue h
  xtenOn := h.of_kept (by simp) (by simp) (by simp)
  contention := askStable_queue.contentionCloses (fun _ _ hu => hu.of_kept rfl rfl rfl) h
  xtenOff := h.of_kept (by simp) (by simp) (by simp)
  quiet := h.of_kept (by simp) (by simp) (by simp)
  xwantOn := h.of_kept (by simp) (by simp) (by simp)
  xwantOff := h.of_kept (by simp) (by simp) (by simp)
  listened := by
    unfold listenEnds
    split
    · exact joinAgain_queue h _
    · exact h
  deadline := deadlineExpires_queue h
  holdOff := holdOffExpires_queue h
  period := h.of_amends (periodEnds_amends s)
  answered := memoryAnswered_queue h
  notAnswered := memoryNotAnswered_queue h
  written _ := h.of_kept rfl rfl rfl
  started _ := takeImage_queue h _
  left _ := leaveTable_queue h
  rejoined _ := enterState_queue h _ _

/-- Settles O56: each operation a command starts with keeps the laws of the queue, and so does the end of the event. -/
theorem stepsKeepTheQueue : Obligations.StepsKeepTheQueue :=
  fun _ _ hs ht =>
    queueLawful_iff.mpr (LeadsTo.step (queueLawful_iff.mp hs)
      (fun _ => leadsTo_queue ((queueLawful_iff.mp hs).of_kept rfl rfl rfl)) ht)

end

end Sys2Proof.Machine
end

section
/-! PROOF. What backs a hold (law L8): the holders that the effects of a frame keep, and the local claims in WAITING and HELD
under the operations of the binding unit. -/

namespace Sys2Proof.Machine

open Sys2Proof.Safety

/-! ### The holders that an effect keeps (R4, R14, R17) -/

theorem holds_of_holder {r k : Record} {x : Station} (hr : r.holds x = true)
    (h : ∀ y ∈ r.holding.holders, y.station = x → y ∈ k.holding.holders) : k.holds x = true := by
  obtain ⟨y, hy, hyx⟩ := List.any_eq_true.mp hr
  exact List.any_eq_true.mpr ⟨y, h y hy (by simpa using hyx), hyx⟩

theorem grantPass_holds {r : Record} {x : Station} (h : r.holds x = true) : r.grantPass.holds x = true :=
  holds_of_holder h fun _ hy _ => mem_grantHeads_holders hy

theorem takeOut_holds {r : Record} {x y : Station} (h : r.holds x = true) (hne : y ≠ x) :
    (r.takeOut y).holds x = true := by
  refine grantPass_holds (r := r.without y) (holds_of_holder h fun z hz hzx => ?_)
  have hzy : z.station ≠ y := fun k => hne (k.symm.trans hzx)
  cases hh : r.holding with
  | free => simp [hh, Holding.holders] at hz
  | exclusive w =>
    obtain rfl : z = w := by simpa [hh, Holding.holders] using hz
    simpa [Record.without, hh, Holding.remove, hzy] using hz
  | shared ws =>
    have hmem : z ∈ ws.filter fun w => w.station != y :=
      List.mem_filter.mpr ⟨by rwa [hh] at hz, by simpa using hzy⟩
    simp only [hh, Holding.remove]
    split
    next hnil => simp [hnil] at hmem
    next => exact hmem

theorem claim_holds {e : ReplicaEngine} {r : Resource} {m : Station} (h : e.records[r].holds m = true) (x : Station)
    (r' : Resource) (md : Mode) (c : ClaimClass) (y : Bool) : (e.claim x r' md c y).1.records[r].holds m = true := by
  by_cases hne : r = r'
  · subst hne
    unfold ReplicaEngine.claim
    dsimp only
    split
    · exact h
    · split
      next hg =>
        refine (congrArg (Record.holds · m) (set_getElem_self _ _ _)).trans (grantPass_holds (holds_of_holder h ?_))
        exact fun z hz _ => (add_holders_perm _ _ _ (compatible_of_grantsAtOnce hg)).mem_iff.mpr (List.mem_cons_of_mem _ hz)
      · split
        · exact h
        · exact (congrArg (Record.holds · m) (set_getElem_self _ _ _)).trans
            (grantPass_holds (holds_of_holder h fun z hz _ => hz))
  · rw [claim_records_of_ne e x md c y hne]
    exact h

theorem drop_holds {e : ReplicaEngine} {r r' : Resource} {m x : Station} (h : e.records[r].holds m = true)
    (hne : x = m → r' ≠ r) : (e.drop x r').1.records[r].holds m = true := by
  by_cases hr : r = r'
  · subst hr
    rw [drop_records, set_getElem_self]
    split
    · exact takeOut_holds h fun hx => hne hx rfl
    · exact h
  · rwa [drop_records_of_ne e x hr]

/-- The frames whose effects may end a hold of station m on resource r: its own DROP of r, its own JOIN or LEAVE, and an
EXPEL of it. -/
def Spares (f : Frame) (m : Station) (r : Resource) : Prop :=
  match f.body with
  | .drop b => f.sender = m → b.toNat ≠ r.val
  | .expel t _ => t ≠ m
  | .join | .leave => f.sender ≠ m
  | .claim _ _ _ _ | .presence _ _ | .snapshot _ => True

theorem removal_holds {e : ReplicaEngine} {m x : Station} {r : Resource} (h : e.records[r].holds m = true) (hx : x ≠ m)
    (st : MemberState) : (removal e x st).replica.records[r].holds m = true := by
  rw [(removal_takesOut e x st).records r]
  exact takeOut_holds h hx

theorem effectsOf_holds {e : ReplicaEngine} {f : Frame} {m : Station} {r : Resource} (h : e.records[r].holds m = true)
    (hs : Spares f m r) : (effectsOf e f).replica.records[r].holds m = true := by
  unfold Spares at hs
  cases hb : f.body with
  | claim r' md c y =>
    simp only [effectsOf, hb, claimEffects]
    split
    · exact claim_holds h _ _ _ _ _
    · exact h
  | drop b =>
    simp only [hb] at hs
    simp only [effectsOf, hb, dropEffects]
    split
    · split
      next hlt =>
        exact drop_holds (r' := ⟨b.toNat, hlt⟩) h fun hx hr => hs hx (congrArg Fin.val hr)
      · exact h
    · exact h
  | presence synced d =>
    simp only [effectsOf, hb, presenceEffects]
    split <;> exact h
  | expel t why =>
    simp only [hb] at hs
    simp only [effectsOf, hb, expelEffects]
    split
    · exact removal_holds h hs _
    · exact h
  | join =>
    simp only [hb] at hs
    simp only [effectsOf, hb, joinEffects]
    split
    · exact h
    · exact removal_holds h hs _
  | leave =>
    simp only [hb] at hs
    simp only [effectsOf, hb, leaveEffects]
    split
    · exact h
    · exact removal_holds h hs _
  | snapshot p =>
    rw [show (effectsOf e f).replica = e by simp only [effectsOf, hb, Effects.none]]
    exact h

/-! ### Local claims in WAITING and HELD -/

/-- What stands behind a local claim in WAITING or HELD: no entry for its resource is in the queue, and for one in HELD the
replica shows this station as a holder. -/
def BackedIn (s : State) (c : LocalClaim) : Prop :=
  (c.state = .waiting ∨ c.state = .held → s.tq.entryFor c.resource = none) ∧
  (c.state = .held → s.re.valid = true ∧ s.re.records[c.resource].holds s.me = true)

/-- Each local claim is backed. -/
def HoldsBacked (s : State) : Prop := ∀ c ∈ s.bu.claims, BackedIn s c

/-- A state of a local claim behind which nothing has to stand. -/
def ClaimState.idle (st : ClaimState) : Prop := st ≠ .waiting ∧ st ≠ .held

section
variable {s t : State} {c : LocalClaim}

theorem backedIn_of_idle (h : c.state.idle) : BackedIn s c :=
  ⟨fun k => absurd k (not_or.mpr h), fun k => absurd k h.2⟩

theorem idle_none (c : LocalClaim) : (c.to .none).state.idle := ⟨nofun, nofun⟩

theorem holdsBacked_of_idle (h : ∀ c ∈ s.bu.claims, c.state.idle) : HoldsBacked s :=
  fun c hc => backedIn_of_idle (h c hc)

/-- No entry is added for a resource that has none, and the replica stands as it was. -/
theorem HoldsBacked.of_entries (h : HoldsBacked s) (hc : t.bu.claims = s.bu.claims)
    (hq : ∀ r, s.tq.entryFor r = none → t.tq.entryFor r = none) (hv : t.re.valid = s.re.valid)
    (hr : t.re.records = s.re.records) (hn : t.xi.number = s.xi.number) : HoldsBacked t := by
  intro c hcm
  obtain ⟨hnone, hheld⟩ := h c (hc ▸ hcm)
  refine ⟨fun k => hq _ (hnone k), fun k => ?_⟩
  rw [hv, hr, State.me, hn]
  exact hheld k

theorem HoldsBacked.of_kept (h : HoldsBacked s) (hc : t.bu.claims = s.bu.claims) (hq : t.tq = s.tq) (hr : t.re = s.re)
    (hn : t.xi.number = s.xi.number) : HoldsBacked t :=
  h.of_entries hc (fun r hn => hq ▸ hn) (by rw [hr]) (by rw [hr]) hn

theorem entryFor_none_of_subset {q q' : TransmitQueue} (h : q'.entries ⊆ q.entries) {r : Resource}
    (hn : q.entryFor r = none) : q'.entryFor r = none :=
  List.find?_eq_none.mpr fun e he => List.find?_eq_none.mp hn e (h he)

theorem addDrop_entryFor_of_ne {q : TransmitQueue} {r r' : Resource} (h : q.entryFor r = none) (hr : r' ≠ r) :
    (q.addDrop r').1.entryFor r = none := by
  unfold TransmitQueue.addDrop
  (repeat' split)
  · exact entryFor_append_of_ne h (by simpa [Item.resource?] using hr)
  · exact h
  · exact entryFor_none_of_subset (fun e he => mem_of_mem_removeFirst he) h
  · exact h

theorem putClaim_holds (h : HoldsBacked s) (hc : BackedIn s c) : HoldsBacked (putClaim c s) := by
  intro d hd
  obtain ⟨e, he, rfl⟩ := List.mem_map.mp hd
  split
  · exact hc
  · exact h e he

theorem putIdle_holds (h : HoldsBacked s) (hc : c.state.idle) : HoldsBacked (putClaim c s) :=
  putClaim_holds h (backedIn_of_idle hc)

/-- A CLAIM may be handed for a resource whose local claim is idle. -/
theorem handClaim_holds (h : HoldsBacked s) (hc : ∀ d ∈ s.bu.claims, d.resource = c.resource → d.state.idle) :
    HoldsBacked (handClaim c s) := by
  intro d hd
  by_cases hr : d.resource = c.resource
  · exact backedIn_of_idle (hc d hd hr)
  · exact ⟨fun k => addClaim_entryFor_of_ne ((h d hd).1 k) (Ne.symm hr) _ _ _, (h d hd).2⟩

/-- A DROP may be handed for a resource whose local claim is idle. -/
theorem handDrop_holds (h : HoldsBacked s) (hc : ∀ d ∈ s.bu.claims, d.resource = c.resource → d.state.idle) :
    HoldsBacked (handDrop c s) := by
  intro d hd
  by_cases hr : d.resource = c.resource
  · exact backedIn_of_idle (hc d hd hr)
  · exact ⟨fun k => addDrop_entryFor_of_ne ((h d hd).1 k) (Ne.symm hr), (h d hd).2⟩

theorem idle_of_put (hc : c.state.idle) {d : LocalClaim} (hd : d ∈ (putClaim c s).bu.claims)
    (hr : d.resource = c.resource) : d.state.idle :=
  (mem_putClaim s hd hr) ▸ hc

theorem claimAfresh_holds (h : HoldsBacked s) (c : LocalClaim) : HoldsBacked (claimAfresh c s) := by
  have hi : (c.to .queued).state.idle := ⟨nofun, nofun⟩
  exact handClaim_holds (putIdle_holds h hi) fun _ hd hr => idle_of_put hi hd hr

theorem enterDropping_holds (h : HoldsBacked s) (c : LocalClaim) (d : Bool) : HoldsBacked (enterDropping c d s) := by
  have hi : ({ c.to .dropping with yieldSeen := d } : LocalClaim).state.idle := ⟨nofun, nofun⟩
  exact handDrop_holds (putIdle_holds h hi) fun _ hd hr => idle_of_put hi hd hr

theorem postNotice_holds (h : HoldsBacked s) (n : Notice) : HoldsBacked (postNotice n s) := h.of_kept rfl rfl rfl rfl

/-- A resource that this station holds in a valid replica. -/
def HeldBy (s : State) (r : Resource) : Prop := s.re.valid = true ∧ s.re.records[r].holds s.me = true

theorem enterHeld_holds (h : HoldsBacked s) (hn : s.tq.entryFor c.resource = none) (hh : HeldBy s c.resource) (d : Bool) :
    HoldsBacked (enterHeld c d s) := by
  have hput : HoldsBacked (putClaim { c.to .held with yieldSeen := d } s) :=
    putClaim_holds h ⟨fun _ => hn, fun _ => hh⟩
  unfold enterHeld
  dsimp only
  split
  · exact postNotice_holds hput _
  · exact hput

/-- A standing that reports a hold reports one that the replica shows. -/
def StandingBacked (s : State) (r : Resource) (st : Standing) : Prop :=
  ∀ m y d, st = .holder m y d → HeldBy s r

theorem takeStanding_holds (h : HoldsBacked s) (hn : s.tq.entryFor c.resource = none) {st : Standing}
    (hst : StandingBacked s c.resource st) : HoldsBacked (takeStanding c st s) := by
  cases st with
  | holder m y d => exact enterHeld_holds h hn (hst m y d rfl) d
  | waiter => exact putClaim_holds h ⟨fun _ => hn, nofun⟩
  | neither => exact claimAfresh_holds h c

theorem holds_of_standing {k : Record} {x : Station} {m : Mode} {y d : Bool} (h : k.standing x = .holder m y d) :
    k.holds x = true := by
  rw [← holderOf_isSome]
  unfold Record.standing at h
  split at h
  next hk => simp [hk]
  next => split at h <;> exact absurd h nofun

theorem query_backed (s : State) (r : Resource) : StandingBacked s r (s.re.query s.me r).standing := by
  intro m y d hst
  unfold ReplicaEngine.query at hst
  split at hst
  next hv => exact ⟨hv, holds_of_standing hst⟩
  next => exact absurd hst nofun

/-- After a withdrawal that took the entry out there is none for the resource. -/
theorem withdraw_entryFor {q : TransmitQueue} (hk : (q.entries.map fun e => keyOf e.item).Nodup) {r : Resource}
    (h : (q.withdraw r).2 = .withdrawn) : (q.withdraw r).1.entryFor r = none := by
  match he : q.entryFor r with
  | none => simp [TransmitQueue.withdraw, TransmitQueue.withdrawWhere, show q.entries.find? (Entry.isFor r) = none from he] at h
  | some e =>
    cases hi : e.inFlight with
    | false =>
      rw [withdraw_of_untaken hk he hi]
      exact entryFor_without q r
    | true =>
      rcases withdraw_of_not_untaken (q := q) (r := r) (by simpa [he] using hi) with hw | hw <;> simp [hw] at h

theorem withdrawWhere_subset (q : TransmitQueue) (p : Entry → Bool) : (q.withdrawWhere p).1.entries ⊆ q.entries := by
  unfold TransmitQueue.withdrawWhere
  (repeat' split)
  · exact fun _ => id
  · exact fun _ => id
  · exact fun _ he => mem_of_mem_removeFirst he

theorem withdraw_holds (h : HoldsBacked s) (p : Entry → Bool) : HoldsBacked (s.withTq (s.tq.withdrawWhere p).1) :=
  h.of_entries rfl (fun _ => entryFor_none_of_subset (withdrawWhere_subset _ _)) rfl rfl rfl

/-- The one local claim of a resource (R57). -/
theorem claim_unique (hq : QueueSafe s) {d : LocalClaim} (hc : c ∈ s.bu.claims) (hd : d ∈ s.bu.claims)
    (hr : d.resource = c.resource) : d = c := by
  obtain ⟨hn, _⟩ := hq.claims
  exact List.inj_on_of_nodup_map hn hd hc hr

/-! ### Demand events and reports -/

theorem demandRise_holds (h : HoldsBacked s) (hq : QueueSafe s) : HoldsBacked (demandRise c s) := by
  unfold demandRise
  split
  · exact claimAfresh_holds h c
  next hs => exact putIdle_holds h ⟨by simp [hs], by simp [hs]⟩
  next hs =>
    have hi : ({ c with reclaim := true } : LocalClaim).state.idle := ⟨by simp [hs], by simp [hs]⟩
    split
    · exact h
    · dsimp only
      split
      next hw =>
        exact takeStanding_holds (withdraw_holds h _) (withdraw_entryFor hq.keys hw)
          (query_backed (s.withTq (s.tq.withdraw c.resource).1) c.resource)
      · exact putIdle_holds h hi
      · exact putIdle_holds h hi
  all_goals exact h

theorem demandFall_holds (h : HoldsBacked s) (hq : QueueSafe s) (hc : c ∈ s.bu.claims) : HoldsBacked (demandFall c s) := by
  have hnone := idle_none c
  unfold demandFall
  split
  · exact h
  next hs =>
    dsimp only
    split
    · exact handDrop_holds (c := c) (s := putClaim (c.to .none) s) (putIdle_holds h hnone)
        fun _ hd hr => idle_of_put hnone hd hr
    · exact putIdle_holds h ⟨nofun, nofun⟩
    · exact h
    · exact handDrop_holds h fun d hd hr => by
        rw [claim_unique hq hc hd hr]
        exact ⟨by simp [hs], by simp [hs]⟩
  next hs => exact putIdle_holds h ⟨by simp [hs], by simp [hs]⟩
  · exact enterDropping_holds h c _
  · exact enterDropping_holds h c _
  next hs => exact putIdle_holds h ⟨by simp [hs], by simp [hs]⟩
  · exact putIdle_holds h hnone

theorem onClaim_holds {r : Resource} {f : LocalClaim → State → State} (h : HoldsBacked s)
    (hf : ∀ c ∈ s.bu.claims, c.resource = r → HoldsBacked (f c s)) : HoldsBacked (onClaim r f s) := by
  unfold onClaim
  split
  · exact h
  next c hc => exact hf c (claimFor_mem hc) (claimFor_resource hc)

theorem changeRequest_holds (h : HoldsBacked s) (hq : QueueSafe s) (n : BindingNo) {f : BindingUnit → BindingUnit}
    (hf : ∀ b, (f b).claims = b.claims ∧ (f b).bindings = b.bindings) : HoldsBacked (changeRequest n f s) := by
  obtain ⟨hcs, hbs⟩ := hf s.bu
  have hb : HoldsBacked (s.withBu (f s.bu)) := h.of_kept hcs rfl rfl rfl
  have hbq : QueueSafe (s.withBu (f s.bu)) := hq.of_amends ⟨by simp [hcs], by simp [hbs], rfl, rfl, rfl, .refl _ _⟩
  unfold changeRequest
  dsimp only
  split
  · exact hb
  · split
    · refine onClaim_holds hb fun c hc _ => ?_
      split
      · exact demandRise_holds hb hbq
      · exact demandFall_holds hb hbq hc
      · exact hb
      · exact hb
    · exact hb

theorem takenReport_holds (h : HoldsBacked s) (r : Resource) : HoldsBacked (takenReport r s) := by
  refine onClaim_holds h fun c _ _ => ?_
  split
  · exact putIdle_holds h ⟨nofun, nofun⟩
  all_goals exact h

theorem claimOutcome_holds (h : HoldsBacked s) {r : Resource} (hn : s.tq.entryFor r = none) (o : ClaimOutcome)
    {st : Standing} (hst : StandingBacked s r st) : HoldsBacked (claimOutcome r o st s) := by
  unfold claimOutcome
  refine onClaim_holds h fun c _ hr => ?_
  subst hr
  split
  · split
    · split
      · exact enterDropping_holds h c _
      · exact takeStanding_holds h hn hst
    · split
      · exact enterDropping_holds h c _
      · exact takeStanding_holds h hn hst
    · split
      · exact enterDropping_holds h c _
      · exact putClaim_holds h ⟨fun _ => hn, nofun⟩
    · split
      · exact putIdle_holds h (idle_none c)
      · exact postNotice_holds (putIdle_holds (c := c.to .refused) h ⟨nofun, nofun⟩) _
  all_goals exact h

theorem dropApplied_holds (h : HoldsBacked s) (r : Resource) : HoldsBacked (dropApplied r s) := by
  refine onClaim_holds h fun c _ _ => ?_
  split
  · split
    · exact claimAfresh_holds h c
    · exact putIdle_holds h ⟨nofun, nofun⟩
  all_goals exact h

theorem claimDropped_holds (h : HoldsBacked s) (r : Resource) : HoldsBacked (claimDropped r s) := by
  refine onClaim_holds h fun c _ _ => ?_
  split
  · split
    · exact putIdle_holds h ⟨nofun, nofun⟩
    · exact claimAfresh_holds h c
  all_goals exact h

theorem dropDropped_holds (h : HoldsBacked s) (hq : QueueSafe s) {r : Resource} (hn : s.tq.entryFor r = none) :
    HoldsBacked (dropDropped r s) := by
  refine onClaim_holds h fun c hc hr => ?_
  subst hr
  split
  next hs =>
    split
    · exact takeStanding_holds h hn (query_backed s _)
    · exact handDrop_holds h fun d hd hr => by
        rw [claim_unique hq hc hd hr]
        exact ⟨by simp [hs], by simp [hs]⟩
  all_goals exact h

/-! ### The batch (R50, R82) -/

theorem grantedEntry_holds (h : HoldsBacked s) {r : Resource} (hh : HeldBy s r) (d : Bool) :
    HoldsBacked (grantedEntry r d s) := by
  refine onClaim_holds h fun c hc hr => ?_
  subst hr
  split
  next hs => exact enterHeld_holds h ((h c hc).1 (.inl hs)) hh d
  next hs => exact putIdle_holds h ⟨by simp [hs], by simp [hs]⟩
  all_goals exact h

theorem yieldEntry_holds (h : HoldsBacked s) (r : Resource) (d : Bool) : HoldsBacked (yieldEntry r d s) := by
  refine onClaim_holds h fun c hc _ => ?_
  split
  · have hput : HoldsBacked (putClaim { c with yieldSeen := d } s) := putClaim_holds h (h c hc)
    dsimp only
    split
    · exact postNotice_holds hput _
    · exact hput
  next hs => exact putIdle_holds h ⟨by simp [hs], by simp [hs]⟩
  all_goals exact h

theorem postHoldLost_holds (h : HoldsBacked s) (ns : List BindingNo) (r : Resource) (why : LossReason) :
    HoldsBacked (postHoldLost ns r why s) := by
  unfold postHoldLost
  split
  · exact h
  · exact postNotice_holds h _

theorem removedEntry_holds (h : HoldsBacked s) (r : Resource) : HoldsBacked (removedEntry r s) := by
  refine onClaim_holds h fun c _ _ => ?_
  have hw : HoldsBacked ((putClaim (c.to .none) s).withTq ((putClaim (c.to .none) s).tq.withdraw r).1) :=
    withdraw_holds (putIdle_holds h (idle_none c)) _
  have hl (b : BindingUnit) (hb : b.claims = (putClaim (c.to .none) s).bu.claims) :
      HoldsBacked (((putClaim (c.to .none) s).withTq ((putClaim (c.to .none) s).tq.withdraw r).1).withBu b) :=
    hw.of_kept hb rfl rfl rfl
  exact postHoldLost_holds (hl ((putClaim (c.to .none) s).bu.clearLatches c.bindings) rfl) _ _ _

theorem foldl_holds {α : Type} {f : State → α → State} (hf : ∀ u a, HoldsBacked u → HoldsBacked (f u a)) (as : List α)
    (h : HoldsBacked s) : HoldsBacked (as.foldl f s) := by
  induction as generalizing s with
  | nil => exact h
  | cons a as ih => exact ih (hf s a h)

theorem freedEntry_holds (h : HoldsBacked s) : HoldsBacked (freedEntry s) :=
  foldl_holds (fun u c hu => by
    split
    · exact claimAfresh_holds hu c
    · exact hu) _ h

theorem takeUpClaims_holds (h : HoldsBacked s) : HoldsBacked (takeUpClaims s) :=
  foldl_holds (fun u c hu => by
    split
    · exact claimAfresh_holds hu c
    · exact hu) _ h

/-- The entries of a batch behind its first: those that report a hold report one that the replica shows. -/
def EntryBacked (s : State) : BatchEntry → Prop
  | .claimOutcome _ _ _ => False
  | .granted r _ _ _ => HeldBy s r
  | .dropApplied _ _ | .yield _ _ | .removed _ | .freed => True

theorem takeEntry_holds (h : HoldsBacked s) {e : BatchEntry} (he : EntryBacked s e) : HoldsBacked (takeEntry s e) := by
  cases e with
  | claimOutcome r o st => exact he.elim
  | dropApplied r d => exact dropApplied_holds h r
  | granted r m y k => exact grantedEntry_holds h he _
  | yield r k => exact yieldEntry_holds h r _
  | removed r => exact removedEntry_holds h r
  | freed => exact freedEntry_holds h

theorem takeEntry_heldBy (s : State) (e : BatchEntry) (r : Resource) : HeldBy (takeEntry s e) r ↔ HeldBy s r := by
  simp [HeldBy, State.me]

theorem takeBatch_holds {es : List BatchEntry} (h : HoldsBacked s) (hes : ∀ e ∈ es, EntryBacked s e) :
    HoldsBacked (takeBatch es s) := by
  induction es generalizing s with
  | nil => exact h
  | cons e es ih =>
    refine ih (takeEntry_holds h (hes e List.mem_cons_self)) fun e' he' => ?_
    have hb := hes e' (List.mem_cons_of_mem e he')
    cases e' with
    | granted r m y k => exact (takeEntry_heldBy s e r).mpr hb
    | _ => exact hb

end

end Sys2Proof.Machine
end

section
/-! PROOF. Law L8 under every operation that a command starts with (O58). -/

namespace Sys2Proof.Machine

open Sys2Proof.Safety

/-! ### What backs the claims, part by part -/

/-- An attempt is of the frame it says; with its entry discarded nothing is in flight, and a JOIN or a LEAVE is then reported
to no block. -/
structure AttemptSound (s : State) : Prop where
  encoded : ∀ a ∈ s.xi.attempt, encodes a.sent a.frame.body = true
  gone : ∀ a ∈ s.xi.attempt, a.discarded = true → inFlight s.tq = []
  silent : ∀ a ∈ s.xi.attempt, a.discarded = true →
    a.unreported = true ∨ (a.sent ≠ .entry .join ∧ a.sent ≠ .entry .leave)

/-- The parts of ClaimsBacked by name. -/
structure StationBacked (s : State) : Prop extends AttemptSound s where
  number : s.xi.number = none → s.sc.state = .reset
  outside : ∀ a ∈ s.xi.attempt, a.discarded = true → ¬ Joined s.sc.state
  joins : Joined s.sc.state → ∀ e ∈ s.tq.entries, e.item.isJoinOrLeave = false
  holds : HoldsBacked s

theorem claimsBacked_iff {s : State} : ClaimsBacked s ↔ StationBacked s := by
  constructor
  · rintro ⟨hn, ha, hj, hw, hh⟩
    exact
      { encoded := fun a h => (ha a h).1
        gone := fun a h hd => ((ha a h).2 hd).1
        silent := fun a h hd => ((ha a h).2 hd).2.2
        number := hn
        outside := fun a h hd => ((ha a h).2 hd).2.1
        joins := hj
        holds := fun c hc => ⟨hw c hc, hh c hc⟩ }
  · intro h
    exact ⟨h.number, fun a ha => ⟨h.encoded a ha, fun hd => ⟨h.gone a ha hd, h.outside a ha hd, h.silent a ha hd⟩⟩,
      h.joins, fun c hc => (h.holds c hc).1, fun c hc => (h.holds c hc).2⟩

/-- A station between the loss of its table, or any state outside one, and its entry to a state: the state it stands in is
not looked at. -/
structure Departs (s : State) : Prop extends AttemptSound s where
  queue : QueueSafe s
  numbered : s.xi.number ≠ none
  holds : HoldsBacked s

/-- The agreement of the parts, laws L9 and L10, and what backs the claims. -/
structure StationSafe (s : State) : Prop where
  parts : PartsLawful s
  queue : QueueSafe s
  backed : StationBacked s

section
variable {s t : State}

theorem AttemptSound.of_kept (h : AttemptSound s) (hx : t.xi.attempt = s.xi.attempt)
    (hq : inFlight t.tq = inFlight s.tq) : AttemptSound t :=
  ⟨by rw [hx]; exact h.encoded, by rw [hx, hq]; exact h.gone, by rw [hx]; exact h.silent⟩

theorem attemptSound_of_none (h : s.xi.attempt = none) : AttemptSound s :=
  ⟨by simp [h], by simp [h], by simp [h]⟩

theorem StationBacked.of_amends (h : StationBacked s) (k : Amends s t) (hh : HoldsBacked t) : StationBacked t where
  toAttemptSound := h.toAttemptSound.of_kept k.attempt k.queue.inFlight
  number := by rw [k.number, k.state]; exact h.number
  outside := by rw [k.attempt, k.state]; exact h.outside
  joins hj e he := by
    rw [k.state] at hj
    by_contra hi
    exact hi (h.joins hj e (k.queue.joins e he (by simpa using hi)))
  holds := hh

theorem StationBacked.of_kept (h : StationBacked s) (hbu : t.bu = s.bu) (htq : t.tq = s.tq) (hre : t.re = s.re)
    (ha : t.xi.attempt = s.xi.attempt) (hn : t.xi.number = s.xi.number) (hst : t.sc.state = s.sc.state) :
    StationBacked t :=
  h.of_amends ⟨by rw [hbu], by rw [hbu], ha, hn, hst, htq ▸ .refl _ _⟩ (h.holds.of_kept (by rw [hbu]) htq hre hn)

theorem StationSafe.departs (h : StationSafe s) (hst : s.sc.state ≠ .reset) : Departs s where
  toAttemptSound := h.backed.toAttemptSound
  queue := h.queue
  numbered hn := hst (h.backed.number hn)
  holds := h.backed.holds

theorem Departs.withSc (h : Departs s) (b : StationController) : Departs (s.withSc b) where
  toAttemptSound := h.toAttemptSound.of_kept rfl rfl
  queue := withSc_queue h.queue b
  numbered := h.numbered
  holds := h.holds.of_kept rfl rfl rfl rfl

theorem addJoinOrLeave_entryFor {q : TransmitQueue} {i : Item} (hi : i.isJoinOrLeave = true) {r : Resource}
    (h : q.entryFor r = none) : (q.addJoinOrLeave i).entryFor r = none := by
  unfold TransmitQueue.addJoinOrLeave
  split
  · exact h
  · exact entryFor_append_of_ne h (by cases i <;> simp_all [Item.isJoinOrLeave, Item.resource?])

theorem addJoinOrLeave_inFlight (q : TransmitQueue) (i : Item) : inFlight (q.addJoinOrLeave i) = inFlight q := by
  unfold TransmitQueue.addJoinOrLeave
  split <;> simp

theorem Departs.addJoinOrLeave (h : Departs s) {i : Item} (hi : i.isJoinOrLeave = true) :
    Departs (s.withTq (s.tq.addJoinOrLeave i)) where
  toAttemptSound := h.toAttemptSound.of_kept rfl (addJoinOrLeave_inFlight _ _)
  queue := addJoinOrLeave_queue h.queue hi
  numbered := h.numbered
  holds := h.holds.of_entries rfl (fun _ => addJoinOrLeave_entryFor hi) rfl rfl rfl

/-! ### A change of station state -/

theorem discardTo_tenure (q : TransmitQueue) (s : State) : (discardTo q s).tc.state = s.tc.state := by
  unfold discardTo
  dsimp only
  split <;> rfl

/-- The attempt after a change of station state is the one before it, marked where the queue is emptied, and reported to no
block where the tenure controller goes OFFLINE. -/
theorem mem_enterState_attempt {st : StationState} {c : Cause} {a : Attempt} (h : a ∈ (enterState st c s).xi.attempt) :
    ∃ b ∈ s.xi.attempt, b.sent = a.sent ∧ b.frame = a.frame ∧
      (a.discarded = true → b.discarded = true ∨ st.queueEmptied = true) ∧
      (b.unreported = true → a.unreported = true) ∧
      (st.tenureOnline = false → s.tc.state = .offline ∨ a.unreported = true) := by
  rw [enterState_attempt] at h
  dsimp only at h
  obtain ⟨u, hu⟩ : ∃ u, u = if st.queueEmptied then emptyQueue (s.withRe s.re.discardLoad) else s.withRe s.re.discardLoad :=
    ⟨_, rfl⟩
  rw [← hu] at h
  have htc : u.tc.state = s.tc.state := by
    rw [hu]
    split
    · exact discardTo_tenure _ _
    · rfl
  have hmem (b : Attempt) (hb : b ∈ u.xi.attempt) : ∃ b' ∈ s.xi.attempt, b'.sent = b.sent ∧ b'.frame = b.frame ∧
      (b.discarded = true → b'.discarded = true ∨ st.queueEmptied = true) ∧ b'.unreported = b.unreported := by
    rw [hu] at hb
    split at hb
    next he =>
      rw [emptyQueue, discardTo_attempt] at hb
      split at hb
      · obtain ⟨b', hb', rfl⟩ := Option.map_eq_some_iff.mp hb
        exact ⟨b', hb', rfl, rfl, fun _ => .inr he, rfl⟩
      · exact ⟨b, hb, rfl, rfl, .inl, rfl⟩
    · exact ⟨b, hb, rfl, rfl, .inl, rfl⟩
  split at h
  next hon =>
    obtain ⟨b', hb', hs, hf, hd, hr⟩ := hmem a h
    exact ⟨b', hb', hs, hf, hd, fun k => hr ▸ k, by simp [hon]⟩
  next =>
    obtain ⟨b, hb, hbd, hbs, hbf, hoff⟩ := placeOffline_attempt h
    obtain ⟨b', hb', hs, hf, hd, hr⟩ := hmem b hb
    refine ⟨b', hb', hs.trans hbs, hf.trans hbf, fun k => hd (hbd.trans k), fun k => ?_, fun _ => ?_⟩
    · rcases hoff with ⟨_, rfl⟩ | hoff
      · exact hr ▸ k
      · exact hoff
    · exact hoff.imp (fun k => htc ▸ k.1) id

@[simp] theorem discardTo_number (q : TransmitQueue) (s : State) : (discardTo q s).xi.number = s.xi.number := by
  rw [discardTo_attempt]
  split <;> rfl

@[simp] theorem enterState_number (st : StationState) (c : Cause) (s : State) :
    (enterState st c s).xi.number = s.xi.number := by
  have hoff (u : State) : (placeOffline u).xi.number = u.xi.number := by
    unfold placeOffline
    split
    · rfl
    · exact cutAttempt_number _
  unfold enterState
  dsimp only
  simp only [postNotice_keeps, State.withSc_xi, State.withXi_xi, forState_number]
  split
  · simp only [placeOnline_keeps]
    split
    · exact discardTo_number _ _
    · rfl
  · rw [hoff]
    split
    · exact discardTo_number _ _
    · rfl

theorem enterState_holds (h : HoldsBacked s) (st : StationState) (c : Cause) : HoldsBacked (enterState st c s) := by
  refine h.of_entries (by simp) (fun r hn => ?_) (by simp) (by simp) (by simp)
  rw [enterState_tq]
  split
  · rfl
  · exact hn

/-- A station enters a state outside the way into a table. A JOIN or LEAVE is not discarded where the tenure controller
stays online; and where it is OFFLINE already nothing is in flight. -/
theorem enterState_backed (h : Departs s) {st : StationState} (hst : ¬ Joined st)
    (hj : st.queueEmptied = true → st.tenureOnline = true → ∀ e ∈ s.tq.entries, e.item.isJoinOrLeave = false)
    (ho : st.tenureOnline = false → s.tc.state = .offline → inFlight s.tq = []) (c : Cause) :
    StationBacked (enterState st c s) where
  encoded a ha := by
    obtain ⟨b, hb, hs, hf, _⟩ := mem_enterState_attempt ha
    rw [← hs, ← hf]
    exact h.encoded b hb
  gone a ha hd := by
    obtain ⟨b, hb, _, _, hbd, _⟩ := mem_enterState_attempt ha
    rw [enterState_tq]
    split
    · rfl
    next he => exact h.gone b hb ((hbd hd).resolve_right he)
  silent a ha hd := by
    obtain ⟨b, hb, hs, _, hbd, hbu, hoff⟩ := mem_enterState_attempt ha
    cases hb' : b.discarded with
    | true => exact (h.silent b hb hb').imp hbu (hs ▸ ·)
    | false =>
      have hempty : st.queueEmptied = true := (hbd hd).resolve_left (by simp [hb'])
      have hone := h.queue.link b hb hb'
      cases hon : st.tenureOnline with
      | true =>
        have hnot (i : Item) (hi : i.isJoinOrLeave = true) : a.sent ≠ .entry i := fun k => by
          obtain ⟨e, he, _, rfl⟩ := inFlight_entry (queueLawful_iff.mpr h.queue) hb hb' (hs.trans k)
          simp [hj hempty hon e he] at hi
        exact .inr ⟨hnot _ rfl, hnot _ rfl⟩
      | false =>
        refine .inl ((hoff hon).resolve_left fun k => ?_)
        simp [ho hon k] at hone
  number hn := absurd (by simpa using hn) h.numbered
  outside _ _ _ := by simpa using hst
  joins k := absurd (by simpa using k) hst
  holds := enterState_holds h.holds st c

/-- The states on the way into a table are entered with the queue and the attempt as they are. -/
theorem enterJoined_backed (h : Departs s) {st : StationState} (hst : Joined st)
    (hd : ∀ a ∈ s.xi.attempt, a.discarded = false) (hj : ∀ e ∈ s.tq.entries, e.item.isJoinOrLeave = false) (c : Cause) :
    StationBacked (enterState st c s) := by
  have hkeep : st.queueEmptied = false ∧ st.tenureOnline = true := by rcases hst with rfl | rfl | rfl <;> exact ⟨rfl, rfl⟩
  have ha : (enterState st c s).xi.attempt = s.xi.attempt := by
    rw [enterState_attempt]
    simp [hkeep]
  have hq : (enterState st c s).tq = s.tq := by simp [hkeep]
  have hnot (a : Attempt) (hm : a ∈ (enterState st c s).xi.attempt) (k : a.discarded = true) : False := by
    simp [hd a (ha ▸ hm)] at k
  exact
    { encoded := by rw [ha]; exact h.encoded
      gone := fun a hm k => (hnot a hm k).elim
      silent := fun a hm k => (hnot a hm k).elim
      number := fun hn => absurd (by simpa using hn) h.numbered
      outside := fun a hm k => (hnot a hm k).elim
      joins := fun _ => by rw [hq]; exact hj
      holds := enterState_holds h.holds st c }

/-! ### The teardown (R151) -/

theorem wholesaleLoss_claims (why : LossReason) (s : State) :
    (wholesaleLoss why s).bu.claims = s.bu.claims.map (·.to .none) := by
  unfold wholesaleLoss
  dsimp only
  rw [foldl_keeps (·.bu) _ (fun u n => by simp) _ _]
  rfl

theorem teardown_claims (why : LossReason) (s : State) : (teardown why s).bu.claims = s.bu.claims.map (·.to .none) := by
  rw [← wholesaleLoss_claims why s]
  simp [teardown]

theorem teardown_xi (why : LossReason) (s : State) :
    (teardown why s).xi = if s.tq.anyInFlight && !s.tq.purged.anyInFlight then s.xi.entryDiscarded else s.xi := by
  simp [teardown, purgeQueue, discardTo_attempt]

theorem teardown_tenure (why : LossReason) (s : State) : (teardown why s).tc.state = s.tc.state := by
  simp [teardown, purgeQueue, discardTo_tenure]

/-- A JOIN or LEAVE in flight outlives the purge (R96). -/
theorem purged_anyInFlight {q : TransmitQueue} {e : Entry} (he : e ∈ q.entries) (hi : e.inFlight = true)
    (hj : e.item.isJoinOrLeave = true) : q.purged.anyInFlight = true := by
  simp only [TransmitQueue.anyInFlight, TransmitQueue.purged, Bool.or_false]
  exact List.any_eq_true.mpr ⟨e, List.mem_filter.mpr ⟨he, hj⟩, hi⟩

theorem teardown_departs (hq : QueueSafe s) (hs : AttemptSound s) (hn : s.xi.number ≠ none) (why : LossReason) :
    Departs (teardown why s) where
  encoded a ha := by
    rw [teardown_xi] at ha
    split at ha
    · obtain ⟨b, hb, rfl⟩ := Option.map_eq_some_iff.mp ha
      exact hs.encoded b hb
    · exact hs.encoded a ha
  gone a ha hd := by
    rw [teardown_xi] at ha
    rw [teardown_tq]
    split at ha
    next hl =>
      by_contra hne
      simp [(anyInFlight_iff _).mpr hne] at hl
    next => exact List.eq_nil_of_sublist_nil (hs.gone a ha hd ▸ (shrunk_purged s.tq).inFlight)
  silent a ha hd := by
    rw [teardown_xi] at ha
    split at ha
    next hl =>
      obtain ⟨b, hb, rfl⟩ := Option.map_eq_some_iff.mp ha
      cases hb' : b.discarded with
      | true => exact hs.silent b hb hb'
      | false =>
        have hnot (i : Item) (hi : i.isJoinOrLeave = true) : b.sent ≠ .entry i := fun k => by
          obtain ⟨e, he, hf, rfl⟩ := inFlight_entry (queueLawful_iff.mpr hq) hb hb' k
          simp [purged_anyInFlight he hf hi] at hl
        exact .inr ⟨hnot _ rfl, hnot _ rfl⟩
    next => exact hs.silent a ha hd
  queue := teardown_queue hq why
  numbered := by
    rw [teardown_xi]
    split <;> exact hn
  holds := holdsBacked_of_idle fun c hc => by
    rw [teardown_claims] at hc
    obtain ⟨d, _, rfl⟩ := List.mem_map.mp hc
    exact idle_none d

/-! ### Leaving a table, and the states outside one -/

theorem joined_of_inTable {st : StationState} (h : st.inTable = true) : Joined st := .inr ((inTable_iff st).mp h)

theorem ne_reset_of_inTable {st : StationState} (h : st.inTable = true) : st ≠ .reset := by
  rcases (inTable_iff st).mp h with rfl | rfl <;> decide

/-- Only a station that keeps no frame to send is OFFLINE. -/
theorem StationSafe.offline_inFlight (h : StationSafe s) (ho : s.tc.state = .offline) : inFlight s.tq = [] := by
  have hon := h.parts.offline.mp ho
  rw [h.parts.tq (by revert hon; cases s.sc.state <;> simp [StationState.tenureOnline, StationState.mayQueue])]
  rfl

/-- From a table into a state outside one. -/
theorem leftTable_backed (hq : QueueSafe s) (hb : AttemptSound s) (hn : s.xi.number ≠ none)
    (hj : ∀ e ∈ s.tq.entries, e.item.isJoinOrLeave = false) (ho : s.tc.state ≠ .offline) (why : LossReason)
    {st : StationState} (hst : ¬ Joined st) (b : StationController) (c : Cause) :
    StationBacked (enterState st c ((teardown why s).withSc b)) := by
  refine enterState_backed ((teardown_departs hq hb hn why).withSc b) hst (fun _ _ e he => ?_) (fun _ k => ?_) c
  · rw [State.withSc_tq, teardown_tq] at he
    exact hj e (List.mem_filter.mp he).1
  · exact absurd ((teardown_tenure why s).symm.trans k) ho

theorem online_of_inTable (h : PartsLawful s) (ht : s.sc.state.inTable = true) : s.tc.state ≠ .offline := fun k => by
  have := h.offline.mp k
  rcases (inTable_iff _).mp ht with hs | hs <;> simp [hs, StationState.tenureOnline] at this

theorem StationSafe.leftTable (h : StationSafe s) (ht : s.sc.state.inTable = true) (why : LossReason) {st : StationState}
    (hst : ¬ Joined st) (b : StationController) (c : Cause) :
    StationBacked (enterState st c ((teardown why s).withSc b)) :=
  leftTable_backed h.queue h.backed.toAttemptSound (h.departs (ne_reset_of_inTable ht)).numbered
    (h.backed.joins (joined_of_inTable ht)) (online_of_inTable h.parts ht) why hst b c

/-- From outside a table into a state outside one, where no JOIN or LEAVE is lost online. -/
theorem StationSafe.enters (h : StationSafe s) (hs : s.sc.state ≠ .reset) {st : StationState} (hst : ¬ Joined st)
    (hj : st.queueEmptied = true → st.tenureOnline = true → s.sc.state.mayQueue = false ∨ Joined s.sc.state)
    (b : StationController) (c : Cause) : StationBacked (enterState st c (s.withSc b)) := by
  refine enterState_backed ((h.departs hs).withSc b) hst (fun he ho e hm => ?_) (fun _ => h.offline_inFlight) c
  rcases hj he ho with hq | hq
  · have hm : e ∈ s.tq.entries := hm
    simp [h.parts.tq hq, TransmitQueue.empty] at hm
  · exact h.backed.joins hq e hm

theorem isolate_backed (h : StationSafe s) (c : Cause) : StationBacked (isolate c s) := by
  unfold isolate teardownIfInTable
  split
  next ho =>
    have hr : s.sc.state ≠ .reset := fun k => by simp [k, StationState.receiverOn] at ho
    dsimp only
    split
    next ht => exact h.leftTable ht .isolated (by simp) _ c
    next => exact h.enters hr (by simp) (by simp [StationState.tenureOnline]) _ c
  · exact h.backed

theorem twinReport_backed (h : StationSafe s) : StationBacked (twinReport s) := by
  unfold twinReport teardownIfInTable
  split
  next ho =>
    have hr : s.sc.state ≠ .reset := fun k => by simp [k, StationState.receiverOn] at ho
    split
    next ht => exact h.leftTable ht .twin (by simp) _ _
    next => exact h.enters hr (by simp) (by simp [StationState.tenureOnline]) _ _
  · exact h.backed

theorem foreignReport_backed (h : StationSafe s) : StationBacked (foreignReport s) := by
  unfold foreignReport
  split
  next ht => exact h.leftTable ht .foreign (by simp) (teardown .foreign s).sc _
  · exact h.backed

/-- A self-expulsion takes no heed of what the batch before it has left of the claims. -/
theorem selfExpelled_backed (hq : QueueSafe s) (hb : AttemptSound s) (hn : s.xi.number ≠ none)
    (hj : ∀ e ∈ s.tq.entries, e.item.isJoinOrLeave = false) (ho : s.tc.state ≠ .offline)
    (ht : s.sc.state.inTable = true) (why : ExpelReason) : StationBacked (selfExpelled why s) := by
  unfold selfExpelled
  rw [if_pos ht]
  refine leftTable_backed hq hb hn hj ho .expelled ?_ (teardown .expelled s).sc _
  split <;> simp

theorem leaveTable_backed (h : StationSafe s) (ht : s.sc.state.inTable = true) : StationBacked (leaveTable s) := by
  have hd := (teardown_departs h.queue h.backed.toAttemptSound (h.departs (ne_reset_of_inTable ht)).numbered .left)
  exact enterState_backed (hd.addJoinOrLeave (i := .leave) rfl) (by simp) (by simp [StationState.queueEmptied])
    (by simp [StationState.tenureOnline]) _

theorem joinAgain_backed (h : Departs s) (c : Cause) : StationBacked (joinAgain c s) :=
  enterState_backed (h.addJoinOrLeave (i := .join) rfl) (by simp) (by simp [StationState.queueEmptied])
    (by simp [StationState.tenureOnline]) _

/-! ### A load in AWAIT_SNAPSHOT (R145 to R150) -/

theorem deadlineTakesEffect_backed (h : StationSafe s) (hs : s.sc.state = .awaitSnapshot) :
    StationBacked (deadlineTakesEffect s) := by
  unfold deadlineTakesEffect
  split
  · exact joinAgain_backed (h.departs (by simp [hs])) _
  · exact h.enters (by simp [hs]) (by simp) (fun _ _ => .inr (.inl hs)) s.sc _

theorem loadEnded_backed (h : StationSafe s) : StationBacked (loadEnded s) := by
  unfold loadEnded
  split
  next hd =>
    exact deadlineTakesEffect_backed h (Decidable.not_not.mp fun hs => by simp [h.parts.deadline.mpr hs] at hd)
  all_goals exact h.backed

/-- Without a valid replica no local claim is in HELD. -/
theorem ne_held_of_invalid (h : HoldsBacked s) (hv : s.re.valid = false) {c : LocalClaim} (hc : c ∈ s.bu.claims) :
    c.state ≠ .held := fun k => by
  have hb := (h c hc).2 k
  simp [hv] at hb

/-- A replica may be built where there was none. -/
theorem withRe_backed (h : StationBacked s) (hv : s.re.valid = false) (e : ReplicaEngine) : StationBacked (s.withRe e) where
  toAttemptSound := h.toAttemptSound.of_kept rfl rfl
  number := h.number
  outside := h.outside
  joins := h.joins
  holds c hc := ⟨(h.holds c hc).1, fun k => absurd k (ne_held_of_invalid h.holds hv hc)⟩

theorem withSilence_backed (h : StationBacked s) (v : Vector Silence 16) : StationBacked (s.withSilence v) :=
  h.of_kept rfl rfl rfl rfl rfl rfl

theorem addPresence_backed (h : StationBacked s) : StationBacked (s.withTq s.tq.addPresence) := by
  refine h.of_amends (.withTq (addPresence_amended _ _)) (h.holds.of_entries rfl (fun r hn => ?_) rfl rfl rfl)
  unfold State.withTq TransmitQueue.addPresence
  dsimp only
  split
  · exact hn
  · exact entryFor_append_of_ne hn nofun

theorem completedLoad_backed (hq : QueueSafe s) (h : StationBacked s) (hs : s.sc.state = .awaitSnapshot) :
    StationBacked (completedLoad s) := by
  have hj : Joined s.sc.state := .inl hs
  have hn : s.xi.number ≠ none := fun k => by simp [h.number k] at hs
  have hd (a : Attempt) (ha : a ∈ s.xi.attempt) : a.discarded = false := by
    by_contra k
    exact h.outside a ha (by simpa using k) hj
  have he := enterJoined_backed ⟨h.toAttemptSound, hq, hn, h.holds⟩ (st := .confirming) (.inr (.inl rfl)) hd
    (h.joins hj) .snapshotLoaded
  have heq := enterState_queue hq .confirming .snapshotLoaded
  unfold completedLoad
  dsimp only
  split
  · exact addPresence_backed (withSilence_backed he _)
  all_goals
    exact joinAgain_backed (teardown_departs (withSilence_queue heq _) (withSilence_backed he _).toAttemptSound
      (by simpa using hn) .left) _

theorem StationSafe.invalid (h : StationSafe s) (ht : s.sc.state.inTable = false) : s.re.valid = false :=
  h.parts.valid.trans ht

theorem takePart_backed (h : StationSafe s) (hs : s.sc.state = .awaitSnapshot) (count : Half) (p : Part) :
    StationBacked (takePart count p s) := by
  have hv : s.re.valid = false := h.invalid (by simp [hs, StationState.inTable])
  have hr (e : ReplicaEngine) : StationBacked (s.withRe e) := withRe_backed h.backed hv e
  unfold takePart
  rcases loadPart_cases s.re count p with ⟨i, hi⟩ | ⟨i, hi⟩ | hi <;> simp only [hi]
  · exact hr _
  · exact completedLoad_backed (withRe_queue h.queue _) (hr _) hs
  · exact loadEnded_backed ⟨withRe_parts h.parts rfl nofun, withRe_queue h.queue _, hr _⟩

theorem frameWhileAwaiting_backed (h : StationSafe s) (hs : s.sc.state = .awaitSnapshot) (f : Frame) :
    StationBacked (frameWhileAwaiting f s) := by
  have hv : s.re.valid = false := h.invalid (by simp [hs, StationState.inTable])
  unfold frameWhileAwaiting
  split
  · exact takePart_backed h hs _ _
  all_goals
    unfold frameOutsideRun
    split
    · exact loadEnded_backed ⟨withRe_parts h.parts rfl nofun, withRe_queue h.queue _, withRe_backed h.backed hv _⟩
    · exact h.backed

theorem frameWhileAwaiting_safe (h : StationSafe s) (hs : s.sc.state = .awaitSnapshot) (f : Frame) :
    StationSafe (frameWhileAwaiting f s) :=
  ⟨frameWhileAwaiting_parts h.parts hs f, frameWhileAwaiting_queue h.queue f, frameWhileAwaiting_backed h hs f⟩

end

end Sys2Proof.Machine
end

section
/-! PROOF. Law L8 under the asking for a frame and under the application of a frame (O58). -/

namespace Sys2Proof.Machine

open Sys2Proof.Safety

section
variable {s : State}

/-! ### The asking for the next frame (R86, R102) -/

theorem encodes_bodyOfSent (s : State) (what : Sent) : encodes what (s.bodyOfSent what) = true := by
  cases what with
  | entry i => cases i <;> simp [encodes, State.bodyOfSent, State.bodyOfItem, Body.kindCode]
  | part k => simp [encodes, State.bodyOfSent, Body.kindCode]

/-- A queue with the items of another has an entry for the same resources. -/
theorem entryFor_none_of_items {q q' : TransmitQueue} (h : itemsOf q' ⊆ itemsOf q) {r : Resource}
    (hn : q.entryFor r = none) : q'.entryFor r = none :=
  entryFor_eq_none.mpr fun i hi => entryFor_eq_none.mp hn i (h hi)

theorem joins_of_items {q q' : TransmitQueue} (h : itemsOf q' ⊆ itemsOf q)
    (hj : ∀ e ∈ q.entries, e.item.isJoinOrLeave = false) : ∀ e ∈ q'.entries, e.item.isJoinOrLeave = false := fun e he => by
  obtain ⟨e', he', hi⟩ := List.mem_map.mp (h (List.mem_map_of_mem he))
  exact hi ▸ hj e' he'

theorem reportTaken_holds (h : HoldsBacked s) (k : Handed) : HoldsBacked (reportTaken k s) := by
  unfold reportTaken
  (repeat' split)
  · exact takenReport_holds h _
  all_goals exact h

theorem askNext_backed (h : StationBacked s) : StationBacked (askNext s) := by
  unfold askNext
  dsimp only
  split
  · exact h
  next handed hh =>
    have hitems : itemsOf s.tq.hand.1 = itemsOf s.tq := hand_items s.tq
    have hbegin (u : State) (hu : HoldsBacked u) (hsc : u.sc = s.sc) (hxi : u.xi = s.xi) (htq : u.tq = s.tq.hand.1) :
        StationBacked (beginAttempt handed.sent (reportTaken handed u)) := by
      refine ⟨⟨?_, ?_, ?_⟩, ?_, ?_, fun hj => ?_, ?_⟩
      · rintro a ⟨⟩
        exact encodes_bodyOfSent _ _
      · rintro a ⟨⟩ ⟨⟩
      · rintro a ⟨⟩ ⟨⟩
      · simpa [hsc, beginAttempt, hxi] using h.number
      · rintro a ⟨⟩ ⟨⟩
      · have hj' : Joined s.sc.state := by simpa [hsc] using hj
        simpa [htq] using joins_of_items (fun _ hi => hitems ▸ hi) (h.joins hj')
      · exact (reportTaken_holds hu handed).of_kept (by simp) (by simp) (by simp) rfl
    have hholds (tc : TenureController) : HoldsBacked ((s.withTq s.tq.hand.1).withTc tc) :=
      h.holds.of_entries rfl (fun _ => entryFor_none_of_items (fun _ hi => hitems ▸ hi)) rfl rfl rfl
    split
    · exact hbegin _ (hholds _) rfl rfl rfl
    · exact hbegin _ (hholds s.tc) rfl rfl rfl

theorem askStable_backed : AskStable StationBacked where
  ask _ h := askNext_backed h
  tenure _ _ h := h.of_kept rfl rfl rfl rfl rfl rfl
  pins _ _ h := h.of_kept rfl rfl rfl rfl rfl rfl

/-! ### An application up to its reports (R27 steps 4 to 8) -/

theorem askExpel_entryFor {t : Station} {why : ExpelReason} {r : Resource} (h : s.tq.entryFor r = none) :
    (askExpel t why s).tq.entryFor r = none := by
  unfold askExpel
  split
  · exact h
  · exact entryFor_append_of_ne h nofun

theorem askExpel_holds (h : HoldsBacked s) (t : Station) (why : ExpelReason) : HoldsBacked (askExpel t why s) :=
  h.of_entries (by simp) (fun _ => askExpel_entryFor) (by simp) (by simp) (by simp)

theorem askSilentExpels_holds (h : HoldsBacked s) (ts : List Station) : HoldsBacked (askSilentExpels ts s) :=
  foldl_holds (fun _ t hu => askExpel_holds hu t .silent) ts h

theorem counted_entryFor (own : Bool) (f : Frame) {r : Resource} (h : s.tq.entryFor r = none) :
    (counted own f s).tq.entryFor r = none := by
  have hchecked : (checked own f s).tq.entryFor r = none := by
    unfold checked checkFrame referenceCheck countComparison
    dsimp only
    (repeat' split)
    · exact h
    · exact askExpel_entryFor h
    · exact h
    · exact askExpel_entryFor h
    all_goals exact h
  unfold counted referenceDerived
  dsimp only
  (repeat' split)
  · simpa [TransmitQueue.entryFor, arm_entries] using hchecked
  · simpa [TransmitQueue.entryFor, roleLost_entries] using hchecked
  · simpa using hchecked

@[simp] theorem counted_re (own : Bool) (f : Frame) (s : State) :
    (counted own f s).re = (effectsOf s.re f).replica.advance := by
  simp [counted]

@[simp] theorem counted_me (own : Bool) (f : Frame) (s : State) : (counted own f s).me = s.me := by
  simp [counted, State.me]

theorem effectsOf_expel {e : ReplicaEngine} {f : Frame} {t : Station} {why : ExpelReason} (hb : f.body = .expel t why) :
    (effectsOf e f).expelled = some (t, why) ∨ effectsOf e f = Effects.none e := by
  rw [effectsOf, hb]
  dsimp only
  unfold expelEffects
  split
  · exact .inl rfl
  · exact .inr rfl

/-- What a frame's effects leave of a hold, unless it is the frame that removes the holder itself. -/
theorem effectsOf_holds_of_not_expelled {e : ReplicaEngine} {f : Frame} {m : Station} {r : Resource}
    (h : e.records[r].holds m = true) (hx : (effectsOf e f).expelled.map (·.1) ≠ some m)
    (hs : (∀ t why, f.body ≠ .expel t why) → Spares f m r) : (effectsOf e f).replica.records[r].holds m = true := by
  match hb : f.body with
  | .expel t why =>
    by_cases ht : t = m
    · rcases effectsOf_expel (e := e) hb with he | he
      · exact absurd (by simp [he, ht]) hx
      · rwa [he]
    · exact effectsOf_holds h (by simpa [Spares, hb] using ht)
  | .claim _ _ _ _ | .drop _ | .presence _ _ | .join | .leave | .snapshot _ => exact effectsOf_holds h (hs (by simp [hb]))

/-- The frames after whose application this station still has the holds it had, and whose CLAIM is no longer queued. -/
structure Harmless (own : Bool) (f : Frame) (s : State) : Prop where
  spares : ∀ c ∈ s.bu.claims, c.state = .held → (∀ t why, f.body ≠ .expel t why) → Spares f s.me c.resource
  claimed : own = true → ∀ r m c y, f.body = .claim r m c y → s.tq.entryFor r = none

theorem counted_holds (h : HoldsBacked s) {own : Bool} {f : Frame} (hf : Harmless own f s)
    (hx : (effectsOf s.re f).expelled.map (·.1) ≠ some s.me) : HoldsBacked (counted own f s) := fun c hc => by
  have hc : c ∈ s.bu.claims := by simpa using hc
  obtain ⟨hnone, hheld⟩ := h c hc
  refine ⟨fun k => counted_entryFor own f (hnone k), fun k => ?_⟩
  obtain ⟨hv, hh⟩ := hheld k
  simp only [counted_re, counted_me, ReplicaEngine.advance]
  exact ⟨(effectsOf_keeps s.re f).2.1.trans hv, effectsOf_holds_of_not_expelled hh hx (hf.spares c hc k)⟩

/-- The entries of a batch for the changes of standing report the holds that the effects have made. -/
theorem standingEntry_backed {u : State} (hv : u.re.valid = true) {r : Resource} (byOutcome : Bool) (before : Record)
    {e : BatchEntry} (he : e ∈ standingEntry u.me false byOutcome r before u.re.records[r]) : EntryBacked u e := by
  unfold standingEntry at he
  rw [if_neg (by decide)] at he
  split at he
  · exact absurd he List.not_mem_nil
  next hd hh =>
    split at he
    · split at he
      · exact absurd he List.not_mem_nil
      · obtain rfl := List.mem_singleton.mp he
        trivial
    · split at he
      · exact absurd he List.not_mem_nil
      · obtain rfl := List.mem_singleton.mp he
        exact ⟨hv, by rw [← holderOf_isSome, hh]; rfl⟩

theorem entryBacked_congr {t : State} (hre : t.re = s.re) (hme : t.me = s.me) {e : BatchEntry} (h : EntryBacked s e) :
    EntryBacked t e := by
  cases e with
  | granted r m y k =>
    obtain ⟨hv, hh⟩ := h
    exact ⟨by rw [hre, hv], by rw [hre, hme, hh]⟩
  | _ => exact h

/-- The entry of the frame's own outcome. -/
theorem takeOwnEntry_holds {u : State} (h : HoldsBacked u) (hv : u.re.valid = true) {f : Frame} {x : Effects}
    (hx : x.replica.records = u.re.records) (hc : ∀ r m c y, f.body = .claim r m c y → u.tq.entryFor r = none) :
    HoldsBacked (takeBatch (ownEntry u.me f x) u) := by
  unfold ownEntry
  split
  next r m c y hb =>
    split
    · exact claimOutcome_holds h (hc r m c y hb) _ fun m y d hst => ⟨hv, by rw [← hx]; exact holds_of_standing hst⟩
    · exact h
  · split
    · split
      · exact dropApplied_holds h _
      · exact h
    · exact h
  all_goals exact h

theorem takeBatch_append (es es' : List BatchEntry) (s : State) :
    takeBatch (es ++ es') s = takeBatch es' (takeBatch es s) := List.foldl_append

@[simp] theorem takeBatch_me (es : List BatchEntry) (s : State) : (takeBatch es s).me = s.me := by simp [State.me]

theorem applied_holds (h : HoldsBacked s) (hv : s.re.valid = true) {own : Bool} {f : Frame} (hf : Harmless own f s)
    (hx : (effectsOf s.re f).expelled.map (·.1) ≠ some s.me) : HoldsBacked (applied own f s) := by
  have hc := counted_holds h hf hx
  have hcv : (counted own f s).re.valid = true := by
    rw [counted_re]
    exact (effectsOf_keeps s.re f).2.1.trans hv
  have hme : ((effectsOf s.re f).expelled.map (·.1) == some s.me) = false := by simpa using hx
  have hown : HoldsBacked (takeBatch (if own then ownEntry s.me f (effectsOf s.re f) else []) (counted own f s)) := by
    split
    next ho =>
      have hu := takeOwnEntry_holds hc hcv (f := f) (x := effectsOf s.re f) (by simp [ReplicaEngine.advance])
        fun r m c y hb => counted_entryFor own f (hf.claimed ho r m c y hb)
      simpa using hu
    · exact hc
  rw [applied_eq, batchOf]
  simp only [hme, List.append_assoc]
  rw [takeBatch_append]
  refine takeBatch_holds hown fun e he => entryBacked_congr (s := counted own f s) (by simp) (by simp) ?_
  rcases List.mem_append.mp he with he | he
  · obtain ⟨r, _, he⟩ := List.mem_flatMap.mp he
    refine standingEntry_backed hcv (r := r) (ownClaimOn own f r) s.re.records[r] ?_
    simpa [ReplicaEngine.advance] using he
  · split at he
    · obtain rfl := List.mem_singleton.mp he
      trivial
    · exact absurd he List.not_mem_nil

end

end Sys2Proof.Machine
end

section
/-! PROOF. Law L8 under the reports of an application, and under the windows of the bus (O58). -/

namespace Sys2Proof.Machine

open Sys2Proof.Safety

section
variable {s : State}

/-! ### The membership reports (R51) -/

theorem memberReport_backed (h : StationBacked s) (x : Station) (m : MemberState) : StationBacked (memberReport x m s) := by
  refine h.of_amends (memberReport_amends s x m) ?_
  cases m with
  | active => exact h.holds
  | joining => exact withdraw_holds (withSilence_backed h _).holds _
  | absent => exact withdraw_holds (withSilence_backed h _).holds _

/-- In a state on the way into a table no attempt's entry is discarded. -/
theorem StationBacked.attempted (h : StationBacked s) (hj : Joined s.sc.state) (a : Attempt) (ha : a ∈ s.xi.attempt) :
    a.discarded = false := by
  by_contra k
  exact h.outside a ha (by simpa using k) hj

theorem StationSafe.departsIn (h : StationSafe s) (hj : Joined s.sc.state) : Departs s :=
  h.departs (by rcases hj with hs | hs | hs <;> simp [hs])

theorem confirmedReport_backed (h : StationSafe s) : StationBacked (confirmedReport s) := by
  unfold confirmedReport
  split
  next hs =>
    have hj : Joined s.sc.state := .inr (.inl hs)
    have he := enterJoined_backed (h.departsIn hj) (st := .active) (.inr (.inr rfl)) (h.backed.attempted hj)
      (h.backed.joins hj) .confirmed
    have ha := he.of_amends (askSilentExpels_amends _ s.silentStations) (askSilentExpels_holds he.holds _)
    exact ha.of_amends (takeUpClaims_amends _) (takeUpClaims_holds ha.holds)
  all_goals exact h.backed

/-- Only an EXPEL expels (R38). -/
theorem effectsOf_expelled_of_ne (e : ReplicaEngine) {f : Frame} (h : ∀ t why, f.body ≠ .expel t why) :
    (effectsOf e f).expelled = none := by
  unfold effectsOf
  split
  · unfold claimEffects
    split <;> rfl
  · unfold dropEffects
    (repeat' split) <;> rfl
  · unfold presenceEffects
    split <;> rfl
  next hb => exact absurd hb (h _ _)
  · unfold joinEffects
    split <;> rfl
  · unfold leaveEffects
    split <;> rfl
  · rfl

/-- An expulsion is reported as its target's absence too (R38, R51). -/
theorem member_of_expelled {e : ReplicaEngine} {f : Frame} {t : Station} {why : ExpelReason}
    (h : (effectsOf e f).expelled = some (t, why)) : (effectsOf e f).member = some (t, .absent) := by
  obtain ⟨t', why', hb⟩ : ∃ t' why', f.body = .expel t' why' := by
    by_contra hn
    push Not at hn
    simp [effectsOf_expelled_of_ne e hn] at h
  simp only [effectsOf, hb, expelEffects] at h ⊢
  split at h
  next hc =>
    obtain ⟨rfl, rfl⟩ : t' = t ∧ why' = why := by simpa using h
    rw [if_pos hc]
    rfl
  · exact absurd h nofun

theorem applied_safe (h : StationSafe s) (hv : s.re.valid = true) {own : Bool} {f : Frame} (hf : Harmless own f s)
    (hx : (effectsOf s.re f).expelled.map (·.1) ≠ some s.me) : StationSafe (applied own f s) where
  parts := applied_parts h.parts (h.parts.valid ▸ hv) own f
  queue := h.queue.of_amends (applied_amends s own f)
  backed := h.backed.of_amends (applied_amends s own f) (applied_holds h.backed.holds hv hf hx)

theorem applyFully_backed (h : StationSafe s) (hv : s.re.valid = true) {own : Bool} {f : Frame} (hf : Harmless own f s) :
    StationBacked (applyFully own f s) := by
  have ht : s.sc.state.inTable = true := h.parts.valid ▸ hv
  have hk := applied_amends s own f
  rw [applyFully_eq]
  by_cases hx : (effectsOf s.re f).expelled.map (·.1) = some s.me
  · obtain ⟨⟨_, why⟩, hexp, rfl⟩ := Option.map_eq_some_iff.mp hx
    rw [membershipReports_of_own_expulsion (member_of_expelled hexp) hexp]
    refine selfExpelled_backed (h.queue.of_amends hk)
      (h.backed.toAttemptSound.of_kept hk.attempt hk.queue.inFlight) ?_ (fun e he => ?_) ?_ ?_ why
    · rw [hk.number]
      exact (h.departs (ne_reset_of_inTable ht)).numbered
    · by_contra hi
      exact hi (h.backed.joins (joined_of_inTable ht) e (hk.queue.joins e he (by simpa using hi)))
    · simpa using online_of_inTable h.parts ht
    · simpa using ht
  · have hs := applied_safe h hv hf hx
    have hm : StationBacked
        (match (effectsOf s.re f).member with
        | none => applied own f s
        | some (y, m) =>
          if y ≠ s.me then memberReport y m (applied own f s)
          else if s.re.members[s.me] = .joining ∧ m = .active then confirmedReport (applied own f s)
          else applied own f s) := by
      (repeat' split)
      · exact hs.backed
      · exact memberReport_backed hs.backed _ _
      · exact confirmedReport_backed hs
      · exact hs.backed
    unfold membershipReports
    dsimp only
    split
    · exact hm
    next y why hexp =>
      rw [if_neg fun hy => hx (by rw [hexp, hy]; rfl)]
      exact hm

theorem applyFrame_safe (h : StationSafe s) {own : Bool} {f : Frame} (hf : s.re.valid = true → Harmless own f s) :
    StationSafe (applyFrame own f s) where
  parts := applyFrame_parts h.parts own f
  queue := applyFrame_queue h.queue own f
  backed := by
    unfold applyFrame
    split
    next hv =>
      split
      · split
        · exact foreignReport_backed h
        · exact h.backed.of_amends ⟨by simp, by simp, by simp, by simp, by simp, by simpa using .refl _ _⟩
            (h.backed.holds.of_entries (by simp) (by simp) (by simp [ReplicaEngine.advance])
              (by simp [ReplicaEngine.advance]) (by simp))
      · exact applyFully_backed h hv (hf hv)
    · exact h.backed

/-! ### The window of another station's frame (R106) -/

/-- A frame of another station spares what this station holds. -/
theorem harmless_of_other {f : Frame} (hne : f.sender ≠ s.me) : Harmless false f s where
  spares c _ _ hnot := by
    unfold Spares
    split
    · exact fun k => absurd k hne
    next t why hb => exact absurd hb (hnot t why)
    · exact hne
    · exact hne
    all_goals trivial
  claimed := nofun

theorem silenceHeard_safe (h : StationSafe s) (x : Station) : StationSafe (silenceHeard x s) where
  parts := silenceHeard_parts h.parts x
  queue := h.queue.of_amends (silenceHeard_amends s x)
  backed := h.backed.of_amends (silenceHeard_amends s x) (by
    unfold silenceHeard
    split
    · exact h.backed.holds.of_kept rfl rfl rfl rfl
    · exact h.backed.holds)

theorem otherFrameAccepted_backed (h : StationSafe s) (f : Frame) : StationBacked (otherFrameAccepted f s) := by
  have hh := silenceHeard_safe h f.sender
  unfold otherFrameAccepted
  dsimp only
  split
  · exact hh.backed.of_kept rfl rfl rfl rfl rfl rfl
  · exact hh.backed.of_kept rfl rfl rfl rfl rfl rfl
  next hs => exact frameWhileAwaiting_backed hh hs f
  all_goals exact hh.backed

theorem heardReport_safe (h : StationSafe s) (f : Frame) : StationSafe (heardReport f s) where
  parts := heardReport_parts h.parts f
  queue := h.queue.of_amends (heardReport_amends s f)
  backed := h.backed.of_amends (heardReport_amends s f) (by
    unfold heardReport
    split <;> exact h.backed.holds.of_kept rfl rfl rfl rfl)

/-- A frame that is no twin's is of another station, where the replica is valid. -/
theorem sender_ne_me (h : StationBacked s) (hv : s.sc.state ≠ .reset) {f : Frame} (ht : s.isTwin f = false) :
    f.sender ≠ s.me := fun k => by
  obtain ⟨m, hm⟩ := Option.ne_none_iff_exists'.mp fun hn => hv (h.number hn)
  simp [State.isTwin, hm, k, State.me] at ht

theorem handOver_backed (h : StationSafe s) (f : Frame) : StationBacked (handOver f s) := by
  unfold handOver
  split
  · exact twinReport_backed h
  next ht =>
    refine otherFrameAccepted_backed (applyFrame_safe h fun hv => harmless_of_other ?_) f
    exact sender_ne_me h.backed (ne_reset_of_inTable (h.parts.valid ▸ hv)) (by simpa using ht)

theorem windowCloses_backed (h : StationSafe s) (rejected : Bool) : StationBacked (windowCloses rejected s) := by
  unfold windowCloses
  split
  next f _ =>
    have hx : StationSafe (s.withXi { s.xi with rx := .none, rejectStreak := 0 }) :=
      ⟨h.parts.withXi fun _ => rfl, h.queue.of_kept rfl rfl rfl, h.backed.of_kept rfl rfl rfl rfl rfl rfl⟩
    have hh := heardReport_safe hx f
    unfold wholeWindow
    dsimp only
    split
    · exact hh.backed
    · exact handOver_backed hh f
  · exact h.backed.of_kept rfl rfl rfl rfl rfl rfl
  all_goals exact h.backed

end

end Sys2Proof.Machine
end

section
/-! PROOF. Law L8 under the window of an own attempt (O58). -/

namespace Sys2Proof.Machine

open Sys2Proof.Safety

/-! ### What an attempt is of, by its frame -/

theorem encodes_of_claim {w : Sent} {r : Resource} {m : Mode} {c : ClaimClass} {y : Bool}
    (h : encodes w (.claim r m c y) = true) : w = .entry (.claim r m c y) := by
  cases w with
  | part k => simp [encodes, Body.kindCode] at h
  | entry i => cases i <;> simp_all [encodes, Body.kindCode]

theorem encodes_of_drop {w : Sent} {b : Byte} (h : encodes w (.drop b) = true) :
    ∃ r : Resource, w = .entry (.drop r) ∧ b.toNat = r.val := by
  cases w with
  | part k => simp [encodes, Body.kindCode] at h
  | entry i =>
    cases i with
    | drop r =>
      obtain rfl : b = byte r.val := by simpa [encodes] using h
      have hr := r.isLt
      exact ⟨r, rfl, by simp only [byte, BitVec.toNat_ofNat]; omega⟩
    | _ => simp [encodes, Body.kindCode] at h

theorem encodes_of_join {w : Sent} (h : encodes w .join = true) : w = .entry .join := by
  cases w with
  | part k => simp [encodes, Body.kindCode] at h
  | entry i => cases i <;> simp_all [encodes, Body.kindCode]

theorem encodes_of_leave {w : Sent} (h : encodes w .leave = true) : w = .entry .leave := by
  cases w with
  | part k => simp [encodes, Body.kindCode] at h
  | entry i => cases i <;> simp_all [encodes, Body.kindCode]

/-- An own frame that the station may take as accepted: a CLAIM left no entry for its resource, a DROP ends no hold in
HELD, and a JOIN or a LEAVE comes outside a table, a JOIN with no other behind it. -/
structure OwnFits (f : Frame) (s : State) : Prop where
  claimed : Joined s.sc.state → ∀ r m c y, f.body = .claim r m c y → s.tq.entryFor r = none
  dropped : Joined s.sc.state → ∀ b, f.body = .drop b → ∀ c ∈ s.bu.claims, c.state = .held → b.toNat ≠ c.resource.val
  outside : f.body = .join ∨ f.body = .leave → ¬ Joined s.sc.state
  alone : f.body = .join → s.sc.state = .joinPending → ∀ e ∈ s.tq.entries, e.item.isJoinOrLeave = false

section
variable {s : State} {a : Attempt}

/-- The state after the queue has taken the report of an own frame accepted (R93). -/
def queueTold (a : Attempt) (s : State) : State := if a.discarded then s else runEnded (s.withTq (s.tq.accepted a.sent))

theorem ownAccepted_eq (a : Attempt) (s : State) :
    ownAccepted a s =
      attemptReport false (countUp .ownFramesApplied
        ((ownFrameAccepted a.frame (applyFrame true a.frame (queueTold a s))).withXi
          { (ownFrameAccepted a.frame (applyFrame true a.frame (queueTold a s))).xi with dropStreak := 0 })) := rfl

@[simp] theorem queueTold_keeps (a : Attempt) (s : State) :
    (queueTold a s).sc = s.sc ∧ (queueTold a s).xi = s.xi ∧ (queueTold a s).re = s.re ∧ (queueTold a s).bu = s.bu := by
  unfold queueTold
  split <;> simp

theorem queueTold_tq (hd : a.discarded = false) (s : State) : (queueTold a s).tq = s.tq.accepted a.sent := by
  simp [queueTold, hd]

theorem queueTold_entries (a : Attempt) (s : State) : (queueTold a s).tq.entries ⊆ s.tq.entries := by
  unfold queueTold
  split
  · exact fun _ => id
  · simpa using (shrunk_accepted s.tq a.sent).entries.subset

theorem StationBacked.withoutAttempt (h : StationBacked s) : StationBacked (s.withXi { s.xi with attempt := none }) where
  toAttemptSound := attemptSound_of_none rfl
  number := h.number
  outside := nofun
  joins := h.joins
  holds := h.holds.of_kept rfl rfl rfl rfl

theorem StationSafe.withoutAttempt (h : StationSafe s) : StationSafe (s.withXi { s.xi with attempt := none }) :=
  ⟨h.parts.withXi h.parts.rx, h.queue.withoutAttempt, h.backed.withoutAttempt⟩

/-- Entries may go from the queue with no attempt on the wire. -/
theorem StationBacked.of_fewer {t : State} (h : StationBacked s) (hx : t.xi = s.xi) (hn : s.xi.attempt = none)
    (hq : itemsOf t.tq ⊆ itemsOf s.tq) (hsc : t.sc = s.sc) (hre : t.re = s.re) (hbu : t.bu = s.bu) : StationBacked t where
  toAttemptSound := attemptSound_of_none (by rw [hx, hn])
  number := by rw [hx, hsc]; exact h.number
  outside := by simp [hx, hn]
  joins := by rw [hsc]; exact fun hj => joins_of_items hq (h.joins hj)
  holds := h.holds.of_entries (by rw [hbu]) (fun _ => entryFor_none_of_items hq) (by rw [hre]) (by rw [hre]) (by rw [hx])

theorem queueTold_safe (h : StationSafe s) (hn : s.xi.attempt = none) (a : Attempt) : StationSafe (queueTold a s) where
  parts := by
    unfold queueTold
    split
    · exact h.parts
    · exact runEnded_parts (h.parts.withTq fun k => by simp [h.parts.tq k])
  queue := by
    unfold queueTold
    split
    · exact h.queue
    · exact QueueTidy.safe ((h.queue.toQueueTidy.shrunk (shrunk_accepted s.tq a.sent)).of_kept (by simp) (by simp))
        (by simpa using hn)
  backed :=
    h.backed.of_fewer (by simp) hn (List.map_subset _ (queueTold_entries a s)) (by simp) (by simp) (by simp)

/-- Every other entry of the queue has another key than the entry that an own frame accepted was of (R93). -/
theorem queueTold_keyOf_ne (h : QueueSafe s) (ha : s.xi.attempt = some a) (hd : a.discarded = false) {i : Item}
    (hs : a.sent = .entry i) {e : Entry}
    (he : e ∈ (queueTold a (s.withXi { s.xi with attempt := none })).tq.entries) : keyOf e.item ≠ keyOf i := by
  obtain ⟨f, hf, hi, rfl⟩ := inFlight_entry (queueLawful_iff.mpr h) ha hd hs
  rw [queueTold_tq hd, hs] at he
  simp only [State.withXi_tq] at he
  rw [accepted_of_lawful h.single] at he
  exact beside_keyOf_ne h.keys hf hi (mem_of_mem_removeFirst he)

theorem ownFits_of_accepted (h : StationSafe s) (ha : s.xi.attempt = some a) (hr : a.unreported = false) :
    OwnFits a.frame (queueTold a (s.withXi { s.xi with attempt := none })) := by
  have henc := h.backed.encoded a ha
  have hin (hj : Joined s.sc.state) : a.discarded = false := h.backed.attempted hj a ha
  refine ⟨fun hj r m c y hb => ?_, fun hj b hb c hc hst hbr => ?_, fun hb hj => ?_, fun hb _ e he => ?_⟩
  · rw [hb] at henc
    refine List.find?_eq_none.mpr fun e he hfor => ?_
    refine queueTold_keyOf_ne h.queue ha (hin (by simpa using hj)) (encodes_of_claim henc) he ?_
    rw [(keyOf_eq_claimFamily _ r).mpr (by simpa [Entry.isFor] using hfor)]
    rfl
  · rw [hb] at henc
    obtain ⟨r, hsent, hbr'⟩ := encodes_of_drop henc
    obtain ⟨e, he, _, hi⟩ := inFlight_entry (queueLawful_iff.mpr h.queue) ha (hin (by simpa using hj)) hsent
    obtain rfl : r = c.resource := Fin.ext (hbr'.symm.trans hbr)
    have hnone := (h.backed.holds c (by simpa using hc)).1 (.inr hst)
    exact List.find?_eq_none.mp hnone e he (by simp [Entry.isFor, hi, Item.resource?])
  · have hj' : Joined s.sc.state := by simpa using hj
    have hnot (i : Item) (hi : i.isJoinOrLeave = true) (hsent : a.sent = .entry i) : False := by
      obtain ⟨e, he, _, rfl⟩ := inFlight_entry (queueLawful_iff.mpr h.queue) ha (hin hj') hsent
      simp [h.backed.joins hj' e he] at hi
    rcases hb with hb | hb
    · exact hnot .join rfl (encodes_of_join (hb ▸ henc))
    · exact hnot .leave rfl (encodes_of_leave (hb ▸ henc))
  · have hsent := encodes_of_join (hb ▸ henc)
    have hd : a.discarded = false := by
      by_contra k
      rcases h.backed.silent a ha (by simpa using k) with hu | ⟨hnj, _⟩
      · simp [hr] at hu
      · exact hnj hsent
    have hne := queueTold_keyOf_ne h.queue ha hd hsent he
    by_contra hi
    exact hne ((keyOf_eq_joinOrLeave _).mpr (by simpa using hi))

theorem OwnFits.harmless {f : Frame} (h : OwnFits f s) (hj : Joined s.sc.state) : Harmless true f s where
  spares c hc hst hnot := by
    unfold Spares
    split
    next b hb => exact fun _ => h.dropped hj b hb c hc hst
    next t why hb => exact absurd hb (hnot t why)
    next hb => exact absurd hj (h.outside (.inl hb))
    next hb => exact absurd hj (h.outside (.inr hb))
    all_goals trivial
  claimed _ := h.claimed hj

/-! ### An own frame accepted (R108) -/

theorem presenceMarked_safe (h : StationSafe s) : StationSafe (presenceMarked s) where
  parts := satisfied_parts h.parts _ fun k => by
    rcases Bool.or_eq_true_iff.mp k with k | k
    · exact h.parts.satisfied k
    · exact h.parts.presenceTimer ▸ k
  queue := withSc_queue h.queue _
  backed := h.backed.of_kept rfl rfl rfl rfl rfl rfl

theorem found_backed (h : StationSafe s) (hs : s.sc.state = .joinPending) (hn : s.xi.attempt = none)
    (hj : ∀ e ∈ s.tq.entries, e.item.isJoinOrLeave = false) : StationBacked (found s) := by
  have hr := withRe_backed h.backed (h.invalid (by simp [hs, StationState.inTable])) (ReplicaEngine.founded s.me)
  have hd : Departs (s.withRe (ReplicaEngine.founded s.me)) :=
    ⟨hr.toAttemptSound, withRe_queue h.queue _, (h.departs (by simp [hs])).numbered, hr.holds⟩
  have he := withSilence_backed
    (enterJoined_backed hd (st := .active) (.inr (.inr rfl)) (by simp [hn]) hj .founded) noSilence
  rw [found_eq]
  exact he.of_amends (takeUpClaims_amends _) (takeUpClaims_holds he.holds)

theorem ownJoinAccepted_backed (h : StationSafe s) (hn : s.xi.attempt = none)
    (hj : s.sc.state = .joinPending → ∀ e ∈ s.tq.entries, e.item.isJoinOrLeave = false) :
    StationBacked (ownJoinAccepted s) := by
  unfold ownJoinAccepted
  split
  next hs =>
    split
    · exact enterJoined_backed (h.departs (by simp [hs])) (.inl rfl) (by simp [hn]) (hj hs) _
    · exact found_backed h hs hn (hj hs)
  all_goals exact h.backed

theorem leaveEnds_backed (h : StationSafe s) (c : Cause) : StationBacked (leaveEnds c s) := by
  unfold leaveEnds
  split
  next hs => exact h.enters (by simp [hs]) (by simp) (by simp [StationState.tenureOnline]) s.sc c
  all_goals exact h.backed

/-- An own frame at the station controller, but for an own JOIN. -/
theorem ownFrameAccepted_backed (h : StationSafe s) {f : Frame} (hf : f.body ≠ .join) :
    StationBacked (ownFrameAccepted f s) := by
  have hm := presenceMarked_safe h
  have ha : StationSafe
      (if s.sc.state == .awaitSnapshot then frameWhileAwaiting f (presenceMarked s) else presenceMarked s) := by
    split
    next hs => exact frameWhileAwaiting_safe hm (by simpa [presenceMarked_sc] using hs) f
    · exact hm
  unfold ownFrameAccepted
  dsimp only
  split
  next hb => exact absurd hb hf
  · exact leaveEnds_backed ha _
  · exact ha.backed.of_amends (postNotice_amends _ _) (postNotice_holds ha.backed.holds _)
  all_goals exact ha.backed

theorem ownAccepted_backed (h : StationSafe s) (ha : s.xi.attempt = some a) (hr : a.unreported = false) :
    StationBacked (ownAccepted a (s.withXi { s.xi with attempt := none })) := by
  have hfit := ownFits_of_accepted h ha hr
  have hs := queueTold_safe h.withoutAttempt rfl a
  have hn : (queueTold a (s.withXi { s.xi with attempt := none })).xi.attempt = none := by simp
  rw [ownAccepted_eq]
  generalize queueTold a (s.withXi { s.xi with attempt := none }) = u at *
  have ho : StationBacked (ownFrameAccepted a.frame (applyFrame true a.frame u)) := by
    by_cases hb : a.frame.body = .join
    · have hj : ¬ Joined u.sc.state := hfit.outside (.inl hb)
      have hv : u.re.valid = false := by
        rw [hs.parts.valid]
        by_contra k
        exact hj (joined_of_inTable (by simpa using k))
      rw [applyFrame, if_neg (by simp [hv]), ownFrameAccepted_of_not_awaiting fun k => hj (.inl k), hb]
      exact ownJoinAccepted_backed (presenceMarked_safe hs) hn (hfit.alone hb)
    · refine ownFrameAccepted_backed (applyFrame_safe hs fun hv => hfit.harmless ?_) hb
      exact joined_of_inTable (hs.parts.valid ▸ hv)
  refine askStable_backed.attemptReport (ho.of_kept ?_ ?_ ?_ ?_ ?_ ?_) false <;> simp

/-! ### An own frame dropped (R109) -/

theorem dropped_items (h : QueueSafe s) (ha : s.xi.attempt = some a) (hd : a.discarded = false) :
    itemsOf (s.tq.dropped a.sent) ⊆ itemsOf s.tq := by
  match hs : a.sent with
  | .part k => exact List.map_subset _ (shrunk_partDropped s.tq).entries.subset
  | .entry i =>
    have hb : itemsOf s.tq.beside ⊆ itemsOf s.tq := List.map_subset _ (shrunk_beside s.tq).entries.subset
    obtain ⟨e, he, _, rfl⟩ := inFlight_entry (queueLawful_iff.mpr h) ha hd hs
    have happ : itemsOf (s.tq.beside.append e.item) ⊆ itemsOf s.tq := fun i hi => by
      rw [itemsOf_append] at hi
      rcases List.mem_append.mp hi with hi | hi
      · exact hb hi
      · exact List.mem_singleton.mp hi ▸ List.mem_map_of_mem he
    rw [dropped_of_lawful h.single]
    revert happ
    cases e.item with
    | expel t why => exact id
    | join => exact id
    | _ => exact fun _ => hb

/-- After the drop of a CLAIM or DROP frame its resource has no entry. -/
theorem dropped_entryFor (h : QueueSafe s) (ha : s.xi.attempt = some a) (hd : a.discarded = false) {i : Item}
    (hs : a.sent = .entry i) {r : Resource} (hr : i.resource? = some r) : (s.tq.dropped a.sent).entryFor r = none := by
  obtain ⟨e, he, hi, rfl⟩ := inFlight_entry (queueLawful_iff.mpr h) ha hd hs
  have hnone : s.tq.beside.entryFor r = none := List.find?_eq_none.mpr fun f hf hfor => by
    refine beside_keyOf_ne h.keys he hi hf ?_
    rw [(keyOf_eq_claimFamily _ r).mpr hr, (keyOf_eq_claimFamily _ r).mpr (by simpa [Entry.isFor] using hfor)]
  rw [hs, dropped_of_lawful h.single]
  revert hr
  cases e.item with
  | expel t why => exact nofun
  | join => exact nofun
  | _ => exact fun _ => hnone

theorem reportDropped_backed (h : StationSafe s) {what : Sent}
    (hn : ∀ r, what = .entry (.drop r) → s.tq.entryFor r = none) : StationBacked (reportDropped what s) := by
  unfold reportDropped
  split
  · exact h.backed.of_amends (claimDropped_amends s _) (claimDropped_holds h.backed.holds _)
  · exact h.backed.of_amends (dropDropped_amends s _) (dropDropped_holds h.backed.holds h.queue (hn _ rfl))
  · exact h.backed
  · exact h.backed
  · exact leaveEnds_backed h _
  all_goals exact h.backed

theorem advanceDropStreak_backed (h : StationSafe s) : StationBacked (advanceDropStreak s) := by
  unfold advanceDropStreak
  split
  · exact h.backed.of_kept rfl rfl rfl rfl rfl rfl
  · exact isolate_backed
      ⟨h.parts.withXi (x := { s.xi with dropStreak := 0 }) h.parts.rx,
        h.queue.of_kept rfl rfl rfl, h.backed.of_kept rfl rfl rfl rfl rfl rfl⟩ _

theorem ownDropped_backed (h : StationSafe s) (ha : s.xi.attempt = some a) (hd : a.discarded = false)
    (hq : s.sc.state.mayQueue = true) : StationBacked (ownDropped a (s.withXi { s.xi with attempt := none })) := by
  obtain ⟨u, hu⟩ : ∃ u, u = runEnded ((s.withXi { s.xi with attempt := none }).withTq (s.tq.dropped a.sent)) := ⟨_, rfl⟩
  have hus : StationSafe u := by
    subst hu
    refine ⟨runEnded_parts (h.withoutAttempt.parts.withTq fun k => ?_), ?_, ?_⟩
    · simp [hq] at k
    · exact QueueTidy.safe ((dropped_queue h.queue ha hd).of_kept (by simp) (by simp)) (by simp)
    · refine h.withoutAttempt.backed.of_fewer (by simp) rfl ?_ (by simp) (by simp) (by simp)
      simpa using dropped_items h.queue ha hd
  have hut : u.tq = s.tq.dropped a.sent := by simp [hu]
  have huq : u.sc.state.mayQueue = true := by simpa [hu] using hq
  have hr : StationSafe (reportDropped a.sent u) :=
    ⟨reportDropped_parts hus.parts huq _, reportDropped_queue hus.queue _,
      reportDropped_backed hus fun r hs => by rw [hut]; exact dropped_entryFor h.queue ha hd hs rfl⟩
  have hk := (countUp_amends .framesDropped (reportDropped a.sent u)).trans
    (postNotice_amends (droppedNotice a.sent) _)
  have hc : StationSafe (postNotice (droppedNotice a.sent) (countUp .framesDropped (reportDropped a.sent u))) := by
    refine ⟨hr.parts.of_kept (by simp) (by simp) (by simp) (by simp) (by simp) (by simp) fun _ => by simp,
      hr.queue.of_amends hk, hr.backed.of_amends hk (hr.backed.holds.of_kept rfl rfl rfl rfl)⟩
  have hown := askStable_backed.attemptReport (advanceDropStreak_backed hc) ((s.tq.dropped a.sent).rearmedFrom s.tq)
  rw [hu] at hown
  exact hown

theorem ownWindowCloses_backed (h : StationSafe s) (rejected : Bool) : StationBacked (ownWindowCloses rejected s) := by
  have hx := h.withoutAttempt.backed
  unfold ownWindowCloses
  dsimp only
  split
  · exact h.backed
  next a ha =>
    (repeat' split)
    · exact h.backed
    · exact hx
    next hr _ => exact ownAccepted_backed h ha (by simpa using hr)
    · exact askStable_backed.attemptReport hx _
    · exact askStable_backed.attemptReport hx _
    next hd hn =>
      refine ownDropped_backed h ha (by simpa using hd) (h.parts.mayQueue fun he => hn ?_)
      simp only [State.withXi_tq]
      rw [he]
      decide

end

end Sys2Proof.Machine
end

section
/-! PROOF. How a command ends: with the end of an event, with the port's records alone, or with a reset. So every step
leaves has-work told and the pins driven (O52), and the outputs follow the local claims (O9). -/

namespace Sys2Proof.Machine

open Sys2Proof.Safety

/-- The states that a command may end in: one that the end of an event leaves, one that differs in the port alone, and one
after the reset of the blocks. -/
inductive Ends (s : State) : State → Prop where
  | event (u : State) : Ends s (settle u)
  | port (p : ManagementPort) : Ends s (s.withMp p)
  | reset (b : Bool) : Ends s { s.blocksReset with powered := b }

section
variable {s t : State}

theorem Ends.refl (s : State) : Ends s s := .port s.mp

theorem ends_of_event {f : State → State} (h : event f s = .next t) : Ends s t :=
  Host.Outcome.next.inj h ▸ .event _

theorem ends_of_lineEvent {f : State → State} (h : lineEvent f s = .next t) : Ends s t :=
  Host.Outcome.next.inj h ▸ .event _

theorem ends_of_readEvent {received : List Byte} {a : State → Answer} (h : readEvent received a s = .next t) :
    Ends s t := by
  obtain rfl : takeRead received a s = t := Host.Outcome.next.inj h
  unfold takeRead settleAnswer
  split
  · exact .port _
  · exact .refl s

theorem ends_of_commandEvent {received : List Byte} {run : State → State × Answer}
    (h : commandEvent received run s = .next t) : Ends s t := by
  unfold commandEvent at h
  split at h
  · exact Host.Outcome.next.inj h ▸ .event _
  · exact Host.Outcome.next.inj h ▸ .refl s

/-- How each command of the table ends. -/
theorem exec_ends {c : Instr} (ht : exec c s = .next t) : Ends s t := by
  cases c with
  | powerOn => exact Host.Outcome.next.inj ht ▸ .reset true
  | powerLost => exact Host.Outcome.next.inj ht ▸ .reset false
  | resetAsserted =>
    refine Host.Outcome.next.inj ht ▸ ?_
    split
    · exact .reset s.powered
    · exact .refl s
  | resetReleased sid cfgsrc => exact ends_of_event ht
  | rise n =>
    change execRise n s = .next t at ht
    unfold execRise at ht
    exact ends_of_event ht
  | fall n =>
    change execFall n s = .next t at ht
    unfold execFall at ht
    exact ends_of_event ht
  | startMarkSeen => exact ends_of_event ht
  | closingMarkSeen bytes => exact ends_of_event ht
  | truncationSeen => exact ends_of_event ht
  | windowClose rejected => exact ends_of_event ht
  | closingMarkSent => exact ends_of_event ht
  | ownWindowClose rejected => exact ends_of_event ht
  | xtenAsserted => exact ends_of_lineEvent ht
  | contentionCloses other => exact ends_of_lineEvent ht
  | xtenReleased => exact ends_of_lineEvent ht
  | busQuietExpired => exact ends_of_event ht
  | xwantAsserted => exact ends_of_lineEvent ht
  | xwantReleased => exact ends_of_lineEvent ht
  | listenTimerExpired => exact ends_of_event ht
  | snapshotDeadlineExpired => exact ends_of_event ht
  | holdOffExpired => exact ends_of_event ht
  | periodEnd => exact ends_of_event ht
  | memoryReadAnswered image => exact ends_of_event ht
  | memoryReadNotAnswered => exact ends_of_event ht
  | readStatus => exact ends_of_readEvent ht
  | readMembers => exact ends_of_readEvent ht
  | readResource r => exact ends_of_readEvent ht
  | readBinding b => exact ends_of_readEvent ht
  | readCounters => exact ends_of_readEvent ht
  | readConfig offset number => exact ends_of_readEvent ht
  | clearCounters => exact ends_of_commandEvent ht
  | popNotice => exact ends_of_commandEvent ht
  | popComplete => exact Host.Outcome.next.inj ht ▸ .port _
  | writeConfig offset number data =>
    change execWriteConfig offset number data s = .next t at ht
    unfold execWriteConfig at ht
    split at ht
    · refine Host.Outcome.next.inj ht ▸ ?_
      split
      · exact .port _
      · exact .refl s
    · exact ends_of_commandEvent ht
  | start => exact ends_of_commandEvent ht
  | leave => exact ends_of_commandEvent ht
  | rejoin => exact ends_of_commandEvent ht
  | releaseLatch b => exact ends_of_commandEvent ht
  | unknownCommand code =>
    change execUnknownCommand code s = .next t at ht
    unfold execUnknownCommand at ht
    split at ht
    · exact Host.Outcome.next.inj ht ▸ .refl s
    · exact ends_of_readEvent ht
  | mcsAsserted =>
    refine Host.Outcome.next.inj ht ▸ ?_
    split
    · exact .port _
    · exact .refl s
  | mcsReleased => exact Host.Outcome.next.inj ht ▸ .port _

/-- Wanting the bus opens or joins a contention, or defers; nothing is handed. -/
theorem wantBus_told (h : s.tc.hasWork = s.tq.hasWork) : (wantBus s).tc.hasWork = (wantBus s).tq.hasWork := by
  unfold wantBus
  split <;> exact h

theorem tellWork_told (s : State) : (tellWork s).tc.hasWork = (tellWork s).tq.hasWork := by
  unfold tellWork
  dsimp only
  split
  · exact wantBus_told rfl
  all_goals rfl

theorem settle_settled (s : State) : Settled (settle s) := ⟨tellWork_told s, rfl⟩

/-- After a reset the queue has no work and every output stands at its reset level. -/
theorem reset_settled (s : State) (b : Bool) : Settled { s.blocksReset with powered := b } := by
  have hwork : TenureController.reset.hasWork = TransmitQueue.empty.hasWork := by decide
  have hpins : Pins.reset = State.reset.drivenPins := by decide +kernel
  exact ⟨hwork, hpins⟩

theorem Ends.settled (h : Ends s t) (hs : Settled s) : Settled t := by
  cases h with
  | event u => exact settle_settled u
  | port p => exact hs
  | reset b => exact reset_settled s b

/-- Settles O52: a step runs a command, and each way a command ends leaves has-work told and the pins driven. -/
theorem stepsSettle : Obligations.StepsSettle := by
  intro s t hs ht
  unfold step at ht
  split at ht
  · exact Host.Outcome.next.inj ht ▸ hs
  next c rest _ => exact (exec_ends ht).settled (s := { s with pending := rest }) hs

/-! ### The outputs to the board (R76, R77) -/

theorem gnt_of_settled (h : Settled s) (n : BindingNo) : s.pins.gnt[n] = gntLevel s.sc.state s.bu n := by
  rw [h.2]
  simp [State.drivenPins]

theorem yld_of_settled (h : Settled s) (n : BindingNo) : s.pins.yld[n] = yldLevel s.sc.state s.bu n := by
  rw [h.2]
  simp [State.drivenPins]

theorem gntLevel_iff {st : StationState} {b : BindingUnit} {n : BindingNo} :
    gntLevel st b n = true ↔
      st = .active ∧ ∃ c, b.config n = some c ∧ c.enabled = true ∧ b.request n = true ∧
        ∃ l, b.claimFor c.resource = some l ∧ l.state = .held := by
  unfold gntLevel
  cases b.config n with
  | none => simp
  | some c => cases hc : b.claimFor c.resource <;> simp [hc, and_assoc]

theorem yldLevel_iff {st : StationState} {b : BindingUnit} {n : BindingNo} :
    yldLevel st b n = true ↔
      gntLevel st b n = true ∧ ∃ c, b.config n = some c ∧
        ∃ l, b.claimFor c.resource = some l ∧ l.yieldSeen = true ∧ l.yieldable = true := by
  unfold yldLevel
  cases b.config n with
  | none => simp
  | some c => cases hc : b.claimFor c.resource <;> simp [hc]

/-- Settles O9: after every command the pins are driven, so each output stands at the level its rule gives. -/
theorem outputsFollowTheLocalClaims : Obligations.OutputsFollowTheLocalClaims := by
  intro c s t hs ht n
  have h := (exec_ends ht).settled hs
  rw [yld_of_settled h, gnt_of_settled h]
  exact ⟨gntLevel_iff, yldLevel_iff⟩

end

end Sys2Proof.Machine
end

section
/-! PROOF. Law L8 in every run from reset (O58). -/

namespace Sys2Proof.Machine

open Sys2Proof.Safety

section
variable {s : State}

/-! ### The marks of the pair (R103 to R105) -/

theorem rejectStreak_safe (h : StationSafe s) (n : Nat) : StationSafe (s.withXi { s.xi with rejectStreak := n }) :=
  ⟨h.parts.withXi h.parts.rx, h.queue.of_kept rfl rfl rfl, h.backed.of_kept rfl rfl rfl rfl rfl rfl⟩

theorem signalReject_backed (h : StationSafe s) (ho : s.sc.state.receiverOn = true) : StationBacked (signalReject s) := by
  have hx : PartsLawful (s.withXi { s.xi with rx := .damaged }) := h.parts.withXi fun k => by simp [ho] at k
  have hc : StationSafe (countUp .rejectsSignalled (s.withXi { s.xi with rx := .damaged })) :=
    ⟨hx, h.queue.of_kept rfl rfl rfl, h.backed.of_kept rfl rfl rfl rfl rfl rfl⟩
  unfold signalReject
  dsimp only
  split
  · exact (rejectStreak_safe hc _).backed
  · exact isolate_backed (rejectStreak_safe hc 0) _

theorem startMark_backed (h : StationBacked s) : StationBacked (startMark s) := by
  unfold startMark
  split
  · exact h.of_kept rfl rfl rfl rfl rfl rfl
  · exact h

theorem closingMark_backed (h : StationSafe s) (bytes : List Byte) : StationBacked (closingMark bytes s) := by
  unfold closingMark
  split
  next hx =>
    split
    · exact h.backed.of_kept rfl rfl rfl rfl rfl rfl
    · exact signalReject_backed h (h.parts.receiverOn (by simp [hx]))
  all_goals exact h.backed

theorem truncation_backed (h : StationBacked s) : StationBacked (truncation s) := by
  unfold truncation
  split
  · exact h.of_kept rfl rfl rfl rfl rfl rfl
  all_goals exact h

/-- The window of an own attempt begins: the attempt stays what it is of. -/
theorem mem_closingMarkSent {a : Attempt} (h : a ∈ (closingMarkSent s).xi.attempt) :
    ∃ b ∈ s.xi.attempt, b.sent = a.sent ∧ b.frame = a.frame ∧ b.discarded = a.discarded ∧ b.unreported = a.unreported := by
  obtain ⟨b, hb, rfl⟩ := Option.map_eq_some_iff.mp h
  refine ⟨b, hb, ?_⟩
  split <;> simp

theorem closingMarkSent_backed (h : StationBacked s) : StationBacked (closingMarkSent s) where
  encoded a ha := by
    obtain ⟨b, hb, hs, hf, _⟩ := mem_closingMarkSent ha
    rw [← hs, ← hf]
    exact h.encoded b hb
  gone a ha hd := by
    obtain ⟨b, hb, _, _, hbd, _⟩ := mem_closingMarkSent ha
    exact h.gone b hb (hbd.trans hd)
  silent a ha hd := by
    obtain ⟨b, hb, hs, _, hbd, hu⟩ := mem_closingMarkSent ha
    rw [← hs, ← hu]
    exact h.silent b hb (hbd.trans hd)
  number := h.number
  outside a ha hd := by
    obtain ⟨b, hb, _, _, hbd, _⟩ := mem_closingMarkSent ha
    exact h.outside b hb (hbd.trans hd)
  joins := h.joins
  holds := h.holds.of_kept rfl rfl rfl rfl

/-! ### The lines of the board and the timers -/

theorem changeRequest_backed (h : StationSafe s) (n : BindingNo) {f : BindingUnit → BindingUnit}
    (hf : ∀ b, (f b).claims = b.claims ∧ (f b).bindings = b.bindings) : StationBacked (changeRequest n f s) :=
  h.backed.of_amends (changeRequest_amends s n hf) (changeRequest_holds h.backed.holds h.queue n hf)

theorem listenEnds_backed (h : StationSafe s) : StationBacked (listenEnds s) := by
  unfold listenEnds
  split
  next hl =>
    have hs : s.sc.state = .listening := by simpa [h.parts.listenTimer] using hl
    exact joinAgain_backed (h.departs (by simp [hs])) _
  · exact h.backed

theorem deadlineExpires_backed (h : StationSafe s) : StationBacked (deadlineExpires s) := by
  unfold deadlineExpires
  split
  next hd =>
    split
    · exact h.backed.of_kept rfl rfl rfl rfl rfl rfl
    · exact deadlineTakesEffect_backed h (Decidable.not_not.mp fun hs => by simp [h.parts.deadline.mpr hs] at hd)
  all_goals exact h.backed

theorem holdOffExpires_backed (h : StationSafe s) : StationBacked (holdOffExpires s) := by
  unfold holdOffExpires
  split
  next hi =>
    have hs : s.sc.state = .isolated := by simpa [h.parts.holdOffTimer] using hi
    unfold holdOffEnds
    refine h.enters (by simp [hs]) ?_ (fun _ _ => .inl (by simp [hs, StationState.mayQueue])) _ _
    split <;> simp
  · exact h.backed

theorem presenceDuty_backed (h : StationBacked s) : StationBacked (presenceDuty s) := by
  unfold presenceDuty
  dsimp only
  split
  · exact h.of_kept rfl rfl rfl rfl rfl rfl
  · exact (addPresence_backed h).of_kept rfl rfl rfl rfl rfl rfl

theorem advanceSilence_backed (h : StationBacked s) : StationBacked (advanceSilence s) := by
  unfold advanceSilence
  dsimp only
  (repeat' split)
  · have hs := withSilence_backed h (mapTable (Silence.advance · s.limit) s.sc.silence)
    exact hs.of_amends (askSilentExpels_amends _ _) (askSilentExpels_holds hs.holds _)
  · exact withSilence_backed h _
  · exact h

theorem periodEnds_backed (h : StationBacked s) : StationBacked (periodEnds s) := by
  unfold periodEnds
  split
  · exact advanceSilence_backed (presenceDuty_backed h)
  · exact h

/-! ### Configuration and reset -/

theorem configurationFault_backed (h : StationSafe s) (hs : s.sc.state ≠ .reset) (r : FaultReason) (c : Cause)
    (d : FaultDetail) : StationBacked (configurationFault r c d s) := by
  have hd := h.departs hs
  have hl (l : ConfigLoader) : Departs (s.withCl l) :=
    ⟨hd.toAttemptSound.of_kept rfl rfl, h.queue.of_kept rfl rfl rfl, hd.numbered, hd.holds.of_kept rfl rfl rfl rfl⟩
  have hk (l : ConfigLoader) (b : StationController) : StationBacked (enterState .fault c ((s.withCl l).withSc b)) :=
    enterState_backed ((hl l).withSc b) (by simp) (by simp [StationState.tenureOnline]) (fun _ => h.offline_inFlight) c
  exact hk _ _

/-- A fresh Local Claim Table stands on nothing: each of its claims is in NONE (R53, R57). -/
theorem freeze_backed (h : StationSafe s) (hs : s.sc.state = .config ∨ s.sc.state = .loading) (img : Vector Byte 30) :
    StationBacked (freeze img s) := by
  have hne : s.sc.state ≠ .reset := by rcases hs with hs | hs <;> simp [hs]
  have hq : s.tq = TransmitQueue.empty := h.parts.tq (by rcases hs with hs | hs <;> simp [hs, StationState.mayQueue])
  have hd := h.departs hne
  have hk (u : State) (hxi : u.xi = s.xi) (hut : u.tq = s.tq) (huc : u.tc.state = s.tc.state) :
      StationBacked (enterState .listening .configured (u.withBu (u.bu.freeze (bindingsOf img)))) := by
    refine enterState_backed ⟨?_, ⟨⟨localClaims_lawful u.bu _, ?_, ?_, ?_⟩, ?_⟩, ?_, ?_⟩ (by simp) ?_ ?_ _
    · exact hd.toAttemptSound.of_kept (by rw [State.withBu_xi, hxi]) (by rw [State.withBu_tq, hut])
    · simp [hut, hq, TransmitQueue.empty]
    · simp [hut, hq, TransmitQueue.empty]
    · simp [hut, hq, TransmitQueue.empty, inFlight]
    · intro a ha hdis
      rw [State.withBu_tq, hut]
      exact h.queue.link a (by simpa [hxi] using ha) hdis
    · simpa [hxi] using hd.numbered
    · exact holdsBacked_of_idle fun c hc => by
        obtain ⟨hst, _⟩ := mem_localClaims hc
        simp [ClaimState.idle, hst]
    · simp [hut, hq, TransmitQueue.empty]
    · simp [StationState.tenureOnline]
  exact hk _ rfl rfl rfl

theorem takeImage_backed (h : StationSafe s) (hs : s.sc.state = .config ∨ s.sc.state = .loading) (img : Vector Byte 30) :
    StationBacked (takeImage img s) := by
  have hne : s.sc.state ≠ .reset := by rcases hs with hs | hs <;> simp [hs]
  unfold takeImage
  split
  · exact freeze_backed h hs img
  · exact configurationFault_backed h hne _ _ _
  · exact configurationFault_backed h hne _ _ _

theorem memoryAnswered_backed (h : StationSafe s) (img : Vector Byte 30) : StationBacked (memoryAnswered img s) := by
  unfold memoryAnswered
  split
  next hr => exact takeImage_backed h (.inr (h.parts.reading.mp hr)) img
  all_goals exact h.backed

theorem memoryNotAnswered_backed (h : StationSafe s) : StationBacked (memoryNotAnswered s) := by
  unfold memoryNotAnswered
  split
  next hr =>
    have hs : s.sc.state = .loading := h.parts.reading.mp hr
    have he : StationSafe (endFailedRead s) :=
      ⟨h.parts, h.queue.of_kept rfl rfl rfl, h.backed.of_kept rfl rfl rfl rfl rfl rfl⟩
    dsimp only
    split
    · exact he.backed
    · exact configurationFault_backed he (fun k => by simp [show s.sc.state = .reset from k] at hs) _ _ _
  all_goals exact h.backed

theorem releaseReset_backed (h : StationSafe s) (sid : Station) (cfgsrc : Bool) :
    StationBacked (releaseReset sid cfgsrc s) := by
  have hq : QueueSafe (s.withXi { s.xi with number := some sid }) := h.queue.of_kept rfl rfl rfl
  unfold releaseReset
  split
  next hs =>
    have hv : s.re.valid = false := h.invalid (by simp [hs, StationState.inTable])
    have hd (l : ConfigLoader) : Departs ((s.withXi { s.xi with number := some sid }).withCl l) :=
      { toAttemptSound := h.backed.toAttemptSound.of_kept rfl rfl
        queue := hq.of_kept rfl rfl rfl
        numbered := nofun
        holds := fun c hc => ⟨(h.backed.holds c hc).1, fun k => absurd k (ne_held_of_invalid h.backed.holds hv hc)⟩ }
    dsimp only
    split
    · exact enterState_backed (hd _) (by simp) (by simp [StationState.tenureOnline]) (fun _ => h.offline_inFlight) _
    · exact enterState_backed (hd _) (by simp) (by simp [StationState.tenureOnline]) (fun _ => h.offline_inFlight) _
  all_goals exact h.backed

theorem reset_backed (s : State) (b : Bool) : StationBacked { s.blocksReset with powered := b } where
  toAttemptSound := attemptSound_of_none rfl
  number _ := rfl
  outside := nofun
  joins _ := nofun
  holds := nofun

/-! ### Every step, and every run from reset (O58) -/

theorem leadsTo_backed (h : StationSafe s) : LeadsTo StationBacked s where
  stay := h.backed
  atEnd _ hu := askStable_backed.settle hu
  port _ _ hu := hu.of_kept rfl rfl rfl rfl rfl rfl
  reset := reset_backed s
  release := releaseReset_backed h
  rise n := changeRequest_backed h n fun _ => ⟨rfl, rfl⟩
  fall n := changeRequest_backed h n fun _ => ⟨rfl, rfl⟩
  latch n := changeRequest_backed h n fun _ => ⟨rfl, rfl⟩
  marked := startMark_backed h.backed
  closed := closingMark_backed h
  truncated := truncation_backed h.backed
  window := windowCloses_backed h
  sent := closingMarkSent_backed h.backed
  ownWindow := ownWindowCloses_backed h
  xtenOn := h.backed.of_kept (by simp) (by simp) (by simp) (by simp) (by simp) (by simp)
  contention := askStable_backed.contentionCloses (fun _ _ hu => hu.of_kept rfl rfl rfl rfl rfl rfl) h.backed
  xtenOff := h.backed.of_kept (by simp) (by simp) (by simp) (by simp) (by simp) (by simp)
  quiet := h.backed.of_kept (by simp) (by simp) (by simp) (by simp) (by simp) (by simp)
  xwantOn := h.backed.of_kept (by simp) (by simp) (by simp) (by simp) (by simp) (by simp)
  xwantOff := h.backed.of_kept (by simp) (by simp) (by simp) (by simp) (by simp) (by simp)
  listened := listenEnds_backed h
  deadline := deadlineExpires_backed h
  holdOff := holdOffExpires_backed h
  period := periodEnds_backed h.backed
  answered := memoryAnswered_backed h
  notAnswered := memoryNotAnswered_backed h
  written _ := h.backed.of_kept rfl rfl rfl rfl rfl rfl
  started hs := takeImage_backed h (.inl hs) _
  left := leaveTable_backed h
  rejoined hs :=
    h.enters (by simp [hs]) (by simp) (fun _ _ => .inl (by simp [hs, StationState.mayQueue])) s.sc _

theorem step_keeps_claimsBacked {t : State} (hp : PartsLawful s) (hq : QueueLawful s) (hb : ClaimsBacked s)
    (ht : step s = .next t) : ClaimsBacked t := by
  have hs (rest : List Instr) : StationSafe { s with pending := rest } :=
    ⟨hp, queueLawful_iff.mp hq, claimsBacked_iff.mp hb⟩
  exact claimsBacked_iff.mpr (LeadsTo.step (claimsBacked_iff.mp hb) (fun rest => leadsTo_backed (hs rest)) ht)

/-- GNT follows the local claim in HELD, and the claim is backed by the replica. -/
theorem grantsBacked_of_settled (hs : Settled s) (hb : ClaimsBacked s) : GrantsBacked s := by
  intro n
  rw [yld_of_settled hs, gnt_of_settled hs]
  refine ⟨fun hy => (yldLevel_iff.mp hy).1, fun hg => ?_⟩
  obtain ⟨hst, c, hc, he, hr, l, hl, hheld⟩ := gntLevel_iff.mp hg
  obtain ⟨hv, hh⟩ := ((claimsBacked_iff.mp hb).holds l (claimFor_mem hl)).2 hheld
  exact ⟨hst, hv, c, hc, he, hr,
    (congrArg (fun r => s.re.records[r].holds s.me) (claimFor_resource hl)).symm.trans hh⟩

/-- What a run from reset keeps, whatever commands are sent. -/
structure RunSafe (s : State) : Prop where
  settled : Settled s
  parts : PartsLawful s
  queue : QueueLawful s
  backed : ClaimsBacked s

theorem runSafe_reset (cs : List Instr) : RunSafe { State.reset with pending := cs } where
  settled := reset_settled { State.reset with pending := cs } true
  parts := reset_parts { State.reset with pending := cs } true
  queue := queueLawful_iff.mpr ⟨⟨⟨.nil, Nat.zero_le _, nofun⟩, .nil, nofun, Nat.zero_le _⟩, nofun⟩
  backed := claimsBacked_iff.mpr (reset_backed { State.reset with pending := cs } true)

theorem RunSafe.step {t : State} (h : RunSafe s) (ht : step s = .next t) : RunSafe t where
  settled := stepsSettle s t h.settled ht
  parts := stepsKeepTheParts s t h.parts ht
  queue := stepsKeepTheQueue s t h.queue ht
  backed := step_keeps_claimsBacked h.parts h.queue h.backed ht

theorem run_succ {M : Host.Core} {k : Nat} {a b : M.State} (h : M.run (k + 1) a = .next b) :
    ∃ u, M.step a = .next u ∧ M.run k u = .next b := by
  rw [Host.Core.run] at h
  split at h
  next u hu => exact ⟨u, hu, h⟩
  all_goals simp at h

theorem RunSafe.run {t : State} (k : Nat) (h : RunSafe s) (ht : Host.Core.run Sys2Proof.core k s = .next t) :
    RunSafe t := by
  induction k generalizing s with
  | zero => exact Host.Outcome.next.inj ht ▸ h
  | succ k ih =>
    obtain ⟨u, hu, hk⟩ := run_succ ht
    exact ih (h.step hu) hk

/-- Settles O58: each operation that a command starts with keeps what backs the claims, and a run from reset has it from its
first state. -/
theorem grantsAreBackedInEveryRun : Obligations.GrantsAreBackedInEveryRun :=
  ⟨fun _ _ => step_keeps_claimsBacked, fun _ => grantsBacked_of_settled, fun cs k _ ht =>
    have h := (runSafe_reset cs).run k ht
    grantsBacked_of_settled h.settled h.backed⟩

end

end Sys2Proof.Machine
end

section
/-! PROOF. The claim lines (O6), a demand fall (O8) and the release of a latch (O49): what a change of a request leaves of
the board, and the demand event that it takes. -/

namespace Sys2Proof.Machine

open Sys2Proof.Safety

/-! ### What a change of a request leaves of the board (R55, R56) -/

@[simp] theorem demandFall_board (c : LocalClaim) (s : State) : (demandFall c s).bu.board = s.bu.board := by
  unfold demandFall
  dsimp only
  (repeat' split) <;> simp

/-- The demand events are the local claims' alone. -/
theorem changeRequest_board (n : BindingNo) (f : BindingUnit → BindingUnit) (s : State) :
    (changeRequest n f s).bu.board = (f s.bu).board := by
  unfold changeRequest
  dsimp only
  split
  · rfl
  · split
    · exact onClaim_keeps (·.bu.board) _ _ (fun c u => by split <;> simp) _
    · rfl

/-- The binding unit with the level of CLMn low. -/
def fallen (n : BindingNo) (b : BindingUnit) : BindingUnit := { b with lines := b.lines.set n false }

/-- The binding unit with the latch of binding n clear. -/
def unlatched (n : BindingNo) (b : BindingUnit) : BindingUnit := { b with latches := b.latches.set n false }

theorem exec_fall_of_high {n : BindingNo} {s : State} (hp : s.powered = true) (hst : s.sc.state ≠ .reset)
    (hn : s.bu.lines[n] = true) : exec (.fall n) s = .next (settle (lineFall n s)) := by
  have hhigh : ¬ (s.sc.state = .reset ∨ s.bu.lines[n] = false) := by simpa using ⟨hst, hn⟩
  exact (event_of_powered hp fun s => if s.sc.state = .reset ∨ s.bu.lines[n] = false then s else lineFall n s).trans
    (congrArg (Host.Outcome.next ∘ settle) (if_neg hhigh))

theorem settle_lineRise_board (n : BindingNo) (s : State) :
    (settle (lineRise n s)).bu.board = (raised n s).board := by
  rw [settle_bu, tellWork_board, lineRise, changeRequest_board]
  rfl

theorem settle_lineFall_board (n : BindingNo) (s : State) :
    (settle (lineFall n s)).bu.board = (fallen n s.bu).board := by
  rw [settle_bu, tellWork_board, lineFall, changeRequest_board]
  rfl

/-- Settles O6: a line change is the board's alone, whatever demand event it makes. -/
theorem lineChangesAreTaken : Obligations.LineChangesAreTaken := by
  intro n s hp hst
  refine ⟨fun hn => ?_, fun hn => ?_⟩
  · obtain ⟨hb, hl, ha⟩ := board_fields (settle_lineRise_board n s)
    refine ⟨_, exec_rise_of_low hp hst hn, hl, ha.trans ?_, hb, by simp, by simp, by simp [OutsideKept]⟩
    simp [raised]
  · obtain ⟨hb, hl, ha⟩ := board_fields (settle_lineFall_board n s)
    exact ⟨_, exec_fall_of_high hp hst hn, hl, ha, hb, by simp, by simp, by simp [OutsideKept]⟩

/-! ### The demand fall that a change of a request takes (R58) -/

/-- A change of a request that ends the demand of a local claim in ACTIVE takes the demand event. -/
theorem changeRequest_of_fall {n : BindingNo} {s : State} {b : BindingConfig} {c : LocalClaim}
    {f : BindingUnit → BindingUnit} (hst : s.sc.state = .active) (hb : s.bu.config n = some b) (he : b.enabled = true)
    (hc : (f s.bu).claimFor b.resource = some c) (hd : s.bu.demand c = true) (hf : (f s.bu).demand c = false) :
    changeRequest n f s = demandFall c (s.withBu (f s.bu)) := by
  have hc' : (s.withBu (f s.bu)).bu.claimFor b.resource = some c := hc
  unfold changeRequest
  rw [hb]
  dsimp only
  rw [if_pos (by simp [he, hst]), onClaim_of_some _ hc', hd]
  simp only [State.withBu_bu, hf]

theorem demand_of_request {b : BindingUnit} {c : LocalClaim} {n : BindingNo} (hn : n ∈ c.bindings)
    (hr : b.request n = true) : b.demand c = true :=
  List.any_eq_true.mpr ⟨n, hn, hr⟩

theorem demand_of_no_request {b : BindingUnit} {c : LocalClaim} (h : ∀ n ∈ c.bindings, b.request n = false) :
    b.demand c = false :=
  List.any_eq_false.mpr fun n hn => by simp [h n hn]

theorem request_of_level {b : BindingUnit} {n : BindingNo} {k : BindingConfig} (hk : b.config n = some k)
    (he : k.enabled = true) (ht : k.trigger = .level) : b.request n = b.lines[n] := by
  simp [BindingUnit.request, hk, he, ht]

theorem request_of_latched {b : BindingUnit} {n : BindingNo} {k : BindingConfig} (hk : b.config n = some k)
    (he : k.enabled = true) (ht : k.trigger = .latched) : b.request n = b.latches[n] := by
  simp [BindingUnit.request, hk, he, ht]

theorem fallen_request {b : BindingUnit} {n : BindingNo} {k : BindingConfig} (hk : b.config n = some k)
    (he : k.enabled = true) (ht : k.trigger = .level) : (fallen n b).request n = false := by
  rw [request_of_level (b := fallen n b) hk he ht]
  exact set_getElem_self _ _ _

theorem fallen_request_of_ne {n m : BindingNo} (h : m ≠ n) (b : BindingUnit) : (fallen n b).request m = b.request m := by
  have hl : (fallen n b).lines[m] = b.lines[m] := set_getElem_of_ne _ _ h
  unfold BindingUnit.request
  rw [hl]
  rfl

theorem unlatched_request {b : BindingUnit} {n : BindingNo} {k : BindingConfig} (hk : b.config n = some k)
    (he : k.enabled = true) (ht : k.trigger = .latched) : (unlatched n b).request n = false := by
  rw [request_of_latched (b := unlatched n b) hk he ht]
  exact set_getElem_self _ _ _

/-- Without a request a binding has neither output (R76, R77). -/
theorem settle_pins_of_no_request {s : State} {n : BindingNo} (h : (settle s).bu.request n = false) :
    (settle s).pins.gnt[n] = false ∧ (settle s).pins.yld[n] = false := by
  have hg : gntLevel s.sc.state (settle s).bu n = false := Bool.eq_false_iff.mpr fun k => by
    obtain ⟨_, _, _, _, hr, _⟩ := gntLevel_iff.mp k
    exact absurd (hr.symm.trans h) nofun
  have hy : yldLevel s.sc.state (settle s).bu n = false := Bool.eq_false_iff.mpr fun k =>
    absurd ((yldLevel_iff.mp k).1.symm.trans hg) nofun
  rw [settle_gnt, settle_yld]
  exact ⟨hg, hy⟩

/-! ### A demand fall by the state of the local claim (R60, R62, R69, R71, R75) -/

section
variable {s : State} {c : LocalClaim} {r : Resource} (hc : s.bu.claimFor r = some c)
include hc

theorem demandFall_of_standing (hcs : c.state = .waiting ∨ c.state = .held) (hn : s.tq.entryFor r = none) :
    (demandFall c s).bu.claimFor r =
        some { c with state := .dropping, cancel := false, reclaim := false, yieldSeen := c.yieldSeen && c.state == .held } ∧
      (demandFall c s).tq = s.tq.append (.drop r) := by
  have hd : demandFall c s = enterDropping c (c.yieldSeen && c.state == .held) s := by
    rcases hcs with hcs | hcs
    · simp only [demandFall, hcs, show (ClaimState.waiting == .held) = false from rfl, Bool.and_false]
    · simp only [demandFall, hcs, show (ClaimState.held == .held) = true from rfl, Bool.and_true]
  rw [hd]
  exact ⟨(enterDropping_leaves hc _).1,
    handDrop_tq (s := putClaim { c.to .dropping with yieldSeen := _ } s) (claimFor_resource hc) hn⟩

theorem demandFall_of_queued (hcs : c.state = .queued) (hk : (s.tq.entries.map fun e => keyOf e.item).Nodup) {e : Entry}
    (he : s.tq.entryFor r = some e) (hi : e.item.isClaim = true) :
    if e.inFlight = true then
      (demandFall c s).bu.claimFor r = some { c.to .sending with cancel := true } ∧ (demandFall c s).tq = s.tq
    else (demandFall c s).bu.claimFor r = some (c.to .none) ∧ (demandFall c s).tq = withoutEntryFor s.tq r := by
  have hr : c.resource = r := claimFor_resource hc
  subst hr
  split
  next hf =>
    have hd : demandFall c s = putClaim { c.to .sending with cancel := true } s := by
      simp [demandFall, hcs, TransmitQueue.addDrop, he, hi, hf]
    rw [hd]
    exact ⟨putClaim_claimFor_same s (c := { c.to .sending with cancel := true }) rfl hc, rfl⟩
  next hf =>
    have hrem : removeFirst (Entry.isFor c.resource) s.tq.entries =
        s.tq.entries.filter fun e => e.item.resource? != some c.resource :=
      removeFirst_eq_filter (isFor_pairwise hk c.resource)
    have hd : demandFall c s = putClaim (c.to .none) (s.withTq (withoutEntryFor s.tq c.resource)) := by
      simp [demandFall, hcs, TransmitQueue.addDrop, he, hi, hf, hrem]
    rw [hd]
    exact ⟨putClaim_claimFor_same (s.withTq _) (c := c.to .none) rfl hc, rfl⟩

theorem demandFall_of_sending (hcs : c.state = .sending) :
    (demandFall c s).bu.claimFor r = some { c with cancel := true } ∧ (demandFall c s).tq = s.tq := by
  have hd : demandFall c s = putClaim { c with cancel := true } s := by simp [demandFall, hcs]
  rw [hd]
  exact ⟨putClaim_claimFor_same s (c := { c with cancel := true }) (claimFor_resource (c := c) hc) hc, rfl⟩

theorem demandFall_of_dropping (hcs : c.state = .dropping) :
    (demandFall c s).bu.claimFor r = some { c with reclaim := false } ∧ (demandFall c s).tq = s.tq := by
  have hd : demandFall c s = putClaim { c with reclaim := false } s := by simp [demandFall, hcs]
  rw [hd]
  exact ⟨putClaim_claimFor_same s (c := { c with reclaim := false }) (claimFor_resource (c := c) hc) hc, rfl⟩

theorem demandFall_of_refused (hcs : c.state = .refused) :
    (demandFall c s).bu.claimFor r = some (c.to .none) ∧ (demandFall c s).tq = s.tq := by
  have hd : demandFall c s = putClaim (c.to .none) s := by simp [demandFall, hcs]
  rw [hd]
  exact ⟨putClaim_leaves hc _, rfl⟩

end

/-- Settles O8, by the states of the local claim that takes the demand event. -/
theorem demandFallHandsADrop : Obligations.DemandFallHandsADrop := by
  intro n s b c hp hst hpark hline hcfg hen htrig hc hn hothers
  obtain ⟨u, hu⟩ : ∃ u, u = s.withBu (fallen n s.bu) := ⟨_, rfl⟩
  have huc : u.bu.claimFor b.resource = some c := hu ▸ hc
  have hutq : u.tq = s.tq := by simp [hu]
  have hlow : (fallen n s.bu).request n = false := fallen_request hcfg hen htrig
  have hdemand : (fallen n s.bu).demand c = false := demand_of_no_request fun k hk => by
    by_cases hkn : k = n
    · exact hkn ▸ hlow
    · exact (fallen_request_of_ne hkn s.bu).trans (hothers k hk hkn)
  have hfall : lineFall n s = demandFall c u := hu ▸
    changeRequest_of_fall hst hcfg hen (f := fallen n) hc
      (demand_of_request hn ((request_of_level hcfg hen htrig).trans hline)) hdemand
  have hboard := settle_lineFall_board n s
  rw [hfall] at hboard
  obtain ⟨htq, hbu, -⟩ := settle_of_not_parked (s := demandFall c u) (by simpa [hu] using hpark)
  obtain ⟨hgnt, hyld⟩ := settle_pins_of_no_request ((request_of_board hboard n).trans hlow)
  refine ⟨_, hfall ▸ exec_fall_of_high hp (by simp [hst]) hline, hgnt, hyld, by simp [hu], by simp [hu], by simp [hu],
    ?_, ?_, ?_, ?_, ?_⟩ <;> rw [htq, hbu, ← hutq]
  · exact demandFall_of_standing huc
  · intro e hcs hq he hi
    obtain ⟨_, hkeys, _⟩ := hq
    exact demandFall_of_queued huc hcs (hutq ▸ hkeys) he hi
  · exact demandFall_of_sending huc
  · exact demandFall_of_dropping huc
  · exact demandFall_of_refused huc

/-! ### RELEASE LATCH (R56, R186) -/

/-- A command answered with no event of its own settles the answer and changes nothing else. -/
theorem commandEvent_of_unmoved {s : State} (hs : Settled s) (h : PortReady s) {received : List Byte}
    {run : State → State × Answer} {a : Answer} (hr : run s = (s, a)) :
    commandEvent received run s = .next { s with mp := taken s received a.response } := by
  have ht : takeCommand received run s = { s with mp := taken s received a.response } := by
    unfold takeCommand
    rw [if_pos (ready_of_portReady h), hr]
    rfl
  unfold commandEvent
  rw [if_pos (ready_of_portReady h), ht, settle_of_settled { s with mp := taken s received a.response } hs]

theorem isLatched_eq {b : BindingUnit} {n : BindingNo} {k : BindingConfig} (h : b.config n = some k) :
    b.isLatched n = (k.enabled && k.trigger == .latched) := by
  simp [BindingUnit.isLatched, h]

/-- RELEASE LATCH at a port that can take it: what it does, and its answer. -/
def releaseRun (b : Byte) (s : State) : State × Answer :=
  match bindingArg b with
  | none => (s, Answer.only .badArgument)
  | some n =>
    if s.bu.bindings.isNone then (s, Answer.only .wrongState)
    else if s.bu.isLatched n then (clearLatch n s, Answer.ok [])
    else (s, Answer.only .badArgument)

theorem exec_releaseLatch (b : Byte) (s : State) : exec (.releaseLatch b) s = commandEvent [20, b] (releaseRun b) s := rfl

/-- A binding has a configuration from the freeze on (R53). -/
theorem bindings_isNone_of_config {b : BindingUnit} {n : BindingNo} {k : BindingConfig} (h : b.config n = some k) :
    b.bindings.isNone = false := by
  cases hb : b.bindings with
  | none => simp [BindingUnit.config, hb] at h
  | some v => rfl

theorem bindingArg_of_eq {b : Byte} {n : BindingNo} (h : b.toNat = n.val) : bindingArg b = some n := by
  rw [bindingArg_of_le (by omega)]
  exact congrArg some (Fin.ext h)

section
variable {s : State} {b : Byte} {n : BindingNo} {c : BindingConfig} (hn : b.toNat = n.val) (hc : s.bu.config n = some c)
include hn hc

/-- A binding that is LEVEL or not enabled has no latch to release (R186). -/
theorem releaseRun_of_unlatched (h : c.enabled = false ∨ c.trigger = .level) :
    releaseRun b s = (s, Answer.only .badArgument) := by
  have hl : s.bu.isLatched n = false := by
    rw [isLatched_eq hc]
    rcases h with h | h <;> simp [h]
  simp [releaseRun, bindingArg_of_eq hn, bindings_isNone_of_config hc, hl]

theorem releaseRun_of_latched (he : c.enabled = true) (ht : c.trigger = .latched) :
    releaseRun b s = (clearLatch n s, Answer.ok []) := by
  have hl : s.bu.isLatched n = true := by simp [isLatched_eq hc, he, ht]
  simp [releaseRun, bindingArg_of_eq hn, bindings_isNone_of_config hc, hl]

/-- The state after the release of a latch and its answer, before the end of the event. -/
theorem exec_releaseLatch_of_latched (hport : PortReady s) (he : c.enabled = true) (ht : c.trigger = .latched) :
    exec (.releaseLatch b) s = .next (settle (settleAnswer [20, b] (Answer.ok []) (clearLatch n s))) := by
  rw [exec_releaseLatch, commandEvent, if_pos (ready_of_portReady hport), takeCommand,
    if_pos (ready_of_portReady hport), releaseRun_of_latched hn hc he ht]

end

/-- Settles O49: RELEASE LATCH clears the latch as a change of a request, with its demand event, or is refused. -/
theorem releaseLatchEndsTheRequest : Obligations.ReleaseLatchEndsTheRequest := by
  intro s b hs hport
  refine ⟨fun hb => ?_, fun hb hnone => ?_, fun n c hn hc => ⟨fun h => ?_, fun he ht => ?_⟩⟩
  · exact commandEvent_of_unmoved hs hport (a := Answer.only .badArgument)
      (show releaseRun b s = _ by simp [releaseRun, bindingArg_of_gt hb])
  · exact commandEvent_of_unmoved hs hport (a := Answer.only .wrongState)
      (show releaseRun b s = _ by simp [releaseRun, bindingArg_of_le hb, hnone])
  · exact commandEvent_of_unmoved hs hport (releaseRun_of_unlatched hn hc h)
  · obtain ⟨u, hu⟩ : ∃ u, u = settleAnswer [20, b] (Answer.ok []) (clearLatch n s) := ⟨_, rfl⟩
    have hub : u.bu = (clearLatch n s).bu := by simp [hu, settleAnswer]
    have hutq : u.tq = (clearLatch n s).tq := by simp [hu, settleAnswer]
    have hboard : (settle u).bu.board = (unlatched n s.bu).board := by
      rw [settle_bu, tellWork_board, hub, clearLatch, changeRequest_board]
      rfl
    obtain ⟨hbind, hlines, hlatches⟩ := board_fields hboard
    have hlow : (unlatched n s.bu).request n = false := unlatched_request hc he ht
    obtain ⟨hgnt, _⟩ := settle_pins_of_no_request ((request_of_board hboard n).trans hlow)
    refine ⟨settle u, hu ▸ exec_releaseLatch_of_latched hn hc hport he ht, hlatches, hlines, hbind, ?_, hgnt, ?_, ?_, ?_,
      fun l hst hpark hlatch hl hheld hone hnone => ?_⟩
    · simp only [settle_keeps, hu]
      rfl
    · simp [hu, settleAnswer]
    · simp [hu, settleAnswer]
    · simp [OutsideKept, hu, settleAnswer]
    · have hdemand : (unlatched n s.bu).demand l = false := demand_of_no_request fun k hk => by
        rw [hone] at hk
        exact List.mem_singleton.mp hk ▸ hlow
      have hfall : clearLatch n s = demandFall l (s.withBu (unlatched n s.bu)) :=
        changeRequest_of_fall hst hc he (f := unlatched n) hl
          (demand_of_request (hone ▸ List.mem_singleton_self n) ((request_of_latched hc he ht).trans hlatch)) hdemand
      obtain ⟨htq, hbu, -⟩ := settle_of_not_parked (s := u) (by simpa [hu, settleAnswer] using hpark)
      have hd := demandFall_of_standing (s := s.withBu (unlatched n s.bu)) hl (.inr hheld) hnone
      rw [htq, hbu, hub, hutq, hfall]
      simpa [hheld] using hd

end Sys2Proof.Machine
end

section
/-! PROOF. A valid image frozen (O41), and the bytes of the management reads (O45). -/

namespace Sys2Proof.Machine

open Sys2Proof.Safety

/-! ### The freeze (R181) -/

/-- With no work in the queue the end of an event hands nothing, and the holder's quota limit is no part of it. -/
theorem settle_of_no_work {u : State} (h : u.tq.hasWork = false) :
    (settle u).tq = u.tq ∧ (settle u).bu = u.bu ∧ (settle u).tc.q = u.tc.q := by
  have hw : (noteWork u).tc.hasWork = false := h
  simp only [settle_tq, settle_bu, settle_tc]
  unfold tellWork
  dsimp only
  rw [hw]
  split
  next hk => exact absurd hk nofun
  · exact ⟨rfl, rfl, rfl⟩
  next hk => exact absurd hk nofun
  · exact ⟨rfl, rfl, rfl⟩

/-- The quota limit is set by the freeze alone. -/
theorem enterState_q (st : StationState) (c : Cause) (s : State) : (enterState st c s).tc.q = s.tc.q := by
  have hdisc (q : TransmitQueue) (u : State) : (discardTo q u).tc.q = u.tc.q := by
    unfold discardTo
    dsimp only
    split <;> rfl
  have hon (u : State) : (placeOnline u).tc.q = u.tc.q := by
    unfold placeOnline
    split <;> rfl
  have hoff (u : State) : (placeOffline u).tc.q = u.tc.q := by
    unfold placeOffline
    split <;> rfl
  unfold enterState
  dsimp only
  simp only [postNotice_keeps, State.withSc_tc, State.withXi_tc]
  split <;> simp only [hon, hoff] <;> split <;> simp [emptyQueue, hdisc]

/-- What the freeze of an image leaves, at the end of its event. -/
structure Frozen (img : Vector Byte 30) (s t : State) : Prop where
  loader : t.cl = { s.cl with state := .frozen }
  state : t.sc.state = .listening
  listenTimer : t.sc.listenTimer = true
  params : t.sc.params = some (paramsOf img)
  quotaLimit : t.tc.q = some img[2].toNat
  bindingUnit : t.bu = { s.bu with bindings := some (bindingsOf img), claims := localClaims (bindingsOf img) }
  queue : t.tq = TransmitQueue.empty
  replica : t.re = s.re.discardLoad
  lines : t.lines = s.lines

theorem frozen_of_freeze (img : Vector Byte 30) (s : State) {u : State} (hcl : u.cl = (freeze img s).cl)
    (hsc : u.sc = (freeze img s).sc) (htc : u.tc = (freeze img s).tc) (hbu : u.bu = (freeze img s).bu)
    (htq : u.tq = (freeze img s).tq) (hre : u.re = (freeze img s).re) (hl : u.lines = (freeze img s).lines) :
    Frozen img s (settle u) := by
  have hempty : u.tq = TransmitQueue.empty := by
    rw [htq, freeze, enterState_tq]
    rfl
  obtain ⟨hq, hb, hquota⟩ := settle_of_no_work (u := u) (by rw [hempty]; rfl)
  refine ⟨?_, ?_, ?_, ?_, ?_, ?_, hq.trans hempty, ?_, ?_⟩
  · simp [hcl, freeze]
  · simp [hsc, freeze]
  · simp [hsc, freeze, StationController.change]
  · simp [hsc, freeze, StationController.change]
  · rw [hquota, htc, freeze, enterState_q]
    rfl
  · rw [hb, hbu]
    simp [freeze, BindingUnit.freeze]
  · simp [hre, freeze]
  · simp [hl, freeze]

/-- Settles O41: a valid image is frozen, whichever way it came. -/
theorem validImageIsFrozen : Obligations.ValidImageIsFrozen := by
  intro s img hp hvalid
  have htake : takeImage img s = freeze img s := by
    unfold takeImage
    rw [hvalid]
  refine ⟨fun hr => ?_, fun hc himg hport => ?_⟩
  · have hexec : exec (.memoryReadAnswered img) s = .next (settle (freeze img s)) := by
      refine (event_of_powered hp (memoryAnswered img)).trans ?_
      rw [memoryAnswered, hr]
      exact congrArg (Host.Outcome.next ∘ settle) htake
    have hf := frozen_of_freeze img s (u := freeze img s) rfl rfl rfl rfl rfl rfl rfl
    refine ⟨_, hexec, hf.loader, hf.state, hf.listenTimer, hf.params, hf.quotaLimit, hf.bindingUnit, hf.queue, hf.replica,
      ?_, ?_, hf.lines⟩
    · simp [freeze]
    · have hcl : (tellWork (freeze img s)).cl = { s.cl with state := .frozen } := by simpa using hf.loader
      rw [settle_pins, State.drivenPins, hcl]
      rfl
  · subst himg
    have hexec : exec .start s =
        .next (settle (settleAnswer [17] (Answer.ok []) (freeze s.cl.staging s))) := by
      change commandEvent [17] (fun s =>
        if s.sc.state = .config then (takeImage s.cl.staging s, Answer.ok []) else (s, Answer.only .wrongState)) s = _
      rw [commandEvent, if_pos (ready_of_portReady hport), takeCommand, if_pos (ready_of_portReady hport), if_pos hc, htake]
    have hf := frozen_of_freeze s.cl.staging s (u := settleAnswer [17] (Answer.ok []) (freeze s.cl.staging s)) rfl rfl rfl
      rfl rfl rfl rfl
    refine ⟨_, hexec, hf.loader, hf.state, hf.listenTimer, hf.params, hf.quotaLimit, hf.bindingUnit, hf.queue, hf.replica,
      ?_, hf.lines⟩
    simp only [settle_keeps]
    rfl

/-! ### The bytes of READ BINDING (R190) -/

theorem mul_bit (k : Nat) (b : Bool) : k * bit b = if b then k else 0 := by cases b <;> simp [bit]

theorem bit_eq (b : Bool) : bit b = if b then 1 else 0 := rfl

theorem byte_bit (b : Bool) : byte (bit b) = if b then 1 else 0 := by cases b <;> rfl

theorem bindingConfig_byteA (c : BindingConfig) : c.byteA = byte ((if c.enabled then 128 else 0) + c.resource.val) := by
  rw [BindingConfig.byteA, mul_bit]

theorem bindingConfig_byteB (c : BindingConfig) :
    c.byteB =
      byte ((if c.mode = .exclusive then 1 else 0) + (if c.cls = .urgent then 2 else 0) + (if c.yieldable then 4 else 0) +
        (if c.trigger = .latched then 8 else 0)) := by
  simp only [BindingConfig.byteB, claimBits, mul_bit]
  simp only [bit_eq, beq_iff_eq]

/-- The bits of the line byte but for the demand of the local claim. -/
def lineBits (s : State) (n : BindingNo) : Nat :=
  (if s.bu.lines[n] then 1 else 0) + (if s.bu.request n then 2 else 0) + (if s.bu.latches[n] then 4 else 0) +
    (if s.pins.gnt[n] then 8 else 0) + (if s.pins.yld[n] then 16 else 0)

theorem lineByte_eq (s : State) (n : BindingNo) (c : BindingConfig) :
    s.lineByte n c =
      byte (lineBits s n + if ((s.bu.shownClaim c).map s.bu.demand).getD false then 32 else 0) := by
  simp only [State.lineByte, lineBits, mul_bit]
  simp only [bit_eq]

theorem bindingBytes_of_claim {s : State} {n : BindingNo} {c : BindingConfig} {l : LocalClaim} (he : c.enabled = true)
    (hl : s.bu.claimFor c.resource = some l) :
    s.bindingBytes n c =
      [c.byteA, c.byteB, byte (lineBits s n + if ∃ k ∈ l.bindings, s.bu.request k = true then 32 else 0), l.state.code,
        byte ((if l.cancel then 1 else 0) + (if l.reclaim then 2 else 0) + if l.yieldSeen then 4 else 0)] := by
  have hshown : s.bu.shownClaim c = some l := by rw [BindingUnit.shownClaim, if_pos he, hl]
  simp only [State.bindingBytes, lineByte_eq, hshown, claimBytes, Option.map_some, Option.getD_some, BindingUnit.demand,
    List.any_eq_true, mul_bit]
  rfl

theorem bindingBytes_of_disabled {s : State} {n : BindingNo} {c : BindingConfig} (he : c.enabled = false) :
    s.bindingBytes n c = [c.byteA, c.byteB, byte (lineBits s n), 0, 0] := by
  have hshown : s.bu.shownClaim c = none := by rw [BindingUnit.shownClaim, if_neg (by simp [he])]
  rw [State.bindingBytes, lineByte_eq, hshown]
  rfl

/-! ### The six reads (R188 to R190) -/

theorem resourceArg_of_eq {b : Byte} {r : Resource} (h : b.toNat = r.val) : resourceArg b = some r := by
  rw [resourceArg_of_le (by omega)]
  exact congrArg some (Fin.ext h)

theorem exec_readBinding {s : State} (h : PortReady s) {n : BindingNo} {b : Byte} {c : BindingConfig}
    (hb : b.toNat = n.val) (hc : s.bu.config n = some c) :
    exec (.readBinding b) s = .next { s with mp := taken s [4, b] (0 :: s.bindingBytes n c) } := by
  refine (readEvent_of_portReady h [4, b] _).trans ?_
  rw [bindingArg_of_eq hb]
  dsimp only
  rw [hc]
  rfl

/-- Settles O45, read by read. -/
theorem readsAreAnswered : Obligations.ReadsAreAnswered := by
  intro s h
  have answered (received : List Byte) {a : State → Answer} (bs : List Byte) (ha : a s = Answer.ok bs) :
      readEvent received a s = .next { s with mp := taken s received (0 :: bs) } := by
    rw [readEvent_of_portReady h, ha]
    rfl
  refine ⟨fun m hm => ?_, fun hv => ?_, fun r b hb hv => ?_, fun n b c hb hc => ⟨fun l he hl => ?_, fun he => ?_⟩, ?_,
    fun o k hst ho hk => ?_⟩
  · have hme : s.me = m := me_of_number hm
    refine (answered [1] s.statusBytes rfl).trans ?_
    rw [State.statusBytes, hme]
    cases s.cl.detail.binding <;> cases s.re.reference <;> rfl
  · exact answered [2] _ (by simp [hv])
  · refine answered [3, b] _ ?_
    simp only [resourceArg_of_eq hb, hv, if_true, Record.readBytes, byte_bit]
  · rw [exec_readBinding h hb hc, bindingBytes_of_claim he hl, bindingConfig_byteA, bindingConfig_byteB]
    cases l.state <;> rfl
  · rw [exec_readBinding h hb hc, bindingBytes_of_disabled he, bindingConfig_byteA, bindingConfig_byteB]
    rfl
  · exact answered [5] _ rfl
  · exact answered [8, o, k] _ (by simp [(runInImage_iff o k).mpr ⟨ho, hk⟩, hst])

end Sys2Proof.Machine
end

section
/-! PROOF. The snapshot deadline at its expiry (O37): held by a load, another JOIN behind the frames held, or LISTENING. -/

namespace Sys2Proof.Machine

open Sys2Proof.Safety

/-! ### The deadline (R146, R148) -/

theorem exec_snapshotDeadlineExpired {s : State} (h : s.powered = true) :
    exec .snapshotDeadlineExpired s = .next (settle (deadlineExpires s)) :=
  event_of_powered h _

theorem deadlineExpires_of_running {s : State} (h : s.sc.deadline = .running) :
    deadlineExpires s =
      if s.re.load.isSome then s.withSc { s.sc with deadline := .held } else deadlineTakesEffect s := by
  unfold deadlineExpires
  rw [h]
  rfl

/-! ### Another JOIN (R92, R148) -/

theorem addJoinOrLeave_holds (q : TransmitQueue) {i : Item} (h : i.isJoinOrLeave = true) :
    ∃ j ∈ itemsOf (q.addJoinOrLeave i), j.isJoinOrLeave = true := by
  unfold TransmitQueue.addJoinOrLeave
  split
  next hany =>
    obtain ⟨e, he, hj⟩ := List.any_eq_true.mp hany
    exact ⟨e.item, List.mem_map_of_mem he, hj⟩
  · rw [itemsOf_append]
    exact ⟨i, by simp, h⟩

/-- The frames of the queue after a JOIN asked for and the end of the event. -/
theorem settle_joinAgain_items (c : Cause) (s : State) :
    itemsOf (settle (joinAgain c s)).tq = itemsOf (s.tq.addJoinOrLeave .join) := by
  rw [settle_items, joinAgain_tq]

theorem joinAgain_mp (c : Cause) (s : State) : (joinAgain c s).mp = s.mp.post (.stateChanged .joinPending c) := by
  simp [joinAgain]

/-- Settles O37, by whether a load is in progress and, where none is, whether the table was heard. -/
theorem snapshotDeadlineTakesEffect : Obligations.SnapshotDeadlineTakesEffect := by
  intro s hp hs hst hd
  have hexec : exec .snapshotDeadlineExpired s = _ := exec_snapshotDeadlineExpired hp
  rw [deadlineExpires_of_running hd] at hexec
  refine ⟨fun hl => ?_, fun hl hh => ?_, fun hl hh => ?_⟩
  · rw [hexec, if_pos hl]
    exact congrArg Host.Outcome.next (settle_of_unmoved hs rfl rfl rfl rfl rfl rfl rfl)
  · rw [if_neg (by simp [hl]), deadlineTakesEffect, if_pos hh] at hexec
    refine ⟨_, hexec, by simp [joinAgain_sc], by simp [joinAgain_sc, StationController.change],
      by simp [joinAgain_sc, StationController.change], by simp [joinAgain_sc, StationController.change], ?_,
      fun hq => ?_, by simp [joinAgain_mp], ?_, ?_, by simp [OutsideKept]⟩
    · obtain ⟨j, hj, hjoin⟩ := addJoinOrLeave_holds s.tq (i := .join) rfl
      rw [← settle_joinAgain_items .deadline s] at hj
      obtain ⟨e, he, rfl⟩ := List.mem_map.mp hj
      exact ⟨e, he, hjoin⟩
    · exact (settle_joinAgain_items .deadline s).trans (itemsOf_addJoinOrLeave hq .join)
    · simp only [settle_keeps, joinAgain_re, discardLoad_of_none hl]
    · simp [boardKept_iff]
  · rw [if_neg (by simp [hl]), deadlineTakesEffect, if_neg (by simp [hh])] at hexec
    obtain ⟨htq, hbu, _⟩ := settle_of_no_work (u := enterState .listening .noTableHeard s) (by rw [enterState_tq]; rfl)
    refine ⟨_, hexec, by simp, by simp [StationController.change], by simp [StationController.change],
      by simp [StationController.change], by simp [StationController.change, StationState.duty], ?_, by simp, ?_, ?_,
      by simp [OutsideKept]⟩
    · rw [htq, enterState_tq]
      rfl
    · simp only [settle_keeps, enterState_re, discardLoad_of_none hl]
    · rw [hbu]
      simp

end Sys2Proof.Machine
end

section
/-! PROOF. A period end (O39): the presence duty, the silence counts, and the EXPELs of the counts that reach the limit. -/

namespace Sys2Proof.Machine

open Sys2Proof.Safety

theorem exec_periodEnd {s : State} (h : s.powered = true) : exec .periodEnd s = .next (settle (periodEnds s)) :=
  event_of_powered h _

theorem periodEnds_of_timer {s : State} (h : s.sc.presenceTimer = true) :
    periodEnds s = advanceSilence (presenceDuty s) := by
  rw [periodEnds, if_pos h]

/-! ### The presence duty (R92, R164, R165) -/

/-- The frame that the presence duty adds: a PRESENCE where the mark is clear and none is held. -/
def dutyItems (s : State) : List Item :=
  if s.sc.satisfied = true ∨ ∃ e ∈ s.tq.entries, e.item = .presence then [] else [.presence]

theorem presenceDuty_sc (s : State) : (presenceDuty s).sc = { s.sc with satisfied := false } := by
  unfold presenceDuty
  dsimp only
  split <;> rfl

theorem itemsOf_addPresence (q : TransmitQueue) :
    itemsOf q.addPresence = itemsOf q ++ if ∃ e ∈ q.entries, e.item = .presence then [] else [.presence] := by
  have hany : (q.entries.any fun e => e.item == .presence) = true ↔ ∃ e ∈ q.entries, e.item = .presence := by simp
  unfold TransmitQueue.addPresence
  by_cases h : ∃ e ∈ q.entries, e.item = .presence
  · rw [if_pos (hany.mpr h), if_pos h, List.append_nil]
  · rw [if_neg (mt hany.mp h), if_neg h, itemsOf_append]

theorem presenceDuty_items (s : State) : itemsOf (presenceDuty s).tq = itemsOf s.tq ++ dutyItems s := by
  unfold presenceDuty dutyItems
  cases h : s.sc.satisfied with
  | true => simp
  | false =>
    simp only [Bool.false_eq_true, if_false, false_or, State.withSc_tq, State.withTq_tq]
    exact itemsOf_addPresence s.tq

theorem mem_presenceDuty {s : State} (h : s.sc.satisfied = false) : Item.presence ∈ itemsOf (presenceDuty s).tq := by
  simp only [presenceDuty, h, Bool.false_eq_true, if_false, State.withSc_tq, State.withTq_tq]
  exact mem_addPresence s.tq

theorem dutyItems_presence (s : State) : (dutyItems s).filter (· == .presence) = dutyItems s := by
  unfold dutyItems
  split <;> rfl

/-- The presence duty asks for no expulsion. -/
theorem dutyItems_target (s : State) (x : Station) : (dutyItems s).any (fun i => i.target? == some x) = false := by
  unfold dutyItems
  split <;> rfl

/-! ### The silence counts (R169) -/

/-- The EXPELs that a period end adds to the queue of a station. -/
def silenceItems (s : State) : List Item :=
  if s.sc.state = .active then
    ((reachedLimit s.limit s.sc.silence (mapTable (Silence.advance · s.limit) s.sc.silence)).filter
      fun x => !s.tq.holdsExpel x).map (Item.expel · .silent)
  else []

theorem advanceSilence_sc (s : State) :
    (advanceSilence s).sc =
      { s.sc with
        silence := if s.sc.state.inTable then mapTable (Silence.advance · s.limit) s.sc.silence else s.sc.silence } := by
  unfold advanceSilence
  dsimp only
  split
  · split <;> simp
  · rfl

theorem advanceSilence_items (s : State) : itemsOf (advanceSilence s).tq = itemsOf s.tq ++ silenceItems s := by
  unfold advanceSilence silenceItems
  by_cases hact : s.sc.state = .active
  · simp only [hact, StationState.inTable, if_true, withSilence_sc]
    exact (askSilentExpels_asked (allStations_nodup.filter _) _).items
  · dsimp only
    split <;> simp [hact]

/-- A count reaches the limit just where it is watched and one below (R169). -/
theorem reaches_limit_iff (r : Silence) (l : Nat) :
    (!r.atLimit (some l) && (r.advance (some l)).atLimit (some l)) = true ↔ r.watched = true ∧ r.count + 1 = l := by
  obtain ⟨w, n⟩ := r
  cases w with
  | false => simp [Silence.atLimit, Silence.advance]
  | true =>
    by_cases hlt : n < l
    · simp [Silence.atLimit, Silence.advance, hlt, hlt.ne]
    · simp [Silence.atLimit, Silence.advance, hlt]
      omega

theorem mem_reachedLimit (v : Vector Silence 16) (l : Nat) (x : Station) :
    x ∈ reachedLimit (some l) v (mapTable (Silence.advance · (some l)) v) ↔
      v[x].watched = true ∧ v[x].count + 1 = l := by
  rw [← reaches_limit_iff]
  simp [reachedLimit, allStations]

/-! ### The end of the period -/

theorem holdsExpel_eq_any (q : TransmitQueue) (x : Station) :
    q.holdsExpel x = (itemsOf q).any fun i => i.target? == some x := by
  rw [itemsOf, List.any_map]
  rfl

theorem silenceItems_presence (s : State) : (silenceItems s).filter (· == .presence) = [] := by
  refine List.filter_eq_nil_iff.mpr fun i hi => ?_
  unfold silenceItems at hi
  split at hi
  · obtain ⟨x, _, rfl⟩ := List.mem_map.mp hi
    simp
  · exact absurd hi List.not_mem_nil

/-- The EXPELs added are those of the counts that reach the limit, where none was held (R91). -/
theorem silenceItems_target {s : State} {l : Nat} (hl : s.limit = some l) (hact : s.sc.state = .active) (x : Station) :
    ((silenceItems s).any fun i => i.target? == some x) =
      (!s.tq.holdsExpel x && (s.sc.silence[x].watched && decide (s.sc.silence[x].count + 1 = l))) := by
  rw [Bool.eq_iff_iff, silenceItems, if_pos hact, hl]
  simp only [List.any_eq_true, List.mem_map, List.mem_filter, mem_reachedLimit, Item.target?]
  simp
  tauto

/-- The frames that a period end leaves: those held, the presence duty's, and the silence expulsions. -/
theorem periodEnds_items {s : State} (h : s.sc.presenceTimer = true) :
    itemsOf (settle (periodEnds s)).tq = itemsOf s.tq ++ dutyItems s ++ silenceItems (presenceDuty s) := by
  rw [settle_items, periodEnds_of_timer h, advanceSilence_items, presenceDuty_items]

theorem presenceDuty_holdsExpel (s : State) (x : Station) : (presenceDuty s).tq.holdsExpel x = s.tq.holdsExpel x := by
  rw [holdsExpel_eq_any, presenceDuty_items, List.any_append, dutyItems_target, Bool.or_false, ← holdsExpel_eq_any]

/-- An EXPEL is held after the period end just where it was held or is called for. -/
theorem periodEnds_holdsExpel {s : State} {l : Nat} (h : s.sc.presenceTimer = true) (hl : s.limit = some l)
    (hact : s.sc.state = .active) (x : Station) :
    (settle (periodEnds s)).tq.holdsExpel x =
      (s.tq.holdsExpel x || (s.sc.silence[x].watched && decide (s.sc.silence[x].count + 1 = l))) := by
  have hl' : (presenceDuty s).limit = some l := by simpa only [State.limit, presenceDuty_sc] using hl
  rw [holdsExpel_eq_any, periodEnds_items h, List.any_append, List.any_append, dutyItems_target, Bool.or_false,
    ← holdsExpel_eq_any, silenceItems_target hl' (by simpa only [presenceDuty_sc] using hact), presenceDuty_holdsExpel,
    presenceDuty_sc]
  cases s.tq.holdsExpel x <;> rfl

theorem periodEnds_sc {s : State} (h : s.sc.presenceTimer = true) :
    (periodEnds s).sc =
      { s.sc with
        satisfied := false
        silence := if s.sc.state.inTable then mapTable (Silence.advance · s.limit) s.sc.silence else s.sc.silence } := by
  rw [periodEnds_of_timer h, advanceSilence_sc, State.limit, presenceDuty_sc]
  rfl

theorem advance_of_limit (r : Silence) (l : Nat) :
    r.advance (some l) =
      if r.watched = true ∧ r.count < l then { watched := true, count := r.count + 1 } else r := by
  obtain ⟨w, n⟩ := r
  cases w <;> simp [Silence.advance]

/-- Settles O39: the frames that the period end adds are the presence duty's and the silence expulsions, which the end of
the event leaves in the queue. -/
theorem periodEndDuties : Obligations.PeriodEndDuties := by
  intro s l hp ht hl
  have hitems := periodEnds_items ht
  have hexpel := fun hact => periodEnds_holdsExpel ht hl hact
  refine ⟨_, exec_periodEnd hp, by simp [periodEnds_sc ht], by simp [periodEnds_sc ht, ht], by simp [periodEnds_sc ht],
    fun hs => ?_, ?_, fun hst => ?_, hexpel, fun x => ?_, fun hact x hw hc => ?_, by simp, ?_, by simp [OutsideKept]⟩
  · have hmem : Item.presence ∈ itemsOf (settle (periodEnds s)).tq := by
      rw [settle_items, periodEnds_of_timer ht, advanceSilence_items]
      exact List.mem_append_left _ (mem_presenceDuty hs)
    exact List.mem_map.mp hmem
  · change (itemsOf (settle (periodEnds s)).tq).filter (· == .presence) = _
    rw [hitems, List.filter_append, List.filter_append, silenceItems_presence, dutyItems_presence, List.append_nil]
    rfl
  · have hnone : silenceItems (presenceDuty s) = [] := by simp [silenceItems, presenceDuty_sc, hst]
    change itemsOf (settle (periodEnds s)).tq = _
    rw [hitems, hnone, List.append_nil]
    rfl
  · simp only [settle_keeps, periodEnds_sc ht, hl]
    by_cases htable : s.sc.state.inTable = true
    · simp [htable, advance_of_limit]
    · simp [htable]
  · rw [hexpel hact x, hw, decide_eq_true hc]
    simp
  · simp [boardKept_iff]

end Sys2Proof.Machine
end

section
/-! PROOF. The holding decision at the end of an own attempt (R125 to R129): what the event leaves where the holder
surrenders, where it continues with the frame that the queue hands, and where no run is in progress. -/

namespace Sys2Proof.Machine

open Sys2Proof.Safety

/-! ### The decision (R126) -/

/-- The state in which a holder decides at the end of an attempt: the quota counted, and has-work as it stands. -/
def decided (s : State) : State := noteWork (s.withTc { s.tc with quota := min 255 (s.tc.quota + 1) })

/-- A decision carried out (R126). -/
def carryOut (d : Decision) (s : State) : State :=
  match d with
  | .continue => askNext s
  | .park => s.withTenure .parked
  | .surrender => surrender s

theorem holdingDecision_eq (r : Bool) (s : State) :
    holdingDecision r s = carryOut ((noteWork s).tc.decision s.lines.xwant r) (noteWork s) := rfl

theorem attemptReport_of_holding {s : State} (h : s.tc.state = .holding) (r : Bool) :
    attemptReport r s = carryOut ((decided s).tc.decision s.lines.xwant r) (decided s) := by
  rw [attemptReport, h]
  exact holdingDecision_eq r _

theorem decided_tc (s : State) :
    (decided s).tc = { s.tc with quota := min 255 (s.tc.quota + 1), hasWork := s.tq.hasWork } := rfl

@[simp] theorem decided_keeps (s : State) :
    (decided s).lines = s.lines ∧ (decided s).sc = s.sc ∧ (decided s).xi = s.xi ∧ (decided s).tq = s.tq ∧
    (decided s).re = s.re ∧ (decided s).bu = s.bu := by
  simp [decided]

theorem decision_of_pinned {t : TenureController} (h : t.pinned = true) (xwant r : Bool) :
    t.decision xwant r = .continue := by
  simp [TenureController.decision, h]

theorem decision_of_work {t : TenureController} (h : t.hasWork = true) (xwant : Bool) :
    t.decision xwant false = if (!t.pinned && xwant && t.quotaSpent) = true then .surrender else .continue := by
  cases hp : t.pinned <;> cases xwant <;> simp [TenureController.decision, h, hp]

theorem quotaSpent_iff (t : TenureController) : t.quotaSpent = true ↔ ∃ q, t.q = some q ∧ q ≤ t.quota := by
  cases h : t.q <;> simp [TenureController.quotaSpent, h]

/-! ### The end of the event at a holder and at a station that has surrendered -/

theorem tellWork_of_tenure {s : State} (h : s.tc.state = .holding ∨ s.tc.state = .served) : tellWork s = noteWork s := by
  have hn : (noteWork s).tc.state = s.tc.state := rfl
  unfold tellWork
  dsimp only
  rw [hn]
  rcases h with h | h <;> rw [h]

/-- The tenure given up, at the end of its event (R131). -/
structure Surrendered (s t : State) : Prop where
  state : t.tc.state = .served
  quota : t.tc.quota = 0
  pinned : t.tc.pinned = s.tc.pinned
  xten : t.pins.xten = .released
  attempt : t.xi.attempt = s.xi.attempt
  tq : t.tq = s.tq
  bu : t.bu = s.bu

theorem settle_surrender (s : State) : Surrendered s (settle (surrender s)) := by
  have htell : tellWork (surrender s) = noteWork (surrender s) := tellWork_of_tenure (.inr rfl)
  refine ⟨?_, ?_, ?_, ?_, ?_, ?_, ?_⟩ <;> rw [settle, htell] <;> rfl

/-- The tenure continued with an attempt of a frame, at the end of its event (R102, R126). -/
structure Continued (what : Sent) (s t : State) : Prop where
  state : t.tc.state = .holding
  quota : t.tc.quota = s.tc.quota
  pinned : t.tc.pinned = s.tc.pinned
  xten : t.pins.xten = .asserted
  attempt : t.xi.attempt =
    some { frame := s.frameOf what, sent := what, phase := .sending, discarded := false, unreported := false }
  tq : t.tq = s.tq
  bu : t.bu = s.bu

theorem settle_beginAttempt {s : State} (h : s.tc.state = .holding) (what : Sent) :
    Continued what s (settle (beginAttempt what s)) := by
  have htell : tellWork (beginAttempt what s) = noteWork (beginAttempt what s) := tellWork_of_tenure (.inl h)
  have hstate : (noteWork (beginAttempt what s)).tc.state = .holding := h
  refine ⟨?_, ?_, ?_, ?_, ?_, ?_, ?_⟩ <;> rw [settle, htell]
  · exact hstate
  · rfl
  · rfl
  · change (noteWork (beginAttempt what s)).tc.xtenDrive = _
    rw [TenureController.xtenDrive, hstate]
  · rfl
  · rfl
  · rfl

/-! ### The frame that the queue hands (R86) -/

theorem hand_of_inFlight {q : TransmitQueue} {e : Entry} (h : q.entries.find? (·.inFlight) = some e)
    (hn : e.attempts < 3) :
    q.hand = ({ q with entries := updateFirst (·.inFlight) Entry.attempt q.entries },
      some { sent := .entry e.item, first := false }) := by
  have hlimit : e.attempts < Config.maxAttempts := hn
  simp only [TransmitQueue.hand, h, if_pos hlimit]

theorem hand_of_part {q : TransmitQueue} {k : Fin 9} {n : Nat} (h : q.entries.find? (·.inFlight) = none)
    (hj : q.job = .running k (some n)) (hn : n < 3) :
    q.hand = ({ q with job := .running k (some (n + 1)) }, some { sent := .part k, first := false }) := by
  have hlimit : n < Config.maxAttempts := hn
  simp only [TransmitQueue.hand, h, hj, if_pos hlimit]

theorem hand_of_next_part {q : TransmitQueue} {k : Fin 9} (h : q.entries.find? (·.inFlight) = none)
    (hj : q.job = .running k none) :
    q.hand = ({ q with job := .running k (some 1) }, some { sent := .part k, first := true }) := by
  simp only [TransmitQueue.hand, h, hj]

/-- A frame handed that reports nothing TAKEN and begins no run. -/
theorem askNext_of_hand {s : State} {q : TransmitQueue} {k : Handed} (h : s.tq.hand = (q, some k))
    (hk : ∀ i, k.first = true → k.sent ≠ .entry i) (hj : s.tq.job = .armed → q.job = .armed) :
    askNext s = beginAttempt k.sent (s.withTq q) := by
  have hbegins : (s.tq.job == .armed && !(q.job == .armed)) = false := by simpa using hj
  unfold askNext
  rw [h]
  dsimp only
  rw [hbegins, if_neg (by decide), reportTaken_of_no_entry hk]

/-- A holder that continues with such a frame. -/
theorem settle_attemptReport_continues {s : State} {r : Bool} {q : TransmitQueue} {k : Handed}
    (h : s.tc.state = .holding) (hd : (decided s).tc.decision s.lines.xwant r = .continue) (hh : s.tq.hand = (q, some k))
    (hk : ∀ i, k.first = true → k.sent ≠ .entry i) (hj : s.tq.job = .armed → q.job = .armed) :
    Continued k.sent ((decided s).withTq q) (settle (attemptReport r s)) := by
  have hask := askNext_of_hand (s := decided s) (by simpa using hh) hk (by simpa using hj)
  rw [attemptReport_of_holding h, hd, carryOut, hask]
  exact settle_beginAttempt (s := (decided s).withTq q) h k.sent

/-! ### No run in progress (R95, R129) -/

/-- The job is clear with its mark, and the station is not pinned. -/
structure NoRun (s : State) : Prop where
  job : s.tq.job = .clear
  reArm : s.tq.reArm = false
  pinned : s.tc.pinned = false

theorem hand_of_clear {q : TransmitQueue} (h : q.job = .clear) : q.hand.1.job = .clear ∧ q.hand.1.reArm = q.reArm := by
  unfold TransmitQueue.hand
  (repeat' split) <;> simp_all

section
variable {s : State} (h : NoRun s)
include h

theorem NoRun.withTc {t : TenureController} (ht : t.pinned = false) : NoRun (s.withTc t) := ⟨h.job, h.reArm, ht⟩

/-- No run begins where no job is armed. -/
theorem NoRun.askNext : NoRun (askNext s) := by
  obtain ⟨hjob, hrearm⟩ := hand_of_clear h.job
  refine ⟨by rw [askNext_tq, hjob], by rw [askNext_tq, hrearm, h.reArm], ?_⟩
  unfold Machine.askNext
  dsimp only
  split
  · exact h.pinned
  · rw [h.job]
    simpa using h.pinned

theorem NoRun.attemptReport (r : Bool) : NoRun (attemptReport r s) := by
  by_cases hst : s.tc.state = .holding
  · have hdec : NoRun (decided s) := h.withTc h.pinned
    rw [attemptReport_of_holding hst]
    unfold carryOut
    split
    · exact hdec.askNext
    · exact hdec.withTc hdec.pinned
    · exact hdec.withTc hdec.pinned
  · unfold Machine.attemptReport
    split
    next hh => exact absurd hh hst
    all_goals exact h

theorem NoRun.settle : NoRun (settle s) := by
  have hnote (u : State) (hu : NoRun u) : NoRun (noteWork u) := hu.withTc hu.pinned
  have hwant : NoRun (wantBus (noteWork s)) := by
    unfold wantBus
    split
    all_goals exact h.withTc h.pinned
  have htell : NoRun (tellWork s) := by
    unfold tellWork
    dsimp only
    split
    · exact hwant
    · exact (hnote s h).withTc h.pinned
    · exact hnote _ (NoRun.askNext (s := (noteWork s).withTenure .holding) ((hnote s h).withTc h.pinned))
    · exact hnote s h
  exact ⟨htell.job, htell.reArm, htell.pinned⟩

/-- No run begins at the end of an accepted own frame. -/
theorem NoRun.ownEnded : NoRun (ownEnded s) := by
  have hcounted : NoRun (countUp .ownFramesApplied (s.withXi { s.xi with dropStreak := 0 })) :=
    ⟨h.job, h.reArm, h.pinned⟩
  exact (hcounted.attemptReport false).settle

end

end Sys2Proof.Machine
end

section
/-! PROOF. A failed own attempt, and the parts of a snapshot run (O27). -/

namespace Sys2Proof.Machine

open Sys2Proof.Safety

/-! ### An attempt that failed below the last (R107, R127) -/

/-- The state after a failed attempt, with nothing reported to the queue. -/
def failed (s : State) : State := s.withXi { s.xi with attempt := none }

theorem exec_ownWindowClose_of_failed {s : State} {a : Attempt} (h : AwaitsOwnWindow s a) (hd : a.discarded = false)
    (hn : s.tq.attemptsInFlight < 3) :
    exec (.ownWindowClose true) s = .next (settle (attemptReport false (failed s))) := by
  obtain ⟨hp, _, ha, hph, hu⟩ := h
  have hlimit : s.tq.attemptsInFlight < Config.maxAttempts := hn
  have hw : ownWindowCloses true s = attemptReport false (failed s) := by
    simp [ownWindowCloses, ha, hph, hu, hd, hlimit, failed]
  rw [exec_ownWindowClose hp, hw]

theorem attemptsInFlight_of_entry {q : TransmitQueue} {e : Entry} (h : q.entries.find? (·.inFlight) = some e) :
    q.attemptsInFlight = e.attempts := by
  rw [TransmitQueue.attemptsInFlight, h]

theorem attemptsInFlight_of_part {q : TransmitQueue} {k : Fin 9} {n : Nat}
    (h : q.entries.find? (·.inFlight) = none) (hj : q.job = .running k (some n)) : q.attemptsInFlight = n := by
  rw [TransmitQueue.attemptsInFlight, h]
  dsimp only
  rw [hj]

/-- What the report of a failed attempt keeps to the end of its event. -/
theorem failed_keeps (s : State) (r : Bool) :
    (settle (attemptReport r (failed s))).re = s.re ∧ (settle (attemptReport r (failed s))).sc = s.sc ∧
      (settle (attemptReport r (failed s))).mp = s.mp ∧ OutsideKept s (settle (attemptReport r (failed s))) := by
  simp [failed, OutsideKept]

/-- A frame in flight with attempts left of it is work (R87). -/
theorem hasWork_of_inFlight {q : TransmitQueue} {e : Entry} (h : q.entries.find? (·.inFlight) = some e)
    (hn : e.attempts < 3) : q.hasWork = true := by
  have hlimit : e.attempts < Config.maxAttempts := hn
  have hany : q.entries.any Entry.hasWork = true :=
    List.any_eq_true.mpr ⟨e, List.mem_of_find?_eq_some h, by simp [Entry.hasWork, hlimit]⟩
  simp [TransmitQueue.hasWork, hany]

/-- Where the holder of a failed frame gives up its tenure: not pinned, XWANT asserted, and the quota spent with this
attempt (R126, R127). -/
def YieldsTenure (s : State) : Prop :=
  s.tc.pinned = false ∧ s.lines.xwant = true ∧ ∃ q, s.tc.q = some q ∧ q ≤ min 255 (s.tc.quota + 1)

theorem failed_decision {s : State} (hw : s.tq.hasWork = true) :
    (decided (failed s)).tc.decision s.lines.xwant false =
      if (!s.tc.pinned && s.lines.xwant && (decided (failed s)).tc.quotaSpent) = true then .surrender else .continue :=
  decision_of_work (t := (decided (failed s)).tc) hw s.lines.xwant

theorem yieldsTenure_iff (s : State) :
    (!s.tc.pinned && s.lines.xwant && (decided (failed s)).tc.quotaSpent) = true ↔ YieldsTenure s := by
  rw [Bool.and_eq_true, Bool.and_eq_true, quotaSpent_iff, Bool.not_eq_true', and_assoc]
  rfl

/-- The holder of a frame that failed surrenders where its quota is spent and XWANT is asserted, unless it is pinned. -/
theorem failed_surrenders {s : State} (hst : s.tc.state = .holding) (hw : s.tq.hasWork = true) (hc : YieldsTenure s) :
    Surrendered (decided (failed s)) (settle (attemptReport false (failed s))) := by
  have hdec := failed_decision hw
  rw [if_pos ((yieldsTenure_iff s).mpr hc)] at hdec
  have hrep : attemptReport false (failed s) = surrender (decided (failed s)) := by
    refine (attemptReport_of_holding (s := failed s) hst false).trans ?_
    exact congrArg (carryOut · (decided (failed s))) hdec
  rw [hrep]
  exact settle_surrender _

/-- Otherwise it begins the next attempt of the same frame. -/
theorem failed_retries {s : State} {e : Entry} (hst : s.tc.state = .holding)
    (he : s.tq.entries.find? (·.inFlight) = some e) (hn : e.attempts < 3) (hc : ¬ YieldsTenure s) :
    Continued (.entry e.item)
      ((decided (failed s)).withTq { s.tq with entries := updateFirst (·.inFlight) Entry.attempt s.tq.entries })
      (settle (attemptReport false (failed s))) := by
  have hdec := failed_decision (hasWork_of_inFlight he hn)
  rw [if_neg (mt (yieldsTenure_iff s).mp hc)] at hdec
  exact settle_attemptReport_continues (s := failed s) hst hdec (hand_of_inFlight he hn) nofun id

/-- A part that failed is tried again while the run is pinned, whatever XWANT and the quota count say (R129). -/
theorem failed_part_retries {s : State} {k : Fin 9} {n : Nat} (hst : s.tc.state = .holding)
    (hf : s.tq.entries.find? (·.inFlight) = none) (hj : s.tq.job = .running k (some n)) (hn : n < 3)
    (hp : s.tc.pinned = true) :
    Continued (.part k) ((decided (failed s)).withTq { s.tq with job := .running k (some (n + 1)) })
      (settle (attemptReport false (failed s))) :=
  settle_attemptReport_continues (s := failed s) hst (decision_of_pinned (t := (decided (failed s)).tc) hp _ _)
    (hand_of_part hf hj hn) nofun fun ha => absurd (hj.symm.trans ha) nofun

/-! ### A part dropped (R95, R109) -/

theorem partDropped_of_running {q : TransmitQueue} {k : Fin 9} {n : Nat} (h : q.job = .running k (some n)) :
    q.partDropped = if q.reArm then { q with job := .clear, reArm := false } else { q with job := .armed, reArm := true } := by
  rw [TransmitQueue.partDropped, h]

theorem runEnded_tc {s : State} (h : ∀ k n, s.tq.job ≠ .running k n) : (runEnded s).tc = { s.tc with pinned := false } := by
  unfold runEnded
  split
  next k n hj => exact absurd hj (h k n)
  all_goals rfl

/-- The report of a part's drop goes to the queue alone. -/
theorem dropReported_of_part {a : Attempt} {k : Fin 9} (hs : a.sent = .part k) (s : State) :
    dropReported a s = runEnded ((failed s).withTq s.tq.partDropped) := by
  rw [dropReported, hs]
  rfl

section
variable {s : State} {a : Attempt} {k : Fin 9} (hs : a.sent = .part k)
include hs

theorem dropTold_tq_of_part : (dropTold a s).tq = s.tq.partDropped := by
  simp [dropTold, dropReported_of_part hs]

theorem dropTold_xi_of_part : (dropTold a s).xi = { s.xi with attempt := none, dropStreak := s.xi.dropStreak + 1 } := by
  simp [dropTold, dropReported_of_part hs, failed]

/-- A dropped part abandons its run: the station is no longer pinned (R129). -/
theorem dropTold_tc_of_part {n : Nat} (hj : s.tq.job = .running k (some n)) :
    (dropTold a s).tc = { s.tc with pinned := false } := by
  have hended : ∀ k' n', s.tq.partDropped.job ≠ .running k' n' := by
    rw [partDropped_of_running hj]
    split <;> nofun
  have hfreed : (dropReported a s).tc = { s.tc with pinned := false } := by
    rw [dropReported_of_part hs, runEnded_tc hended]
    rfl
  simp [dropTold, hfreed]

theorem dropTold_of_part : DropTold a s (dropTold a s) := by
  have hr := dropReported_of_part hs s
  have hmp : (dropReported a s).mp = s.mp := by simp [hr, failed]
  obtain ⟨hd, he⟩ := counters_of_lasting
    (postNotice_lasting (droppedNotice a.sent) (countUp .framesDropped (dropReported a s)))
  refine ⟨by rw [dropTold_xi_of_part hs], hd.trans ?_, he.trans ?_, fun hn => ?_, ?_, ?_, ?_, ?_⟩
  · simp [countUp, Counters.increment, hmp]
  · simp [countUp, Counters.increment, hmp]
  · refine mem_post (p := (countUp .framesDropped (dropReported a s)).mp) ?_
    rw [countUp_notices, hmp]
    omega
  · simp [dropTold, hr, failed]
  · simp [dropTold, hr, failed]
  · simp [dropTold, hr, failed]
  · simp [dropTold, hr, failed, OutsideKept]

/-- The rejected window of a part's third attempt, below the drop limit. -/
theorem exec_ownWindowClose_of_dropped_part (h : AwaitsOwnWindow s a) (hd : a.discarded = false)
    (hf : s.tq.entries.find? (·.inFlight) = none) (hj : s.tq.job = .running k (some 3)) (hx : s.xi.dropStreak < 3) :
    exec (.ownWindowClose true) s = .next (settle (attemptReport (!s.tq.reArm) (dropTold a s))) := by
  obtain ⟨hp, _, ha, hph, hu⟩ := h
  have hw : ownWindowCloses true s = ownDropped a (failed s) := by
    simp [ownWindowCloses, ha, hph, hu, hd, attemptsInFlight_of_part hf hj, Config.maxAttempts, failed]
  have hre : (s.tq.dropped a.sent).rearmedFrom s.tq = !s.tq.reArm := by
    rw [hs]
    exact rearmedFrom_partDropped s.tq k 3 hj
  have hdrop : ownDropped a (failed s) =
      attemptReport ((s.tq.dropped a.sent).rearmedFrom s.tq) (advanceDropStreak
        (postNotice (droppedNotice a.sent) (countUp .framesDropped (dropReported a s)))) := rfl
  have hlimit : s.xi.dropStreak + 1 < Config.dropLimit := Nat.succ_lt_succ hx
  have hstreak : (dropReported a s).xi.dropStreak + 1 < Config.dropLimit := by
    simpa [dropReported_of_part hs, failed] using hlimit
  rw [exec_ownWindowClose hp, hw, hdrop, hre, advanceDropStreak, if_pos (by simpa using hstreak)]
  rfl

end

theorem DropTold.outcome {a : Attempt} {s t : State} (h : DropTold a s t) (r : Bool) :
    DropTold a s (settle (attemptReport r t)) where
  dropStreak := (askStable_dropStreak _).outcome h.dropStreak r
  dropped := by simpa using h.dropped
  expels := by simpa using h.expels
  posted := by simpa using h.posted
  sc := by simpa using h.sc
  re := by simpa using h.re
  board := by simpa using h.board
  outside := by simpa [OutsideKept] using h.outside

/-- The handing of a frame moves at most the state of a local claim (R61). -/
theorem askStable_resources (rs : List Resource) : AskStable fun s => s.bu.claims.map (·.resource) = rs where
  ask s hs := by
    have hbu : (askNext s).bu.claims.map (·.resource) = s.bu.claims.map (·.resource) := by
      rw [askNext_bu]
      cases s.tq.hand.2 with
      | none => rfl
      | some k =>
        rw [Option.elim_some]
        unfold reportTaken
        (repeat' split)
        · exact (takenReport_amends s _).resources
        all_goals rfl
    exact hbu.trans hs
  tenure _ _ hs := hs
  pins _ _ hs := hs

/-- A drop of a part leaves the local claims their number. -/
theorem dropTold_claims_length {a : Attempt} {s : State} {k : Fin 9} (hs : a.sent = .part k) (r : Bool) :
    (settle (attemptReport r (dropTold a s))).bu.claims.length = s.bu.claims.length := by
  have hbu : (dropTold a s).bu = s.bu := by simp [dropTold, dropReported_of_part hs, failed]
  have hres := (askStable_resources (s.bu.claims.map (·.resource))).outcome (s := dropTold a s) (by rw [hbu]) r
  simpa using congrArg List.length hres

section
variable {s : State} {a : Attempt} {k : Fin 9} {n : Nat} (hs : a.sent = .part k) (hj : s.tq.job = .running k (some n))
include hs hj

/-- A run abandoned for the second time is over (R95). -/
theorem noRun_of_second_drop (hr : s.tq.reArm = true) (r : Bool) :
    NoRun (settle (attemptReport r (dropTold a s))) := by
  have hq : (dropTold a s).tq = { s.tq with job := .clear, reArm := false } := by
    rw [dropTold_tq_of_part hs, partDropped_of_running hj, if_pos hr]
  have hno : NoRun (dropTold a s) :=
    ⟨by rw [hq], by rw [hq], by rw [dropTold_tc_of_part hs hj]⟩
  exact (hno.attemptReport r).settle

/-- The queue of a run abandoned for the first time: armed once more. -/
theorem dropTold_tq_of_first_drop (hr : s.tq.reArm = false) :
    (dropTold a s).tq = { s.tq with job := .armed, reArm := true } := by
  rw [dropTold_tq_of_part hs, partDropped_of_running hj, if_neg (by simp [hr])]

section
variable (hst : s.tc.state = .holding) (hr : s.tq.reArm = false)
include hst hr

theorem dropTold_report_of_first_drop :
    attemptReport true (dropTold a s) =
      carryOut (if s.lines.xwant then .surrender else .continue) (decided (dropTold a s)) := by
  have htc := dropTold_tc_of_part hs hj
  have hlines : (dropTold a s).lines = s.lines := by simp [dropTold, dropReported_of_part hs, failed]
  have hwork : (decided (dropTold a s)).tc.hasWork = true := by
    simp [decided_tc, dropTold_tq_of_first_drop hs hj hr, TransmitQueue.hasWork, Job.hasWork]
  have hpinned : (decided (dropTold a s)).tc.pinned = false := by simp [decided_tc, htc]
  rw [attemptReport_of_holding (by rw [htc]; exact hst), decision_rearmed _ hpinned hwork, hlines]

/-- The holder of a run re-armed surrenders to XWANT, whatever its quota count (R129). -/
theorem rearmed_surrenders (hx : s.lines.xwant = true) :
    Surrendered (decided (dropTold a s)) (settle (attemptReport true (dropTold a s))) := by
  rw [dropTold_report_of_first_drop hs hj hst hr, hx]
  exact settle_surrender _

/-- Without XWANT it begins the run once more, with part 0, and is pinned again. -/
theorem rearmed_continues (hf : s.tq.entries.find? (·.inFlight) = none) (hx : s.lines.xwant = false) :
    Continued (.part 0)
      (((decided (dropTold a s)).withTq { s.tq with job := .running 0 (some 1), reArm := true }).withTc
        { (decided (dropTold a s)).tc with pinned := true })
      (settle (attemptReport true (dropTold a s))) := by
  have hq : (decided (dropTold a s)).tq = { s.tq with job := .armed, reArm := true } :=
    dropTold_tq_of_first_drop hs hj hr
  have hask := askNext_of_run_begun (s := decided (dropTold a s))
    (by rw [hq]; simpa using List.find?_eq_none.mp hf) (by rw [hq])
  rw [dropTold_report_of_first_drop hs hj hst hr, hx, if_neg (by decide), carryOut, hask, hq]
  refine settle_beginAttempt ?_ (.part 0)
  simp [decided_tc, dropTold_tc_of_part hs hj, hst]

end

end

end Sys2Proof.Machine
end

section
/-! PROOF. The parts of a snapshot run accepted, and with them the whole of O27. -/

namespace Sys2Proof.Machine

open Sys2Proof.Safety

/-! ### A part accepted (R42, R93, R95) -/

/-- The queue after a part of a run: the next part, or no run after part 8, and no UNTAKEN PRESENCE. -/
theorem accepted_part_job {q : TransmitQueue} {k : Fin 9} {n : Nat} (h : q.job = .running k (some n)) :
    (q.accepted (.part k)).job =
      if hk : k.val < 8 then .running ⟨k.val + 1, by omega⟩ none else .clear := by
  simp only [TransmitQueue.accepted, TransmitQueue.partAccepted, h]
  split <;> rfl

theorem accepted_last_part {q : TransmitQueue} {n : Nat} (h : q.job = .running 8 (some n)) :
    (q.accepted (.part 8)).job = .clear ∧ (q.accepted (.part 8)).reArm = false := by
  simp [TransmitQueue.accepted, TransmitQueue.partAccepted, h]

theorem accepted_part_inFlight {q : TransmitQueue} (h : q.entries.find? (·.inFlight) = none) (k : Fin 9) :
    (q.accepted (.part k)).entries.find? (·.inFlight) = none := by
  have hentries : q.partAccepted.entries = q.entries := by
    unfold TransmitQueue.partAccepted
    (repeat' split) <;> rfl
  refine List.find?_eq_none.mpr fun e he => List.find?_eq_none.mp h e ?_
  rw [← hentries]
  exact mem_of_mem_removeFirst he

/-- A SNAPSHOT part has no effect on the table but the count (R42). -/
theorem applyFrame_ownPart {s : State} {f : Frame} {p : Part} (hv : s.re.valid = true) (hb : f.body = .snapshot p) :
    applyFrame true f s = countUp .framesApplied (s.withRe s.re.advance) := by
  have heffects : effectsOf s.re f = Effects.none s.re := by rw [effectsOf, hb]
  have hbatch : batchOf s.me true f s.re (Effects.none s.re) = [] := by
    rw [batchOf_own (by rw [ownEntry, hb]) fun r => by rw [ownClaimOn, hb]; rfl]
    exact batchOf_of_records rfl rfl rfl
  have hjoin : f.isJoin = false := by simp [Frame.isJoin, hb]
  have hrole : referenceDerived f (s.re.reference == some s.me) (countUp .framesApplied (s.withRe s.re.advance)) =
      countUp .framesApplied (s.withRe s.re.advance) := by
    have hsame : s.re.advance.reference = s.re.reference := rfl
    have hme : (countUp .framesApplied (s.withRe s.re.advance)).me = s.me := rfl
    simp [referenceDerived, hjoin, hsame, hme]
  rw [applyFrame_own hv, applied_eq, heffects, hbatch, counted, heffects]
  exact hrole

/-- The state in which an accepted part is reported to the tenure controller. -/
def partTaken (a : Attempt) (s : State) : State :=
  presenceMarked (countUp .framesApplied ((ownTaken a s).withRe s.re.advance))

section
variable {s : State} {a : Attempt} {p : Part}

theorem exec_ownWindowClose_of_part (h : AwaitsOwnWindow s a) (hst : s.sc.state = .active) (hv : s.re.valid = true)
    (hb : a.frame.body = .snapshot p) :
    exec (.ownWindowClose false) s = .next (ownEnded (partTaken a s)) := by
  have happly : applyFrame true a.frame (ownTaken a s) =
      countUp .framesApplied ((ownTaken a s).withRe s.re.advance) := by
    rw [applyFrame_ownPart (by simpa using hv) hb]
    simp
  rw [exec_ownWindowClose_of_accepted h, happly, ownFrameAccepted_of_not_awaiting (by simp [hst]), hb]
  rfl

theorem partTaken_taken (a : Attempt) (s : State) : OwnTaken s (ownEnded (partTaken a s)) :=
  ownTaken_of_ended (by simp [partTaken, countUp, Counters.increment]) (by simp [partTaken])
    (by simp [OutsideKept, partTaken])

variable {k : Fin 9} {n : Nat} (hd : a.discarded = false) (hs : a.sent = .part k)
  (hj : s.tq.job = .running k (some n))
include hd hs

theorem partTaken_tq : (partTaken a s).tq = s.tq.accepted (.part k) := by
  simp [partTaken, ownTaken_tq a s hd, hs]

theorem partTaken_tc :
    (partTaken a s).tc = (runEnded ((failed s).withTq (s.tq.accepted (.part k)))).tc := by
  have htaken : ownTaken a s = runEnded ((failed s).withTq (s.tq.accepted a.sent)) := by
    rw [ownTaken, hd]
    rfl
  rw [← hs, ← htaken]
  rfl

include hj

/-- A run that goes on leaves the station pinned. -/
theorem partTaken_tc_of_next (hk : k.val < 8) : (partTaken a s).tc = s.tc := by
  have hjob := accepted_part_job hj
  rw [dif_pos hk] at hjob
  have hended : (runEnded ((failed s).withTq (s.tq.accepted (.part k)))).tc = s.tc := by
    unfold runEnded
    rw [State.withTq_tq, hjob]
    rfl
  rw [partTaken_tc hd hs, hended]

/-- The last part accepted ends the run. -/
theorem noRun_of_last_part (hk : k = 8) : NoRun (partTaken a s) := by
  subst hk
  obtain ⟨hjob, hrearm⟩ := accepted_last_part hj
  have hended : (runEnded ((failed s).withTq (s.tq.accepted (.part 8)))).tc.pinned = false := by
    rw [runEnded_tc (by rw [State.withTq_tq, hjob]; nofun)]
  refine ⟨by rw [partTaken_tq hd hs, hjob], by rw [partTaken_tq hd hs, hrearm], ?_⟩
  rw [partTaken_tc hd hs, hended]

/-- The pinned holder goes on with the next part, encoded on the replica as the accepted part has left it (R102, R129). -/
theorem next_part_continues (hst : s.tc.state = .holding) (hp : s.tc.pinned = true)
    (hf : s.tq.entries.find? (·.inFlight) = none) {k' : Fin 9} (hk : k'.val = k.val + 1) :
    ∃ u, u.re = s.re.advance ∧ u.tc.pinned = true ∧ u.tq.job = .running k' (some 1) ∧
      Continued (.part k') u (ownEnded (partTaken a s)) := by
  have hlt : k.val < 8 := by omega
  obtain ⟨v, hv⟩ : ∃ v, v = countUp .ownFramesApplied
    ((partTaken a s).withXi { (partTaken a s).xi with dropStreak := 0 }) := ⟨_, rfl⟩
  have hvtc : v.tc = s.tc := by rw [← partTaken_tc_of_next hd hs hj hlt, hv]; rfl
  have hvtq : v.tq = s.tq.accepted (.part k) := by rw [← partTaken_tq hd hs, hv]; rfl
  have hvre : v.re = s.re.advance := by simp [hv, partTaken]
  have hjob : v.tq.job = .running k' none := by
    have hnext : (⟨k.val + 1, by omega⟩ : Fin 9) = k' := Fin.ext hk.symm
    rw [hvtq, accepted_part_job hj, dif_pos hlt, hnext]
  have hhand := hand_of_next_part (hvtq ▸ accepted_part_inFlight hf k) hjob
  refine ⟨(decided v).withTq { v.tq with job := .running k' (some 1) }, by simp [hvre], ?_, rfl, ?_⟩
  · simp [decided_tc, hvtc, hp]
  · rw [ownEnded, ← hv]
    refine settle_attemptReport_continues (by rw [hvtc]; exact hst) (decision_of_pinned ?_ _ _) hhand (by simp)
      fun ha => absurd (hjob.symm.trans ha) nofun
    simp [decided_tc, hvtc, hp]

end

/-- Settles O27: the tenure controller's decision at the end of an attempt (R126, R129) and the frame that the queue then
hands (R86), for an entry that failed, and for a part of a run that failed, was dropped or was accepted. -/
theorem failedAttemptIsRetried : Obligations.FailedAttemptIsRetried := by
  refine ⟨fun s a e h hd hst he hn => ?_, fun s a k n h hd hs hst hf hj => ⟨fun hn hp => ?_, fun hn hx => ?_, ?_⟩⟩
  · have hexec := exec_ownWindowClose_of_failed h hd (attemptsInFlight_of_entry he ▸ hn)
    obtain ⟨hre, hsc, hmp, hout⟩ := failed_keeps s false
    refine ⟨_, hexec, ?_⟩
    split
    next hc =>
      have ht := failed_surrenders hst (hasWork_of_inFlight he hn) hc
      exact ⟨⟨ht.state, ht.quota, ht.xten, ht.attempt, ht.tq⟩, hre, ht.bu, hsc, hmp, hout⟩
    next hc =>
      have ht := failed_retries hst he hn hc
      exact ⟨⟨ht.state, ht.quota, ht.xten, ht.attempt, ht.tq⟩, hre, ht.bu, hsc, hmp, hout⟩
  · have hexec := exec_ownWindowClose_of_failed h hd (attemptsInFlight_of_part hf hj ▸ hn)
    obtain ⟨hre, hsc, hmp, hout⟩ := failed_keeps s false
    have ht := failed_part_retries hst hf hj hn hp
    exact ⟨_, hexec, ht.state, ht.pinned.trans hp, ht.quota, ht.tq, ht.attempt, hre, ht.bu, hsc, hmp, hout⟩
  · subst hn
    have hexec := exec_ownWindowClose_of_dropped_part hs h hd hf hj hx
    have ht := (dropTold_of_part (s := s) hs).outcome (!s.tq.reArm)
    refine ⟨_, hexec, fun hr => ?_, fun hr => ?_, ht.dropped, ht.dropStreak, ht.re, dropTold_claims_length hs _, ht.sc,
      boardKept_iff.mpr ht.board, ht.outside⟩
    · obtain ⟨hjob, hrearm, hpinned⟩ := noRun_of_second_drop hs hj hr (!s.tq.reArm)
      exact ⟨hjob, hrearm, hpinned⟩
    · have hq := dropTold_tq_of_first_drop hs hj hr
      rw [hr]
      split
      next hw =>
        have hsur := rearmed_surrenders hs hj hst hr hw
        have htq : (settle (attemptReport true (dropTold a s))).tq = { s.tq with job := .armed, reArm := true } :=
          hsur.tq.trans hq
        refine ⟨congrArg (·.reArm) htq, hsur.state, hsur.quota, hsur.xten, congrArg (·.job) htq, hsur.pinned.trans ?_,
          hsur.attempt.trans ?_⟩
        · simp [decided_tc, dropTold_tc_of_part hs hj]
        · simp [dropTold_xi_of_part hs]
      next hw =>
        have hcon := rearmed_continues hs hj hst hr hf (by simpa using hw)
        exact ⟨congrArg (·.reArm) hcon.tq, hcon.state, congrArg (·.job) hcon.tq, hcon.pinned, _, hcon.attempt, rfl, rfl⟩
  · rintro hact hv ⟨p, hb⟩
    have ht := partTaken_taken a s
    refine ⟨_, exec_ownWindowClose_of_part h hact hv hb, ?_, ht.dropStreak, ht.counted, fun k' hk hp => ?_, fun hk => ?_, ?_,
      ht.board, ht.outside⟩
    · simp [partTaken, ReplicaEngine.advance]
    · obtain ⟨u, hre, hpinned, hjob, hcon⟩ := next_part_continues hd hs hj hst hp hf hk
      refine ⟨hcon.state, hcon.pinned.trans hpinned, (congrArg (·.job) hcon.tq).trans hjob, _, hcon.attempt, rfl, rfl, ?_⟩
      simp [State.frameOf, hre, ReplicaEngine.advance, hv]
    · obtain ⟨hjob, hrearm, hpinned⟩ := (noRun_of_last_part hd hs hj hk).ownEnded
      exact ⟨hjob, hrearm, hpinned⟩
    · simp [partTaken, presenceMarked_sc, hact]

end Sys2Proof.Machine
end

section
/-! PROOF. XTEN and XWANT as the other stations drive them (O33, O34): what each event of the lines asks of the tenure
controller, and the end of an event that moves the tenure controller and the lines alone. -/

namespace Sys2Proof.Machine

open Sys2Proof.Safety

/-! ### The end of an event that moves the tenure controller alone (R87, R133) -/

theorem pins_xten_of_settled {s : State} (h : Settled s) : s.pins.xten = s.tc.xtenDrive := congrArg (·.xten) h.2

theorem pins_xwant_of_settled {s : State} (h : Settled s) : s.pins.xwant = s.tc.xwantDrive := congrArg (·.xwant) h.2

section
variable {s : State} (h : Settled s) (l : Lines) {t : TenureController} (hw : t.hasWork = s.tc.hasWork)
include h hw

/-- With has-work as it was told, the drives of the two bus lines follow the tenure controller, and no other output
moves. -/
theorem settle_tenure_moved :
    settle ((s.withLines l).withTc t) =
      { s with lines := l, tc := t, pins := { s.pins with xten := t.xtenDrive, xwant := t.xwantDrive } } := by
  obtain ⟨htold, hpins⟩ := h
  rw [settle_of_told _ (hw.trans htold), hpins]
  rfl

/-- A move between tenure states that drive the bus lines alike leaves the outputs. -/
theorem settle_drives_kept (hxten : t.xtenDrive = s.tc.xtenDrive) (hxwant : t.xwantDrive = s.tc.xwantDrive) :
    settle ((s.withLines l).withTc t) = { s with lines := l, tc := t } := by
  rw [settle_tenure_moved h l hw, hxten, hxwant, ← pins_xten_of_settled h, ← pins_xwant_of_settled h]

end

/-- A change of the lines that the tenure controller takes no notice of. -/
theorem settle_withLines {s : State} (h : Settled s) (l : Lines) : settle (s.withLines l) = { s with lines := l } :=
  settle_drives_kept h l (t := s.tc) rfl rfl rfl

/-! ### The bus condition (R119, R123) -/

section
variable {s : State}

theorem busBecomesFree_of_deferred (h : s.tc.state = .deferred) :
    busBecomesFree s =
      s.withTc
        { s.tc with state := .contending, cameFromDeferred := true, bus := some .contention, quietWatch := false } := by
  simp [busBecomesFree, h, contend, State.withTc]

theorem busBecomesFree_of_not_deferred (h : s.tc.state ≠ .deferred) :
    busBecomesFree s = s.withTc { s.tc with bus := some .free, quietWatch := false } := by
  unfold busBecomesFree
  dsimp only
  split
  next hd => exact absurd hd h
  all_goals rfl

/-- Another station's assertion on a FREE bus opens a contention, which only a DEFERRED station joins. -/
theorem xtenAsserted_of_free (hb : s.tc.bus = some .free) (h : s.tc.state ≠ .deferred) :
    xtenAsserted s =
      (s.withLines { s.lines with xten := true }).withTc { s.tc with bus := some .contention } := by
  unfold xtenAsserted
  simp only [State.withLines_tc, hb]
  unfold contentionOpens
  dsimp only
  split
  next hd => exact absurd hd h
  all_goals rfl

/-- A station that came online reading TAKEN does not read FREE at a release. -/
theorem xtenReleased_of_watching (hb : s.tc.bus = some .taken) (hq : s.tc.quietWatch = true) :
    xtenReleased s = s.withLines { s.lines with xten := false } := by
  simp [xtenReleased, hb, hq]

theorem xtenReleased_of_taken (hb : s.tc.bus = some .taken) (hq : s.tc.quietWatch = false)
    (ha : s.tc.assertsXten = false) :
    xtenReleased s = busBecomesFree (s.withLines { s.lines with xten := false }) := by
  simp [xtenReleased, hb, hq, ha]

theorem busQuiet_of_released (hb : s.tc.bus = some .taken) (hq : s.tc.quietWatch = true)
    (ha : s.tc.assertsXten = false) (hx : s.lines.xten = false) : busQuiet s = busBecomesFree s := by
  simp [busQuiet, hb, hq, ha, hx]

/-- XTEN is asserted by a holder, at work or parked, and by no other station (R133). -/
theorem assertsXten_eq_false_iff (t : TenureController) :
    t.assertsXten = false ↔ t.state ≠ .holding ∧ t.state ≠ .parked := by
  cases h : t.state <;> simp [TenureController.assertsXten, h]

/-! ### The demand line (R130 to R132) -/

theorem xwantAsserted_of_parked (h : s.tc.state = .parked) :
    xwantAsserted s = surrender (s.withLines { s.lines with xwant := true }) := by
  simp [xwantAsserted, h]

theorem xwantAsserted_of_not_parked (h : s.tc.state ≠ .parked) :
    xwantAsserted s = s.withLines { s.lines with xwant := true } := by
  unfold xwantAsserted
  dsimp only
  split
  next hp => exact absurd hp h
  all_goals rfl

/-- A SERVED station enters IDLE, and acts there on the work it has. -/
theorem xwantReleased_of_served (h : s.tc.state = .served) :
    xwantReleased s =
      let u := (s.withLines { s.lines with xwant := false }).withTenure .idle
      if s.tc.hasWork then wantBus u else u := by
  simp only [xwantReleased, State.withLines_tc, h]
  rfl

theorem xwantReleased_of_not_served (h : s.tc.state ≠ .served) :
    xwantReleased s = s.withLines { s.lines with xwant := false } := by
  unfold xwantReleased
  dsimp only
  split
  next hs => exact absurd hs h
  all_goals rfl

theorem wantBus_of_taken (h : s.tc.bus = some .taken) : wantBus s = s.withTenure .deferred := by
  simp [wantBus, h]

theorem wantBus_of_free (h : s.tc.bus = some .free) : wantBus s = contend false s := by
  simp [wantBus, h]

end

/-! ### XTEN read by an IDLE and by a DEFERRED station -/

section
variable {s : State} (h : Settled s)
include h

/-- An IDLE station drives neither line, whatever it reads on the bus. -/
theorem settle_idle (hst : s.tc.state = .idle) (l : Lines) {t : TenureController} (ht : t.state = .idle)
    (hw : t.hasWork = s.tc.hasWork) : settle ((s.withLines l).withTc t) = { s with lines := l, tc := t } :=
  settle_drives_kept h l hw (by simp [TenureController.xtenDrive, hst, ht])
    (by simp [TenureController.xwantDrive, hst, ht])

theorem settle_xtenAsserted_idle (hst : s.tc.state = .idle) (hb : s.tc.bus = some .free) :
    settle (xtenAsserted s) =
      { s with lines := { s.lines with xten := true }, tc := { s.tc with bus := some .contention } } := by
  rw [xtenAsserted_of_free hb (by simp [hst])]
  exact settle_idle h hst _ hst rfl

theorem settle_xtenReleased_idle (hst : s.tc.state = .idle) (hb : s.tc.bus = some .taken) :
    settle (xtenReleased s) =
      { s with
        lines := { s.lines with xten := false }
        tc := if s.tc.quietWatch then s.tc else { s.tc with bus := some .free, quietWatch := false } } := by
  cases hq : s.tc.quietWatch with
  | true =>
    rw [xtenReleased_of_watching hb hq]
    exact settle_withLines h _
  | false =>
    rw [xtenReleased_of_taken hb hq ((assertsXten_eq_false_iff _).mpr (by simp [hst])),
      busBecomesFree_of_not_deferred (by simp [hst])]
    exact settle_idle h hst _ hst rfl

/-- The bus becomes FREE to a DEFERRED station, which contends and keeps XWANT asserted. -/
theorem settle_xtenReleased_deferred (hst : s.tc.state = .deferred) (hb : s.tc.bus = some .taken)
    (hq : s.tc.quietWatch = false) :
    settle (xtenReleased s) =
      { s with
        lines := { s.lines with xten := false }
        tc := { s.tc with state := .contending, cameFromDeferred := true, bus := some .contention, quietWatch := false }
        pins := { s.pins with xten := .rankMarks, xwant := true } } := by
  rw [xtenReleased_of_taken hb hq ((assertsXten_eq_false_iff _).mpr (by simp [hst])),
    busBecomesFree_of_deferred (by simp [hst])]
  exact settle_tenure_moved h _ rfl

theorem settle_busQuiet_idle (hst : s.tc.state = .idle) (hb : s.tc.bus = some .taken) (hq : s.tc.quietWatch = true)
    (hx : s.lines.xten = false) :
    settle (busQuiet s) = { s with tc := { s.tc with bus := some .free, quietWatch := false } } := by
  rw [busQuiet_of_released hb hq ((assertsXten_eq_false_iff _).mpr (by simp [hst])) hx,
    busBecomesFree_of_not_deferred (by simp [hst])]
  exact settle_idle h hst s.lines hst rfl

/-! ### XWANT read by a PARKED and by a SERVED station -/

theorem settle_xwantAsserted_parked (hst : s.tc.state = .parked) :
    settle (xwantAsserted s) =
      { s with
        lines := { s.lines with xwant := true }
        tc := { s.tc with state := .served, quota := 0, bus := if s.lines.xten then some .taken else some .free }
        pins := { s.pins with xten := .released, xwant := false } } := by
  rw [xwantAsserted_of_parked hst]
  exact settle_tenure_moved h _ rfl

/-- The end of SERVED with no work: neither SERVED nor IDLE drives a line. -/
theorem settle_xwantReleased_served (hst : s.tc.state = .served) (hw : s.tc.hasWork = false) :
    settle (xwantReleased s) =
      { s with lines := { s.lines with xwant := false }, tc := { s.tc with state := .idle } } := by
  rw [xwantReleased_of_served hst, hw]
  exact settle_drives_kept h _ rfl (by simp [TenureController.xtenDrive, hst])
    (by simp [TenureController.xwantDrive, hst])

/-- The end of SERVED with work and the bus TAKEN: the station defers. -/
theorem settle_xwantReleased_taken (hst : s.tc.state = .served) (hw : s.tc.hasWork = true)
    (hb : s.tc.bus = some .taken) :
    settle (xwantReleased s) =
      { s with
        lines := { s.lines with xwant := false }, tc := { s.tc with state := .deferred }
        pins := { s.pins with xwant := true } } := by
  have hxten : s.pins.xten = .released := by simp [pins_xten_of_settled h, TenureController.xtenDrive, hst]
  have hpins : { s.pins with xten := .released, xwant := true } = { s.pins with xwant := true } := by rw [← hxten]
  rw [xwantReleased_of_served hst, hw, if_pos rfl, wantBus_of_taken (by exact hb), ← hpins]
  exact settle_tenure_moved h _ rfl

/-- The end of SERVED with work and the bus FREE: the station opens a contention. -/
theorem settle_xwantReleased_free (hst : s.tc.state = .served) (hw : s.tc.hasWork = true) (hb : s.tc.bus = some .free) :
    settle (xwantReleased s) =
      { s with
        lines := { s.lines with xwant := false }
        tc := { s.tc with state := .contending, cameFromDeferred := false, bus := some .contention }
        pins := { s.pins with xten := .rankMarks } } := by
  have hxwant : s.pins.xwant = false := by simp [pins_xwant_of_settled h, TenureController.xwantDrive, hst]
  have hpins : { s.pins with xten := .rankMarks, xwant := false } = { s.pins with xten := .rankMarks } := by
    rw [← hxwant]
  rw [xwantReleased_of_served hst, hw, if_pos rfl, wantBus_of_free (by exact hb), ← hpins]
  exact settle_tenure_moved h _ rfl

end

/-! ### The two statements -/

/-- Settles O33: the bus condition read from XTEN at an IDLE station, with the quiet bus after coming online, and the
contention that a DEFERRED station enters. -/
theorem tenureLineIsRead : Obligations.TenureLineIsRead := by
  refine fun s h => ⟨fun hst hb => ?_, fun hst hb => ?_, fun hst hb hq => ?_, fun hp hst hb hq hx => ?_⟩
  · exact congrArg Host.Outcome.next (settle_xtenAsserted_idle h hst hb)
  · exact congrArg Host.Outcome.next (settle_xtenReleased_idle h hst hb)
  · exact congrArg Host.Outcome.next (settle_xtenReleased_deferred h hst hb hq)
  · exact (event_of_powered hp busQuiet).trans (congrArg Host.Outcome.next (settle_busQuiet_idle h hst hb hq hx))

/-- Settles O34: the surrender of a PARKED holder, the end of SERVED by the work and the bus condition, and the line
alone in every other tenure state. -/
theorem demandLineIsRead : Obligations.DemandLineIsRead := by
  refine fun s h =>
    ⟨fun hst => ?_, fun hst => ?_, fun hst hw => ?_, fun hst hw hb => ?_, fun hst hw hb => ?_, fun hst => ?_⟩
  · exact congrArg Host.Outcome.next (settle_xwantAsserted_parked h hst)
  · exact congrArg Host.Outcome.next ((congrArg settle (xwantAsserted_of_not_parked hst)).trans (settle_withLines h _))
  · exact congrArg Host.Outcome.next (settle_xwantReleased_served h hst hw)
  · exact congrArg Host.Outcome.next (settle_xwantReleased_taken h hst hw hb)
  · exact congrArg Host.Outcome.next (settle_xwantReleased_free h hst hw hb)
  · exact congrArg Host.Outcome.next ((congrArg settle (xwantReleased_of_not_served hst)).trans (settle_withLines h _))

end Sys2Proof.Machine
end

section
/-! PROOF. The close of a contention (O32): the onlooker, the loser, and the winner, which acts on a decision at once. -/

namespace Sys2Proof.Machine

open Sys2Proof.Safety

/-! ### What the close asks of each station (R119, R121, R122) -/

/-- A contender wins where no other has a lower number (R121). -/
theorem winsAgainst_iff (s : State) (other : Option Station) :
    s.winsAgainst other = true ↔ ∀ o, other = some o → s.me ≤ o := by
  cases other <;> simp [State.winsAgainst]

section
variable {s : State} {other : Option Station} (hb : s.tc.bus = some .contention)
include hb

theorem contentionCloses_of_contending (hst : s.tc.state = .contending) :
    contentionCloses other s =
      contenderCloses (s.winsAgainst other) (s.withLines { s.lines with xten := s.keptAsserted other }) := by
  simp only [contentionCloses, hb, hst]

/-- An IDLE onlooker reads TAKEN where any contender remained at the close, and FREE otherwise. -/
theorem contentionCloses_of_idle (hst : s.tc.state = .idle) :
    contentionCloses other s =
      (s.withLines { s.lines with xten := other.isSome }).withTc
        { s.tc with
          bus := if other.isSome then some .taken else some .free
          quietWatch := s.tc.quietWatch && other.isSome } := by
  have hclose : contentionCloses other s =
      let u := s.withLines { s.lines with xten := other.isSome }
      if other.isSome then u.withTc { u.tc with bus := some .taken } else busBecomesFree u := by
    simp only [contentionCloses, hb, hst]
  rw [hclose]
  cases other with
  | none => exact (busBecomesFree_of_not_deferred (by simp [hst])).trans (by simp)
  | some o => simp

end

/-- A loser defers where it has work, and is IDLE where it has none. -/
theorem contenderCloses_lost (s : State) :
    contenderCloses false s =
      s.withTc
        { s.tc with
          state := if s.tc.hasWork then .deferred else .idle, cameFromDeferred := false, bus := some .taken } := by
  unfold contenderCloses
  cases hw : s.tc.hasWork <;> simp [hw, State.withTenure]

/-! ### The winner's decision (R122, R126) -/

/-- The winner as it enters HOLDING, before it asks for a frame or decides. -/
def entersHolding (s : State) : State :=
  s.withTc { s.tc with state := .holding, quota := 0, cameFromDeferred := false, bus := some .taken }

/-- What a winner does at the close: with work it asks for a frame at once, and with none it decides by the table. -/
def closingDecision (s : State) : Decision :=
  if s.tc.hasWork then .continue else s.tc.decision s.lines.xwant false

/-- The tenure state that a decision leads a holder to. -/
def Decision.tenure : Decision → TenureState
  | .continue => .holding
  | .park => .parked
  | .surrender => .served

theorem decision_of_no_work {t : TenureController} (h : t.hasWork = false) (xwant r : Bool) :
    t.decision xwant r = if t.pinned then .continue else if xwant then .surrender else .park := by
  cases xwant <;> simp [TenureController.decision, h]

/-- The quota count bears on a decision with work alone, and there the winner does not decide. -/
theorem closingDecision_entersHolding (s : State) : closingDecision (entersHolding s) = closingDecision s := by
  cases hw : s.tc.hasWork with
  | true => rw [closingDecision, closingDecision, if_pos hw, if_pos (by exact hw)]
  | false =>
    rw [closingDecision, closingDecision, decision_of_no_work hw, decision_of_no_work (by exact hw)]
    rfl

theorem contenderCloses_won {s : State} (h : s.tc.hasWork = s.tq.hasWork) :
    contenderCloses true s = carryOut (closingDecision s) (entersHolding s) := by
  have hnote : noteWork (entersHolding s) = entersHolding s := noteWork_of_told _ h
  have hclose : contenderCloses true s =
      if (entersHolding s).tc.hasWork then askNext (entersHolding s) else holdingDecision false (entersHolding s) := rfl
  rw [hclose, holdingDecision_eq, hnote, ← closingDecision_entersHolding, closingDecision]
  split <;> rfl

theorem closingDecision_of_work {s : State} (h : s.tc.hasWork = true) : closingDecision s = .continue := if_pos h

theorem closingDecision_of_no_work {s : State} (h : s.tc.hasWork = false) (hp : s.tc.pinned = false) :
    closingDecision s = if s.lines.xwant then .surrender else .park := by
  simp [closingDecision, decision_of_no_work h, h, hp]

/-! ### A decision carried out, at the end of its event -/

/-- The asking for a frame moves nothing of the tenure controller but the pinned flag of a run that begins (R129). -/
theorem askNext_tc (s : State) : ∃ p, (askNext s).tc = { s.tc with pinned := p } := by
  unfold askNext
  dsimp only
  split
  · exact ⟨s.tc.pinned, rfl⟩
  · simp only [beginAttempt_keeps, reportTaken_keeps]
    split
    · exact ⟨true, rfl⟩
    · exact ⟨s.tc.pinned, rfl⟩

/-- What a decision carried out in HOLDING with quota count 0 leaves of the tenure controller. -/
structure Closed (d : Decision) (t : TenureController) : Prop where
  state : t.state = d.tenure
  quota : t.quota = 0
  cameFromDeferred : t.cameFromDeferred = false

theorem carryOut_closed (d : Decision) (s : State) : Closed d (carryOut d (entersHolding s)).tc := by
  match d with
  | .continue =>
    obtain ⟨p, hp⟩ := askNext_tc (entersHolding s)
    rw [carryOut, hp]
    exact ⟨rfl, rfl, rfl⟩
  | .park => exact ⟨rfl, rfl, rfl⟩
  | .surrender => exact ⟨rfl, rfl, rfl⟩

theorem carryOut_lines (d : Decision) (s : State) : (carryOut d s).lines = s.lines := by
  cases d <;> simp [carryOut]

theorem carryOut_board (d : Decision) (s : State) : (carryOut d s).bu.board = s.bu.board := by
  cases d <;> simp [carryOut]

/-- The end of the event keeps the tenure state that the decision led to: one that parks has no work to be told. -/
theorem settle_closed {s : State} {d : Decision} (h : Closed d s.tc)
    (hd : d = .park → s.tc.hasWork = s.tq.hasWork) : Closed d (settle s).tc := by
  have htell : tellWork s = noteWork s := by
    match d with
    | .continue => exact tellWork_of_tenure (.inl h.state)
    | .park => rw [tellWork_of_told s (hd rfl), noteWork_of_told s (hd rfl)]
    | .surrender => exact tellWork_of_tenure (.inr h.state)
  rw [settle_tc, htell]
  exact ⟨h.state, h.quota, h.cameFromDeferred⟩

/-- Neither a holder nor a station that has surrendered asserts XWANT (R133). -/
theorem Closed.xwant {d : Decision} {t : TenureController} (h : Closed d t) : t.xwantDrive = false := by
  cases d <;> simp [TenureController.xwantDrive, h.state, Decision.tenure]

/-- A winner at the end of the event: its decision is carried out, with the line and the board as they were. -/
theorem settle_contenderCloses_won {s : State} (h : s.tc.hasWork = s.tq.hasWork) :
    let t := settle (contenderCloses true s)
    Closed (closingDecision s) t.tc ∧ t.lines = s.lines ∧ BoardKept s t := by
  rw [contenderCloses_won h]
  refine ⟨settle_closed (carryOut_closed _ s) fun hd => ?_, ?_, boardKept_iff.mpr ?_⟩
  · rw [hd]
    exact h
  · simp [carryOut_lines, entersHolding]
  · rw [settle_board, carryOut_board]
    rfl

/-! ### The three stations at the close -/

section
variable {s : State} {other : Option Station} (h : Settled s) (hb : s.tc.bus = some .contention)
include h hb

theorem settle_contentionCloses_idle (hst : s.tc.state = .idle) :
    settle (contentionCloses other s) =
      { s with
        lines := { s.lines with xten := other.isSome }
        tc :=
          { s.tc with
            bus := if other.isSome then some .taken else some .free
            quietWatch := s.tc.quietWatch && other.isSome } } := by
  rw [contentionCloses_of_idle hb hst]
  exact settle_idle h hst _ hst rfl

/-- The drives of a loser follow its tenure state: XTEN released, and XWANT asserted where it defers. -/
theorem settle_contentionCloses_lost (hst : s.tc.state = .contending) (hlost : s.winsAgainst other = false) :
    settle (contentionCloses other s) =
      { s with
        lines := { s.lines with xten := s.keptAsserted other }
        tc :=
          { s.tc with
            state := if s.tc.hasWork then .deferred else .idle, cameFromDeferred := false, bus := some .taken }
        pins := { s.pins with xten := .released, xwant := s.tc.hasWork } } := by
  rw [contentionCloses_of_contending hb hst, hlost, contenderCloses_lost, settle_tenure_moved h _ (by rfl)]
  cases hw : s.tc.hasWork <;> simp [TenureController.xtenDrive, TenureController.xwantDrive, hw]

theorem settle_contentionCloses_won (hst : s.tc.state = .contending) (hwins : s.winsAgainst other = true) :
    let t := settle (contentionCloses other s)
    Closed (closingDecision s) t.tc ∧ t.lines = { s.lines with xten := decide (other = some s.me) } ∧ BoardKept s t := by
  have hrun : contentionCloses other s =
      contenderCloses true (s.withLines { s.lines with xten := decide (other = some s.me) }) := by
    rw [contentionCloses_of_contending hb hst, hwins, keptAsserted_of_wins s other hwins]
  rw [hrun]
  exact settle_contenderCloses_won (s := s.withLines { s.lines with xten := decide (other = some s.me) }) h.1

end

end Sys2Proof.Machine

-- The model's operation has the name that the statement's theorem takes, in a namespace of its own.
namespace Sys2Proof.Machine.Contention

/-- Settles O32: the winner carries out its decision at once, the loser defers or is IDLE, and the onlooker reads the bus
alone. -/
theorem contentionCloses : Obligations.ContentionCloses := by
  refine fun s m other h hm hb => ?_
  obtain rfl := me_of_number hm
  refine ⟨fun hst hlow => ?_, fun o hst ho hlt => ?_, fun hst => ?_⟩
  · obtain ⟨hc, hlines, hboard⟩ := settle_contentionCloses_won h hb hst ((winsAgainst_iff s other).mpr hlow)
    have hxten := pins_xten_of_settled (settle_settled (Machine.contentionCloses other s))
    have hxwant := pins_xwant_of_settled (settle_settled (Machine.contentionCloses other s))
    refine ⟨_, rfl, fun hw => ?_, fun hw hp => ?_, hc.quota, hc.cameFromDeferred, hxwant.trans hc.xwant, hlines, by simp,
      by simp, by simp, by simp, hboard⟩
    · have hstate := hc.state.trans (congrArg Decision.tenure (closingDecision_of_work hw))
      exact ⟨hstate, hxten.trans (by rw [TenureController.xtenDrive, hstate]; rfl)⟩
    · rw [hc.state, closingDecision_of_no_work hw hp]
      exact apply_ite _ _ _ _
  · have hlost : s.winsAgainst other = false :=
      Bool.eq_false_iff.mpr fun hw => absurd ((winsAgainst_iff s other).mp hw o ho) (not_le.mpr hlt)
    refine ⟨_, congrArg Host.Outcome.next (settle_contentionCloses_lost h hb hst hlost), rfl, rfl, rfl, ?_, rfl, rfl,
      rfl, rfl, rfl, rfl⟩
    simp [ho, hlt.le]
  · exact congrArg Host.Outcome.next (settle_contentionCloses_idle h hb hst)

end Sys2Proof.Machine.Contention
end

section
/-! PROOF. Supply and reset (O3), the laws right after reset (O51), and the release of RESET (O5). -/

namespace Sys2Proof.Machine

open Sys2Proof.Safety

/-! ### Supply and reset (R112, R115, R136) -/

/-- The reset form of every block, whatever the station held: only what lies outside the part is kept. -/
theorem blocksReset_eq (s : State) (b : Bool) :
    { s.blocksReset with powered := b } =
      { State.reset with pending := s.pending, unanswered := s.unanswered, lines := s.lines, powered := b } := rfl

theorem exec_resetAsserted {s : State} (h : s.powered = true) :
    exec .resetAsserted s = .next { s.blocksReset with powered := true } := by
  refine congrArg Host.Outcome.next ?_
  rw [if_pos h, ← h]
  rfl

/-- Settles O3: the three events leave the same reset form, with the supply or without it. -/
theorem supplyAndResetEvents : Obligations.SupplyAndResetEvents := fun s =>
  ⟨congrArg Host.Outcome.next (blocksReset_eq s true),
    fun hp => (exec_resetAsserted hp).trans (congrArg Host.Outcome.next (blocksReset_eq s true)),
    ⟨_, rfl, rfl, rfl, rfl, rfl, rfl, blocksReset_eq s false⟩⟩

/-! ### The laws right after reset (R136, R183) -/

theorem reset_port : PortLawful ManagementPort.reset := ⟨Nat.zero_le _, rfl, .inl rfl, .inl rfl, rfl⟩

/-- Settles O51: a run from reset begins safe, the replica in its empty form, and no frame is held. -/
theorem lawsHoldAtReset : Obligations.LawsHoldAtReset :=
  have h : RunSafe State.reset := runSafe_reset []
  ⟨h.settled, reset_port, h.parts, tableLawful_empty, ⟨nofun, nofun⟩, h.queue, nofun, h.backed,
    grantsBacked_of_settled h.settled h.backed⟩

/-! ### A state entered by an OFFLINE station that stays so -/

/-- The tenure controller is OFFLINE and stays so, and the queue is left as it is. -/
theorem enterState_of_offline {st : StationState} {s : State} (hq : st.queueEmptied = false)
    (hon : st.tenureOnline = false) (h : s.tc.state = .offline) (c : Cause) :
    (enterState st c s).tc = s.tc ∧ (enterState st c s).xi = s.xi.forState st := by
  have hoff : placeOffline (s.withRe s.re.discardLoad) = s.withRe s.re.discardLoad := if_pos h
  unfold enterState
  simp [hq, hon, hoff]

/-! ### The release of RESET (R136, R175, R177) -/

/-- The station state and the loader state that the strap CFGSRC calls for. -/
def strapState (cfgsrc : Bool) : StationState := if cfgsrc then .config else .loading

def strapLoader (cfgsrc : Bool) : LoaderState := if cfgsrc then .staging else .reading

/-- The straps sampled, before the state they call for is entered. -/
def strapped (sid : Station) (cfgsrc : Bool) (s : State) : State :=
  (s.withXi { s.xi with number := some sid }).withCl { s.cl with state := strapLoader cfgsrc }

theorem strapState_quiet (cfgsrc : Bool) :
    (strapState cfgsrc).queueEmptied = false ∧ (strapState cfgsrc).tenureOnline = false ∧
      (strapState cfgsrc).receiverOn = false := by
  cases cfgsrc <;> exact ⟨rfl, rfl, rfl⟩

theorem releaseReset_of_reset {s : State} (h : s.sc.state = .reset) (sid : Station) (cfgsrc : Bool) :
    releaseReset sid cfgsrc s = enterState (strapState cfgsrc) .resetReleased (strapped sid cfgsrc s) := by
  unfold releaseReset
  rw [h]
  cases cfgsrc <;> rfl

theorem exec_resetReleased {s : State} (hp : s.powered = true) (h : s.sc.state = .reset) (sid : Station)
    (cfgsrc : Bool) :
    exec (.resetReleased sid cfgsrc) s =
      .next (settle (enterState (strapState cfgsrc) .resetReleased (strapped sid cfgsrc s))) :=
  (event_of_powered hp _).trans (by rw [releaseReset_of_reset h])

/-- The reset values of the station controller are those of CONFIG and LOADING, but for the state. -/
theorem reset_change_strapState (cfgsrc : Bool) :
    StationController.reset.change (strapState cfgsrc) =
      { StationController.reset with state := strapState cfgsrc } := by
  cases cfgsrc <;> rfl

/-- No grant is called for before a freeze, whatever the station state. -/
theorem gntLevel_of_unfrozen {b : BindingUnit} (h : b.bindings = none) (st : StationState) (n : BindingNo) :
    gntLevel st b n = false := by
  simp [gntLevel, BindingUnit.config, h]

theorem yldLevel_of_unfrozen {b : BindingUnit} (h : b.bindings = none) (st : StationState) (n : BindingNo) :
    yldLevel st b n = false := by
  simp [yldLevel, BindingUnit.config, h]

/-- Before a freeze the outputs follow the tenure controller, the pair and the loader alone. -/
theorem drivenPins_of_unfrozen {s u : State} (h : s.bu.bindings = none) (hbu : u.bu = s.bu) (htc : u.tc = s.tc)
    (hpair : u.xi.pairDrive = s.xi.pairDrive) (hat : u.cl.failedAt = s.cl.failedAt) :
    u.drivenPins = { s.drivenPins with cfg := u.cl.cfgDrive, cfgRead := u.cl.cfgRead } := by
  have hgnt : gntLevel u.sc.state u.bu = gntLevel s.sc.state s.bu := funext fun n => by
    rw [hbu, gntLevel_of_unfrozen h, gntLevel_of_unfrozen h]
  have hyld : yldLevel u.sc.state u.bu = yldLevel s.sc.state s.bu := funext fun n => by
    rw [hbu, yldLevel_of_unfrozen h, yldLevel_of_unfrozen h]
  simp only [State.drivenPins, hgnt, hyld, htc, hpair, ConfigLoader.cfgEnded, hat]

/-- The configuration lines at the end of an event are the loader's (R178). -/
theorem settle_cfg (s : State) :
    (settle s).pins.cfg = s.cl.cfgDrive ∧ (settle s).pins.cfgRead = s.cl.cfgRead := by
  simp [State.drivenPins]

/-- From the reset values the release of RESET moves the station state, the number and the configuration lines alone. -/
theorem release_of_reset_values {s : State}
    (h : s = { State.reset with pending := s.pending, unanswered := s.unanswered, lines := s.lines })
    (sid : Station) (cfgsrc : Bool) :
    let t := settle (enterState (strapState cfgsrc) .resetReleased (strapped sid cfgsrc s))
    t.sc = { s.sc with state := strapState cfgsrc } ∧ t.xi = { s.xi with number := some sid } ∧ t.tc = s.tc ∧
      t.re = s.re ∧ t.pins = { s.pins with cfg := t.pins.cfg, cfgRead := t.pins.cfgRead } := by
  have hs : Settled s := h ▸ reset_settled s true
  have hsc : s.sc = StationController.reset := congrArg State.sc h
  have hxi : s.xi = ExchangeInterface.reset := congrArg State.xi h
  have hre : s.re = ReplicaEngine.empty := congrArg State.re h
  have hbu : s.bu.bindings = none := congrArg (·.bu.bindings) h
  have hoff : s.tc.state = .offline := congrArg (·.tc.state) h
  obtain ⟨hq, hon, hrecv⟩ := strapState_quiet cfgsrc
  obtain ⟨u, hu⟩ : ∃ u, u = enterState (strapState cfgsrc) .resetReleased (strapped sid cfgsrc s) := ⟨_, rfl⟩
  obtain ⟨htc, hxi'⟩ : u.tc = s.tc ∧ u.xi = (strapped sid cfgsrc s).xi.forState (strapState cfgsrc) :=
    hu ▸ enterState_of_offline (s := strapped sid cfgsrc s) hq hon hoff .resetReleased
  have hnumber : u.xi = { s.xi with number := some sid } := by
    rw [hxi', ExchangeInterface.forState, if_neg (by simp [hrecv])]
    simp [strapped, hxi, ExchangeInterface.reset]
  have htold : u.tc.hasWork = u.tq.hasWork := by
    rw [htc, hu, enterState_tq, hq]
    exact hs.1
  dsimp only
  rw [← hu, settle_of_told u htold]
  refine ⟨?_, hnumber, htc, ?_, ?_⟩
  · simp [hu, strapped, hsc, reset_change_strapState]
  · simp [hu, strapped, hre, ReplicaEngine.discardLoad, ReplicaEngine.empty]
  · rw [State.withPins_pins, hs.2]
    exact drivenPins_of_unfrozen hbu (by simp [hu, strapped]) htc (by rw [hnumber]; rfl) (by simp [hu, strapped])

/-- Settles O5: the state that the straps call for is entered by an OFFLINE station, and the loader's lines follow. -/
theorem releaseOfResetSamplesTheStraps : Obligations.ReleaseOfResetSamplesTheStraps := by
  intro sid cfgsrc s hp hst
  obtain ⟨hq, hon, _⟩ := strapState_quiet cfgsrc
  obtain ⟨u, hu⟩ : ∃ u, u = enterState (strapState cfgsrc) .resetReleased (strapped sid cfgsrc s) := ⟨_, rfl⟩
  obtain ⟨hoff, hxi, htq, hbu, _, _⟩ := settle_of_offline (hu ▸ (enterState_offline _ _ _).mpr hon)
  obtain ⟨hcfg, hread⟩ := settle_cfg u
  have hcl : u.cl = { s.cl with state := strapLoader cfgsrc } := by simp [hu, strapped]
  refine ⟨settle u, hu ▸ exec_resetReleased hp hst sid cfgsrc, ?_, ?_, ?_, ?_, ?_, ?_, hoff, ?_, ?_, ?_, ?_, ?_, ?_, ?_,
    fun h => ?_⟩
  · rw [hxi, hu, enterState_number]
    rfl
  · simp [hu, strapState]
  · simp [hcl, strapLoader]
  · rw [hcfg, hcl]
    cases cfgsrc <;> rfl
  · rw [hread, hcl]
    cases cfgsrc <;> rfl
  · simp [hu, strapState, strapped]
  · rw [htq, hu, enterState_tq, hq]
    rfl
  · rw [hbu, hu]
    simp [strapped]
  · simp [hu, strapped]
  · simp [hu, strapped]
  · simpa [hu, strapped] using hp
  · simp [hu, strapped]
  · simp [hu, strapped]
  · obtain ⟨hsc, hrest⟩ := release_of_reset_values h sid cfgsrc
    rw [← hu] at hsc hrest
    exact ⟨by rw [hsc], hrest⟩

end Sys2Proof.Machine
end

section
/-! PROOF. The listen timer at its end (O36), and LEAVE and REJOIN (O48): the JOIN and the LEAVE queued, and the notices of
the teardown. -/

namespace Sys2Proof.Machine

open Sys2Proof.Safety

/-! ### A JOIN queued from LISTENING (R120, R140) -/

/-- A state in which the tenure controller is online, entered with it online and the queue kept, leaves it as it is. -/
theorem enterState_of_online {st : StationState} {s : State} (hq : st.queueEmptied = false) (hon : st.tenureOnline = true)
    (h : s.tc.state ≠ .offline) (c : Cause) : (enterState st c s).tc = s.tc := by
  have hstay : placeOnline (s.withRe s.re.discardLoad) = s.withRe s.re.discardLoad := if_neg h
  unfold enterState
  simp [hq, hon, hstay]

/-- An IDLE station that comes to have work wants the bus. -/
theorem tellWork_of_idle_gains_work {s : State} (hst : s.tc.state = .idle) (hold : s.tc.hasWork = false)
    (hnew : s.tq.hasWork = true) : tellWork s = wantBus (noteWork s) := by
  have hn : (noteWork s).tc.state = .idle := hst
  have hw : (noteWork s).tc.hasWork = true := hnew
  simp only [tellWork, hn, hold, hw]

theorem wantBus_state {s : State} (h : s.tc.bus ≠ none) :
    (wantBus s).tc.state = if s.tc.bus = some .taken then .deferred else .contending := by
  unfold wantBus
  split
  next hb => simp [hb, contend]
  next hb => simp [hb, contend]
  next hb => simp [hb, State.withTenure]
  next hb => exact absurd hb h

theorem exec_listenTimerExpired {s : State} (hp : s.powered = true) (ht : s.sc.listenTimer = true) :
    exec .listenTimerExpired s = .next (settle (joinAgain .listenEnded s)) :=
  (event_of_powered hp _).trans (by rw [listenEnds, if_pos ht])

/-- Settles O36: JOIN_PENDING is entered with the JOIN as the first work, which brings the IDLE station to want the bus. -/
theorem listenTimerLeadsToJoin : Obligations.ListenTimerLeadsToJoin := by
  intro s hp hs hst ht hq hidle hbus
  obtain ⟨u, hu⟩ : ∃ u, u = joinAgain .listenEnded s := ⟨_, rfl⟩
  have htc : u.tc = s.tc := hu ▸ enterState_of_online rfl rfl (by simp [hidle]) _
  have hsc : u.sc = s.sc.change .joinPending := hu ▸ joinAgain_sc _ s
  have htq : u.tq = TransmitQueue.empty.append .join := by
    rw [hu, joinAgain_tq, hq]
    rfl
  have hold : u.tc.hasWork = false := by
    rw [htc, hs.1, hq]
    rfl
  have hwant : tellWork u = wantBus (noteWork u) :=
    tellWork_of_idle_gains_work (htc ▸ hidle) hold (by rw [htq]; rfl)
  obtain ⟨hqueue, hbu, _⟩ := settle_of_not_parked (s := u) (by simp [htc, hidle])
  refine ⟨settle u, hu ▸ exec_listenTimerExpired hp ht, ?_, ?_, ?_, ?_, ?_, hqueue.trans htq, ?_, ?_, ?_, ?_, ?_⟩
  · simp [hsc]
  · simp [hsc, StationController.change]
  · simp [hsc, StationController.change]
  · simp [hsc, StationController.change, StationState.duty]
  · simp [hsc, hst, StationController.change, StationState.duty]
  · have hb : (noteWork u).tc.bus = s.tc.bus := congrArg (·.bus) htc
    rw [settle_tc, hwant, wantBus_state (hb ▸ hbus), hb]
  · simp [hu, joinAgain_mp]
  · simp [hu, joinAgain_re]
  · rw [hbu, hu]
    simp
  · simp [OutsideKept, hu]

/-! ### The notices of a wholesale loss (R80, R192) -/

theorem post_notices_of_room {n : Notice} {p : ManagementPort} (h : p.notices.length < 32) :
    (p.post n).notices = p.notices ++ [n] := by
  simp [ManagementPort.post, Config.noticeCapacity, h]

/-- The HOLD_LOST of a claim with the bindings noted for it, where there are any. -/
def holdLostNotice (why : LossReason) (n : Resource × List BindingNo) : Option Notice :=
  if n.2 = [] then none else some (.holdLost (bindingSet n.2) n.1 why)

theorem postHoldLost_notices {n : Resource × List BindingNo} {s : State} (h : s.mp.notices.length < 32)
    (why : LossReason) :
    (postHoldLost n.2 n.1 why s).mp.notices = s.mp.notices ++ (holdLostNotice why n).toList := by
  unfold postHoldLost holdLostNotice
  cases hn : n.2 with
  | nil => simp
  | cons b bs => simpa [postNotice_mp] using post_notices_of_room h

/-- Where the queue has room for a notice of each, the noted sets are posted in their order. -/
theorem foldl_postHoldLost_notices (why : LossReason) (ns : List (Resource × List BindingNo)) (s : State)
    (h : s.mp.notices.length + ns.length ≤ 32) :
    (ns.foldl (fun s n => postHoldLost n.2 n.1 why s) s).mp.notices =
      s.mp.notices ++ ns.filterMap (holdLostNotice why) := by
  induction ns generalizing s with
  | nil => simp
  | cons n ns ih =>
    rw [List.length_cons] at h
    have hn := postHoldLost_notices (n := n) (s := s) (by omega) why
    have hone : (holdLostNotice why n).toList.length ≤ 1 := by cases holdLostNotice why n <;> simp
    rw [List.foldl_cons, ih _ (by rw [hn, List.length_append]; omega), hn, List.append_assoc]
    cases hh : holdLostNotice why n <;> simp [hh]

theorem teardown_notices {s : State} (why : LossReason) (h : s.mp.notices.length + s.bu.claims.length ≤ 32) :
    (teardown why s).mp.notices =
      s.mp.notices ++ s.bu.claims.filterMap fun c => holdLostNotice why (c.resource, assertedBindings c s) := by
  simp only [teardown, stopWatch_keeps, State.withRe_mp, purgeQueue_keeps, wholesaleLoss]
  rw [foldl_postHoldLost_notices _ _ _ (by simpa using h), List.filterMap_map]
  rfl

/-! ### Commands of the life cycle (R157, R159, R184) -/

/-- A command taken ends its event with the answer settled. -/
theorem commandEvent_of_run {s u : State} (h : PortReady s) {received : List Byte} {run : State → State × Answer}
    {a : Answer} (hr : run s = (u, a)) : commandEvent received run s = .next (settle (settleAnswer received a u)) := by
  rw [commandEvent, if_pos (ready_of_portReady h), takeCommand, if_pos (ready_of_portReady h), hr]

@[simp] theorem settleAnswer_keeps (received : List Byte) (a : Answer) (s : State) :
    (settleAnswer received a s).pending = s.pending ∧ (settleAnswer received a s).powered = s.powered ∧
    (settleAnswer received a s).unanswered = s.unanswered ∧ (settleAnswer received a s).lines = s.lines ∧
    (settleAnswer received a s).sc = s.sc ∧ (settleAnswer received a s).xi = s.xi ∧
    (settleAnswer received a s).tc = s.tc ∧ (settleAnswer received a s).tq = s.tq ∧
    (settleAnswer received a s).re = s.re ∧ (settleAnswer received a s).bu = s.bu ∧
    (settleAnswer received a s).cl = s.cl ∧ (settleAnswer received a s).pins = s.pins := by
  simp [settleAnswer]

theorem settleAnswer_mp (received : List Byte) (a : Answer) (s : State) :
    (settleAnswer received a s).mp =
      { s.mp with transaction := some { received := received, response := some a.response } } := rfl

section
variable {s : State} (h : PortReady s)
include h

theorem exec_leave_of_inTable (hin : s.sc.state.inTable = true) :
    exec .leave s = .next (settle (settleAnswer [18] (Answer.ok []) (leaveTable s))) :=
  commandEvent_of_run h (if_pos hin)

theorem exec_rejoin_of_detached (hst : s.sc.state = .detached) :
    exec .rejoin s = .next (settle (settleAnswer [19] (Answer.ok []) (enterState .listening .rejoin s))) :=
  commandEvent_of_run h (if_pos hst)

end

/-! ### LEAVE (R151, R157) -/

/-- The queue purged of all but the LEAVE. -/
theorem leaveTable_tq {s : State} (h : ∀ e ∈ s.tq.entries, e.item.isJoinOrLeave = false) :
    (leaveTable s).tq = TransmitQueue.empty.append .leave := by
  simp only [leaveTable, enterState_tq, State.withTq_tq, teardown_tq, purged_of_none h]
  rfl

theorem leaveTable_sc (s : State) :
    (leaveTable s).sc =
      { s.sc with silence := noSilence, presenceTimer := false, satisfied := false : StationController }.change
        .leaving := by
  simp [leaveTable]

theorem leaveTable_re (s : State) : (leaveTable s).re = ReplicaEngine.empty := by
  simp [leaveTable, ReplicaEngine.discardLoad, ReplicaEngine.empty]

theorem leaveTable_bu (s : State) : (leaveTable s).bu = (teardown .left s).bu := by simp [leaveTable]

/-- HOLD_LOST for each asserted claim, and STATE_CHANGED last (R151). -/
theorem leaveTable_notices {s : State} (h : s.mp.notices.length + s.bu.claims.length < 32) :
    (leaveTable s).mp.notices =
      s.mp.notices ++ (s.bu.claims.filterMap fun c => holdLostNotice .left (c.resource, assertedBindings c s)) ++
        [.stateChanged .leaving .leaveCommand] := by
  have hlost := teardown_notices .left h.le
  have hlen := s.bu.claims.length_filterMap_le fun c => holdLostNotice .left (c.resource, assertedBindings c s)
  rw [leaveTable, enterState_mp, State.withTq_mp, post_notices_of_room, hlost]
  rw [hlost, List.length_append]
  omega

/-- LEAVE at a station in its table: the teardown, the LEAVE queued and LEAVING entered, with the answer OK. -/
theorem leave_of_inTable {s : State} (hport : PortReady s) (hin : s.sc.state.inTable = true)
    (hq : ∀ e ∈ s.tq.entries, e.item.isJoinOrLeave = false) :
    ∃ t, exec .leave s = .next t ∧
      t.sc.state = .leaving ∧ t.re = ReplicaEngine.empty ∧
      NoClaims t ∧
      (∀ n : BindingNo, t.bu.latches[n] = false ∧ t.pins.gnt[n] = false ∧ t.pins.yld[n] = false) ∧
      itemsOf t.tq = [.leave] ∧ t.tq.job = .clear ∧
      (∀ x : Station, t.sc.silence[x] = { watched := false, count := 0 }) ∧ t.sc.presenceTimer = false ∧
      t.mp = { (leaveTable s).mp with transaction := some { received := [18], response := some [0] } } ∧
      t.bu.wiring = s.bu.wiring ∧ OutsideKept s t := by
  obtain ⟨u, hu⟩ : ∃ u, u = settleAnswer [18] (Answer.ok []) (leaveTable s) := ⟨_, rfl⟩
  have hsc : u.sc = (leaveTable s).sc := by simp [hu]
  have hbu : u.bu = (teardown .left s).bu := by simp [hu, leaveTable_bu]
  have htq : u.tq = TransmitQueue.empty.append .leave := by simp [hu, leaveTable_tq hq]
  have hst : u.sc.state = .leaving := by simp [hsc, leaveTable_sc]
  have hnone : NoClaims u := by
    unfold NoClaims
    rw [hbu]
    exact teardown_noClaims .left s
  refine ⟨settle u, hu ▸ exec_leave_of_inTable hport hin, by simpa using hst, by simp [hu, leaveTable_re],
    askStable_noClaims.settle hnone, fun n => ⟨?_, settle_pins_of_not_active (by simp [hst]) n⟩, ?_, ?_, fun x => ?_, ?_,
    ?_, ?_, by simp [OutsideKept, hu]⟩
  · rw [(board_fields (settle_board u)).2.2, hbu]
    simp
  · rw [settle_items, htq]
    rfl
  · rw [(settle_job (.inr (.inr (by rw [htq]; rfl)))).1, htq]
    rfl
  · simp [hsc, leaveTable_sc, StationController.change, noSilence, Silence.unwatched]
  · simp [hsc, leaveTable_sc, StationController.change, StationState.duty]
  · simp only [settle_keeps, hu, settleAnswer_mp]
    rfl
  · rw [wiring_of_board (settle_board u), hbu, teardown_wiring]

/-! ### REJOIN (R118, R159) -/

/-- An OFFLINE tenure controller comes online in IDLE where the state entered calls for it. -/
theorem enterState_comes_online {st : StationState} {s : State} (hon : st.tenureOnline = true)
    (h : s.tc.state = .offline) (c : Cause) : (enterState st c s).tc.state = .idle := by
  have hplaced (u : State) (hu : u.tc.state = .offline) : (placeOnline u).tc.state = .idle := by
    rw [placeOnline, if_pos hu]
    rfl
  unfold enterState
  simp only [postNotice_keeps, State.withSc_tc, State.withXi_tc, if_pos hon]
  refine hplaced _ ?_
  split
  · exact (discardTo_tenure _ _).trans h
  · exact h

/-- An IDLE station without work stays IDLE at the end of an event. -/
theorem settle_idle_of_no_work {u : State} (hst : u.tc.state = .idle) (hw : u.tq.hasWork = false) :
    (settle u).tc.state = .idle := by
  have hn : (noteWork u).tc.state = .idle := hst
  have hnw : (noteWork u).tc.hasWork = false := hw
  simp only [settle_tc, tellWork, hn, hnw]
  cases u.tc.hasWork <;> exact hn

theorem rejoin_of_detached {s : State} (hport : PortReady s) (hst : s.sc.state = .detached)
    (hoff : s.tc.state = .offline) :
    ∃ t, exec .rejoin s = .next t ∧
      t.sc.state = .listening ∧ t.sc.listenTimer = true ∧ t.sc.foundedSeen = false ∧ t.tc.state = .idle ∧
      t.tq = TransmitQueue.empty ∧ t.mp.transaction = some { received := [19], response := some [0] } ∧
      t.mp.notices = (s.mp.post (.stateChanged .listening .rejoin)).notices ∧
      t.re = s.re.discardLoad ∧ t.bu = s.bu ∧ OutsideKept s t := by
  obtain ⟨u, hu⟩ : ∃ u, u = settleAnswer [19] (Answer.ok []) (enterState .listening .rejoin s) := ⟨_, rfl⟩
  have htq : u.tq = TransmitQueue.empty := by simp [hu, StationState.queueEmptied]
  have hwork : u.tq.hasWork = false := by rw [htq]; rfl
  have hidle : u.tc.state = .idle := by simpa [hu] using enterState_comes_online rfl hoff .rejoin
  obtain ⟨hqueue, hbu, _⟩ := settle_of_no_work hwork
  refine ⟨settle u, hu ▸ exec_rejoin_of_detached hport hst, ?_, ?_, ?_, settle_idle_of_no_work hidle hwork,
    hqueue.trans htq, ?_, ?_, ?_, ?_, ?_⟩
  · simp [hu]
  · simp [hu, StationController.change]
  · simp [hu, StationController.change]
  · simp only [settle_keeps, hu, settleAnswer_mp]
    rfl
  · simp [hu, settleAnswer_mp]
  · simp [hu]
  · rw [hbu, hu]
    simp
  · simp [OutsideKept, hu]

/-- Settles O48: LEAVE and REJOIN in their states, and each of the three commands elsewhere answered with no event. -/
theorem lifeCycleCommands : Obligations.LifeCycleCommands := by
  intro s hs hport
  refine ⟨fun _ hin hq => ?_, fun _ hst hoff => rejoin_of_detached hport hst hoff, fun hin => ?_, fun hst => ?_,
    fun hst => ?_⟩
  · obtain ⟨t, hexec, hst, hre, hclaims, hlow, hitems, hjob, hsilence, htimer, hmp, hwiring, hout⟩ :=
      leave_of_inTable hport hin hq
    obtain ⟨hlines, hbindings⟩ := wiring_fields hwiring
    refine ⟨t, hexec, hst, hre, hclaims, hlow, hitems, hjob, hsilence, htimer, by rw [hmp], fun hroom => ?_, hlines,
      hbindings, hout⟩
    rw [hmp]
    exact leaveTable_notices hroom
  · exact commandEvent_of_unmoved hs hport (a := Answer.only .wrongState) (if_neg (by simp [hin]))
  · exact commandEvent_of_unmoved hs hport (a := Answer.only .wrongState) (if_neg hst)
  · exact commandEvent_of_unmoved hs hport (a := Answer.only .wrongState) (if_neg hst)

end Sys2Proof.Machine
end

section
/-! PROOF. The seven checks of an image (O40). -/

namespace Sys2Proof.Machine

open Sys2Proof.Safety

/-! ### The checks of the bindings (R180) -/

theorem bindingsOf_getElem (img : Vector Byte 30) (n : BindingNo) : (bindingsOf img)[n] = bindingOf img n :=
  tableOf_getElem (bindingOf img) n.val n.isLt

theorem reservedFault_eq_none_iff (img : Vector Byte 30) :
    reservedFault img = none ↔ ∀ n : BindingNo, (byteB img n).toNat < 16 := by
  simp [reservedFault, allBindings]

theorem agrees_iff (a b : BindingConfig) :
    a.agrees b = true ↔ a.mode = b.mode ∧ a.cls = b.cls ∧ a.yieldable = b.yieldable := by
  simp [BindingConfig.agrees, and_assoc]

/-- A binding that passes check 6 agrees with the lowest-numbered enabled binding on its resource. -/
theorem disagrees_eq_false_iff (bs : Vector BindingConfig 12) (n : BindingNo) :
    disagrees bs n = false ↔
      (bs[n].enabled = true → ∀ m ∈ (enabledOn bs bs[n].resource).head?, bs[m].agrees bs[n] = true) := by
  unfold disagrees
  cases bs[n].enabled <;> cases enabledOn bs bs[n].resource <;> simp

/-- Comparing each enabled binding with the lowest on its resource is enough: agreement is transitive (R180 check 6). -/
theorem agreementFault_eq_none_iff (bs : Vector BindingConfig 12) :
    agreementFault bs = none ↔
      ∀ n k : BindingNo, bs[n].enabled = true → bs[k].enabled = true → bs[n].resource = bs[k].resource →
        bs[n].agrees bs[k] = true := by
  have hpass : agreementFault bs = none ↔ ∀ n, disagrees bs n = false := by simp [agreementFault, allBindings]
  simp only [hpass, disagrees_eq_false_iff]
  refine ⟨fun h n k hn hk hres => ?_, fun h n hn m hm => ?_⟩
  · obtain ⟨m, hm⟩ : ∃ m, m ∈ (enabledOn bs bs[n].resource).head? :=
      Option.isSome_iff_exists.mp (List.isSome_head?.mpr (List.ne_nil_of_mem (mem_enabledOn.mpr ⟨hn, rfl⟩)))
    obtain ⟨hmode, hcls, hyield⟩ := (agrees_iff _ _).mp (h n hn m hm)
    obtain ⟨hmode', hcls', hyield'⟩ := (agrees_iff _ _).mp (h k hk m (hres ▸ hm))
    exact (agrees_iff _ _).mpr ⟨hmode.symm.trans hmode', hcls.symm.trans hcls', hyield.symm.trans hyield'⟩
  · obtain ⟨hm, hres⟩ := mem_enabledOn.mp (List.mem_of_mem_head? hm)
    exact h m n hm hn hres

/-! ### The seven checks in their order (R180) -/

/-- A check that comes before the others passes. -/
theorem ite_invalid_eq_valid_iff {p : Prop} [Decidable p] (check : Nat) (binding : Option BindingNo) (v : Verdict) :
    (if p then .invalid check binding else v) = Verdict.valid ↔ ¬ p ∧ v = .valid := by
  split <;> simp_all

theorem validate_eq_valid_iff (img : Vector Byte 30) :
    validate img = .valid ↔
      ¬ 7 < img[0].toNat ∧ ¬ (img[1].toNat < 3 ∨ 15 < img[1].toNat) ∧ ¬ (img[2].toNat = 0 ∨ 8 < img[2].toNat) ∧
        ¬ 1 < img[3].toNat ∧ reservedFault img = none ∧ agreementFault (bindingsOf img) = none ∧
        checkOf (img.toList.take 28) = half img[28] img[29] := by
  unfold validate
  simp only [ite_invalid_eq_valid_iff]
  cases reservedFault img with
  | some n => simp
  | none =>
    cases agreementFault (bindingsOf img) with
    | some n => simp
    | none => simp

/-- Settles O40: an image passes the seven checks one after the other. -/
theorem imageValidity : Obligations.ImageValidity := by
  intro img
  simp only [validate_eq_valid_iff, reservedFault_eq_none_iff, agreementFault_eq_none_iff, bindingsOf_getElem,
    agrees_iff]
  exact and_congr (by omega) (and_congr (by omega) (and_congr (by omega) (and_congr (by omega) Iff.rfl)))

end Sys2Proof.Machine
end

section
/-! PROOF. The configuration faults: a refused image (O42), and a memory that does not answer (O43). -/

namespace Sys2Proof.Machine

open Sys2Proof.Safety

/-! ### A configuration fault (R182) -/

/-- What a configuration fault leaves at the end of its event. -/
structure ConfigFaulted (r : FaultReason) (d : FaultDetail) (s t : State) : Prop where
  state : t.sc.state = .fault
  reason : t.sc.fault = r
  loader : t.cl = { ConfigLoader.reset with detail := d, failedAt := s.cl.failedAt }
  bindingUnit : t.bu = s.bu
  tenure : t.tc.state = .offline
  lines : t.lines = s.lines

theorem configFaulted_of_fault (r : FaultReason) (c : Cause) (d : FaultDetail) (s : State) {u : State}
    (hsc : u.sc = (configurationFault r c d s).sc) (hcl : u.cl = (configurationFault r c d s).cl)
    (htc : u.tc = (configurationFault r c d s).tc) (hbu : u.bu = (configurationFault r c d s).bu)
    (hl : u.lines = (configurationFault r c d s).lines) : ConfigFaulted r d s (settle u) := by
  have hplaced : u.tc.state = .offline := htc ▸ (enterState_offline _ _ _).mpr rfl
  obtain ⟨hoff, _, _, hboard, _, _⟩ := settle_of_offline hplaced
  refine ⟨?_, ?_, ?_, ?_, hoff, ?_⟩
  · simp [hsc, configurationFault, enterFault]
  · simp [hsc, configurationFault, enterFault, StationController.change]
  · simp [hcl, configurationFault]
  · rw [hboard, hbu]
    simp [configurationFault]
  · simp [hl]

/-- The configuration lines at the end of an event that leaves the loader EMPTY: at rest, with no read in progress. -/
theorem settle_cfg_of_empty {u : State} (h : (settle u).cl.state = .empty) :
    (settle u).pins.cfg = .rest ∧ (settle u).pins.cfgRead = [] := by
  have hu : u.cl.state = .empty := by simpa using h
  obtain ⟨hdrive, hread⟩ := settle_cfg u
  rw [hdrive, hread, ConfigLoader.cfgDrive, ConfigLoader.cfgRead, hu]
  exact ⟨rfl, rfl⟩

theorem configurationFault_mp (r : FaultReason) (c : Cause) (d : FaultDetail) (s : State) :
    (configurationFault r c d s).mp = s.mp.post (.stateChanged .fault c) := by
  simp [configurationFault, enterFault]

/-! ### A refused image (R179, R180, R182) -/

theorem takeImage_of_invalid {img : Vector Byte 30} {check : Nat} {binding : Option BindingNo}
    (h : validate img = .invalid check binding) (s : State) :
    takeImage img s =
      configurationFault .configInvalid .configInvalid { check := check, binding := binding } s := by
  rw [takeImage, h]

theorem takeImage_of_badCheck {img : Vector Byte 30} (h : validate img = .badCheck) (s : State) :
    takeImage img s = configurationFault .imageCheck .imageCheck FaultDetail.none s := by
  rw [takeImage, h]

theorem exec_memoryReadAnswered_of_reading {s : State} (hp : s.powered = true) (hr : s.cl.state = .reading)
    (img : Vector Byte 30) : exec (.memoryReadAnswered img) s = .next (settle (takeImage img s)) := by
  refine (event_of_powered hp _).trans ?_
  rw [memoryAnswered, hr]

theorem exec_start_of_config {s : State} (h : PortReady s) (hc : s.sc.state = .config) :
    exec .start s = .next (settle (settleAnswer [17] (Answer.ok []) (takeImage s.cl.staging s))) :=
  commandEvent_of_run h (if_pos hc)

section
variable {s : State} {img : Vector Byte 30} {r : FaultReason} {c : Cause} {d : FaultDetail}
  (href : takeImage img s = configurationFault r c d s)
include href

/-- An image read from the memory and refused, whatever the fault found. -/
theorem refused_of_read (hp : s.powered = true) (hr : s.cl.state = .reading) :
    ∃ t, exec (.memoryReadAnswered img) s = .next t ∧
      t.sc.state = .fault ∧ t.sc.fault = r ∧
      t.cl = { ConfigLoader.reset with detail := d, failedAt := s.cl.failedAt } ∧
      t.mp = s.mp.post (.stateChanged .fault c) ∧
      t.bu = s.bu ∧ t.tc.state = .offline ∧ t.pins.cfg = .rest ∧ t.lines = s.lines := by
  have hf := configFaulted_of_fault r c d s (u := takeImage img s) (by rw [href]) (by rw [href]) (by rw [href])
    (by rw [href]) (by rw [href])
  obtain ⟨hrest, _⟩ := settle_cfg_of_empty (by rw [hf.loader]; rfl)
  have hmp : (settle (takeImage img s)).mp = s.mp.post (.stateChanged .fault c) := by
    simp [href, configurationFault_mp]
  exact ⟨_, exec_memoryReadAnswered_of_reading hp hr img, hf.state, hf.reason, hf.loader, hmp, hf.bindingUnit,
    hf.tenure, hrest, hf.lines⟩

/-- A staging image started in CONFIG and refused, whatever the fault found: START is answered OK. -/
theorem refused_of_start (hport : PortReady s) (hc : s.sc.state = .config) (himg : s.cl.staging = img) :
    ∃ t, exec .start s = .next t ∧
      t.sc.state = .fault ∧ t.sc.fault = r ∧
      t.cl = { ConfigLoader.reset with detail := d, failedAt := s.cl.failedAt } ∧
      t.mp.transaction = some { received := [17], response := some [0] } ∧
      t.mp.notices = (s.mp.post (.stateChanged .fault c)).notices ∧
      t.bu = s.bu ∧ t.tc.state = .offline ∧ t.lines = s.lines := by
  have hexec := exec_start_of_config hport hc
  rw [himg, href] at hexec
  have hf := configFaulted_of_fault r c d s (u := settleAnswer [17] (Answer.ok []) (configurationFault r c d s))
    rfl rfl rfl rfl rfl
  have hmp : (settle (settleAnswer [17] (Answer.ok []) (configurationFault r c d s))).mp =
      { s.mp.post (.stateChanged .fault c) with transaction := some { received := [17], response := some [0] } } := by
    simp only [settle_keeps, settleAnswer_mp, configurationFault_mp]
    rfl
  exact ⟨_, hexec, hf.state, hf.reason, hf.loader, by rw [hmp], by rw [hmp], hf.bindingUnit, hf.tenure, hf.lines⟩

end

/-- Settles O42: each fault found in an image, for each of the two ways an image comes. -/
theorem refusedImageFaults : Obligations.RefusedImageFaults := by
  intro s img hp
  refine ⟨fun hr => ⟨fun check binding h => ?_, fun h => ?_⟩,
    fun hc himg hport => ⟨fun check binding h => ?_, fun h => ?_⟩⟩
  · exact refused_of_read (takeImage_of_invalid h s) hp hr
  · exact refused_of_read (takeImage_of_badCheck h s) hp hr
  · exact refused_of_start (takeImage_of_invalid h s) hport hc himg
  · exact refused_of_start (takeImage_of_badCheck h s) hport hc himg

/-! ### A read that does not answer (R178, R182) -/

theorem exec_memoryReadNotAnswered_of_reading {s : State} (hp : s.powered = true) (hr : s.cl.state = .reading) :
    exec .memoryReadNotAnswered s =
      .next
        (settle
          (if s.cl.failedReads + 1 < 3 then endFailedRead s
          else configurationFault .memoryAbsent .memoryAbsent FaultDetail.none (endFailedRead s))) := by
  refine (event_of_powered hp _).trans ?_
  rw [memoryNotAnswered, hr]
  rfl

/-- A failed read moves no pin but for the record of its own moves: the next read begins at once. -/
theorem drivenPins_endFailedRead (s : State) :
    (endFailedRead s).drivenPins =
      { s.drivenPins with cfgEnded := failedReadItems (Config.memoryFailure s.unanswered) } := rfl

theorem settle_endFailedRead {s : State} (h : Settled s) :
    settle (endFailedRead s) =
      { s with
        unanswered := s.unanswered + 1
        cl :=
          { s.cl with failedReads := s.cl.failedReads + 1, failedAt := some (Config.memoryFailure s.unanswered) }
        pins := { s.pins with cfgEnded := failedReadItems (Config.memoryFailure s.unanswered) } } := by
  obtain ⟨hwork, hpins⟩ := h
  rw [settle_of_told (endFailedRead s) hwork, drivenPins_endFailedRead, ← hpins]
  rfl

theorem settle_cfgEnded (u : State) : (settle u).pins.cfgEnded = u.cl.cfgEnded := by
  simp [State.drivenPins]

/-- Settles O43: the first two failed reads are made again, the third is a configuration fault. -/
theorem unansweredReads : Obligations.UnansweredReads := by
  refine ⟨fun s hp hs hr => ⟨fun hfew => ?_, fun hlast => ?_⟩, rfl, rfl, rfl, rfl, rfl⟩
  · rw [exec_memoryReadNotAnswered_of_reading hp hr, if_pos (by omega), settle_endFailedRead hs]
  · have hexec := exec_memoryReadNotAnswered_of_reading hp hr
    rw [if_neg (by omega)] at hexec
    have hf := configFaulted_of_fault .memoryAbsent .memoryAbsent FaultDetail.none (endFailedRead s) rfl rfl rfl rfl rfl
    obtain ⟨hrest, hread⟩ := settle_cfg_of_empty (by rw [hf.loader]; rfl)
    refine ⟨_, hexec, hf.state, hf.reason, hf.loader, ?_, ?_, hf.bindingUnit, hf.tenure, hrest, hread, ?_, hf.lines⟩
    · simp [configurationFault_mp]
    · simp
    · rw [settle_cfgEnded]
      simp [configurationFault, ConfigLoader.cfgEnded]

end Sys2Proof.Machine
end

section
/-! PROOF. WRITE CONFIG (O47): the run of bytes it writes, and its refusals. -/

namespace Sys2Proof.Machine

open Sys2Proof.Safety

/-! ### WRITE CONFIG (R179, R186, R191) -/

/-- A run of bytes covers the bytes from its offset on and leaves the others. -/
theorem writeRun_getElem (i : Fin 30) (data : List Byte) (img : Vector Byte 30) (offset : Nat) :
    (writeRun img offset data)[i] =
      if offset ≤ i.val ∧ i.val < offset + data.length then data.getD (i.val - offset) 0 else img[i] := by
  induction data generalizing img offset with
  | nil =>
    rw [if_neg (by simp)]
    rfl
  | cons b bs ih =>
    rw [writeRun, ih]
    rcases lt_trichotomy i.val offset with hlt | heq | hgt
    · rw [if_neg (by omega), if_neg (by omega)]
      simp [hlt.ne']
    · rw [if_neg (by omega), if_pos (by simp [heq])]
      simp [heq]
    · obtain ⟨k, hk⟩ : ∃ k, i.val = offset + 1 + k := ⟨i.val - (offset + 1), by omega⟩
      have hne : offset ≠ i.val := hgt.ne
      simp only [List.length_cons, Fin.getElem_fin, Vector.getElem_setIfInBounds, if_neg hne]
      refine if_congr (by omega) ?_ rfl
      rw [show i.val - offset = (i.val - (offset + 1)) + 1 by omega, List.getD_cons_succ]

section
variable {s : State} {offset number : Byte} {data : List Byte}
  (hwf : (Instr.writeConfig offset number data).wellFormed = true)
include hwf

theorem writeConfig_length : data.length = writeConfigDataBytes number := by
  simpa [Instr.wellFormed] using hwf

theorem exec_writeConfig_of_wellFormed :
    exec (.writeConfig offset number data) s =
      commandEvent ([16, offset, number] ++ data) (writeStaging offset number data) s := by
  have hlen := writeConfig_length hwf
  change execWriteConfig offset number data s = _
  rw [execWriteConfig, if_neg (by omega), List.take_of_length_le hlen.le]

/-- A WRITE CONFIG refused answers its status alone. -/
theorem writeConfig_of_refused (hs : Settled s) (hport : PortReady s) {st : Status}
    (h : writeStaging offset number data s = (s, Answer.only st)) :
    exec (.writeConfig offset number data) s =
      .next { s with mp := taken s ([16, offset, number] ++ data) [st.code] } :=
  (exec_writeConfig_of_wellFormed hwf).trans (commandEvent_of_unmoved hs hport h)

end

/-- Within the image the range check of WRITE CONFIG passes. -/
theorem writeStaging_range {offset number : Byte} (ho : offset.toNat ≤ 29) (hn : offset.toNat + number.toNat ≤ 30) :
    number.toNat ≤ 30 ∧ runInImage offset number = true :=
  ⟨by omega, (runInImage_iff offset number).mpr ⟨ho, hn⟩⟩

/-- Settles O47: the range is checked first, the station state second, and the run then written. -/
theorem writeConfigFillsTheStagingImage : Obligations.WriteConfigFillsTheStagingImage := by
  intro s offset number data hs hport hwf
  refine ⟨fun hc ho hn => ?_, fun hrange => ?_, fun hc ho hn => ?_⟩
  · have hlen : data.length = number.toNat := (writeConfig_length hwf).trans (if_pos (by omega))
    have hrun : writeStaging offset number data s =
        (s.withCl { s.cl with staging := writeRun s.cl.staging offset.toNat data }, Answer.ok []) := by
      rw [writeStaging, if_pos (writeStaging_range ho hn), if_pos hc, List.take_of_length_le hlen.le]
    refine ⟨writeRun s.cl.staging offset.toNat data, ?_, fun i => hlen ▸ writeRun_getElem i data _ _⟩
    rw [exec_writeConfig_of_wellFormed hwf, commandEvent_of_run hport hrun]
    exact congrArg Host.Outcome.next (settle_of_settled _ hs)
  · refine writeConfig_of_refused hwf hs hport (st := .badArgument) (if_neg fun ⟨_, hrun⟩ => ?_)
    have := (runInImage_iff offset number).mp hrun
    omega
  · exact writeConfig_of_refused hwf hs hport (st := .wrongState)
      ((if_pos (writeStaging_range ho hn)).trans (if_neg hc))

end Sys2Proof.Machine
end

section
/-! PROOF. What the blocks do to the management port: they count and they post notices, and nothing else (R192, R194,
R195). -/

namespace Sys2Proof.Machine

open Sys2Proof.Safety

/-- The ports that a block's reports lead to: counters counted and notices posted, one after the other. -/
inductive Noted (p : ManagementPort) : ManagementPort → Prop where
  | refl : Noted p p
  | counted {q : ManagementPort} (c : Counters) (h : Noted p q) : Noted p { q with counters := c }
  | posted {q : ManagementPort} (n : Notice) (h : Noted p q) : Noted p (q.post n)

/-! ### What a posting leaves as it was, and the laws it keeps -/

@[simp] theorem post_transaction (n : Notice) (p : ManagementPort) : (p.post n).transaction = p.transaction := by
  unfold ManagementPort.post
  split <;> rfl

@[simp] theorem post_pendingPop (n : Notice) (p : ManagementPort) : (p.post n).pendingPop = p.pendingPop := by
  unfold ManagementPort.post
  split <;> rfl

@[simp] theorem post_msoDriven (n : Notice) (p : ManagementPort) : (p.post n).msoDriven = p.msoDriven := by
  unfold ManagementPort.post
  split <;> rfl

/-- A posting finds room and raises ATTN, or is discarded by a full queue, which is not empty. -/
theorem post_attn {p : ManagementPort} (h : p.attn = !p.notices.isEmpty) (n : Notice) :
    (p.post n).attn = true ∧ (p.post n).notices.isEmpty = false := by
  unfold ManagementPort.post
  split
  · exact ⟨rfl, by simp⟩
  next hfull =>
    have hne : p.notices ≠ [] := fun k => hfull (by simp [k, Config.noticeCapacity])
    simp [h, hne]

/-- A posting keeps the laws: it adds only where there is room, and behind the notice of a pending pop. -/
theorem post_lawful {p : ManagementPort} (h : PortLawful p) (n : Notice) : PortLawful (p.post n) := by
  obtain ⟨hlen, hattn, hpop, htx, hmso⟩ := h
  obtain ⟨hhigh, hsome⟩ := post_attn hattn n
  refine ⟨?_, by rw [hhigh, hsome]; rfl, ?_, by simpa using htx, by simpa using hmso⟩
  · unfold ManagementPort.post
    split
    next hroom => simpa using hroom
    · exact hlen
  · rw [post_pendingPop]
    refine hpop.elim .inl fun hhead => ?_
    cases hn : p.notices with
    | nil => exact .inl (by simp [hhead, hn])
    | cons m ns =>
      right
      unfold ManagementPort.post
      split <;> simp [hhead, hn]

section
variable {p q : ManagementPort}

theorem Noted.msoDriven (h : Noted p q) : q.msoDriven = p.msoDriven := by
  induction h with
  | refl => rfl
  | counted c _ ih => exact ih
  | posted n _ ih => rw [post_msoDriven, ih]

theorem Noted.attn (h : Noted p q) (hp : p.attn = !p.notices.isEmpty) : q.attn = !q.notices.isEmpty := by
  induction h with
  | refl => exact hp
  | counted c _ ih => exact ih
  | posted n _ ih =>
    obtain ⟨hhigh, hsome⟩ := post_attn ih n
    rw [hhigh, hsome]
    rfl

theorem Noted.lawful (h : Noted p q) (hp : PortLawful p) : PortLawful q := by
  induction h with
  | refl => exact hp
  | counted c _ ih => exact ih
  | posted n _ ih => exact post_lawful ih n

end

section
variable {p : ManagementPort} {s : State} (h : Noted p s.mp)
include h

/-! ### The binding unit -/

-- Where an operation begins with another block's update, the report before it stands as `by exact`, so that it is compared
-- with that state's port once the operation has fixed the state.

theorem onClaim_noted {r : Resource} {f : LocalClaim → State → State} (hf : ∀ c, Noted p (f c s).mp) :
    Noted p (onClaim r f s).mp := by
  unfold onClaim
  split
  · exact h
  · exact hf _

theorem foldl_noted {α : Type} {f : State → α → State} (hf : ∀ a u, Noted p u.mp → Noted p (f u a).mp) (as : List α) :
    Noted p (as.foldl f s).mp := by
  induction as generalizing s with
  | nil => exact h
  | cons a as ih => exact ih (hf a s h)

theorem noted_of_posted {t : State} (ht : t.mp = s.mp ∨ ∃ n, t.mp = s.mp.post n) : Noted p t.mp := by
  obtain ht | ⟨n, ht⟩ := ht
  · exact ht ▸ h
  · exact ht ▸ h.posted n

theorem enterHeld_noted (c : LocalClaim) (d : Bool) : Noted p (enterHeld c d s).mp := by
  rw [enterHeld_mp]
  split
  · exact h.posted _
  · exact h

theorem takeStanding_noted (c : LocalClaim) (st : Standing) : Noted p (takeStanding c st s).mp :=
  noted_of_posted h (takeStanding_posted c st s)

theorem enterDropping_noted (c : LocalClaim) (d : Bool) : Noted p (enterDropping c d s).mp := h

theorem demandRise_noted (c : LocalClaim) : Noted p (demandRise c s).mp := by
  unfold demandRise
  split
  case h_3 =>
    dsimp only
    split
    · exact h
    · split
      · exact takeStanding_noted (by exact h) _ _
      · exact h
      · exact h
  all_goals exact h

theorem demandFall_noted (c : LocalClaim) : Noted p (demandFall c s).mp := by simpa using h

theorem changeRequest_noted (n : BindingNo) (f : BindingUnit → BindingUnit) : Noted p (changeRequest n f s).mp := by
  unfold changeRequest
  dsimp only
  split
  · exact h
  · split
    · refine onClaim_noted (by exact h) fun c => ?_
      split
      · exact demandRise_noted (by exact h) c
      · exact demandFall_noted (by exact h) c
      · exact h
      · exact h
    · exact h

theorem claimOutcome_noted (r : Resource) (o : ClaimOutcome) (st : Standing) :
    Noted p (claimOutcome r o st s).mp := by
  unfold claimOutcome
  refine onClaim_noted h fun c => ?_
  split
  · split
    · split
      · exact enterDropping_noted h c _
      · exact takeStanding_noted h c st
    · split
      · exact enterDropping_noted h c _
      · exact takeStanding_noted h c st
    · split
      · exact enterDropping_noted h c _
      · exact h
    · split
      · exact h
      · exact h.posted _
  all_goals exact h

theorem grantedEntry_noted (r : Resource) (d : Bool) : Noted p (grantedEntry r d s).mp := by
  refine onClaim_noted h fun c => ?_
  split
  · exact enterHeld_noted h c d
  all_goals exact h

theorem yieldEntry_noted (r : Resource) (d : Bool) : Noted p (yieldEntry r d s).mp := by
  refine onClaim_noted h fun c => ?_
  split
  · dsimp only
    split
    · exact h.posted _
    · exact h
  all_goals exact h

theorem postHoldLost_noted (ns : List BindingNo) (r : Resource) (why : LossReason) :
    Noted p (postHoldLost ns r why s).mp := by
  unfold postHoldLost
  split
  · exact h
  · exact h.posted _

theorem takeEntry_noted (e : BatchEntry) : Noted p (takeEntry s e).mp := by
  cases e with
  | claimOutcome r o st => exact claimOutcome_noted h r o st
  | dropApplied r d => simpa [takeEntry] using h
  | granted r m y k => exact grantedEntry_noted h r _
  | yield r k => exact yieldEntry_noted h r _
  | removed r => exact onClaim_noted h fun c => postHoldLost_noted (by exact h) _ _ _
  | freed => simpa [takeEntry] using h

theorem takeBatch_noted (es : List BatchEntry) : Noted p (takeBatch es s).mp :=
  foldl_noted h (fun e _ hu => takeEntry_noted hu e) es

theorem wholesaleLoss_noted (why : LossReason) : Noted p (wholesaleLoss why s).mp :=
  foldl_noted (by exact h) (fun n _ hu => postHoldLost_noted hu n.2 n.1 why) _

/-! ### The changes of station state -/

theorem enterState_noted (st : StationState) (c : Cause) : Noted p (enterState st c s).mp := by
  rw [enterState_mp]
  exact h.posted _

theorem teardown_noted (why : LossReason) : Noted p (teardown why s).mp := by
  have hmp : (teardown why s).mp = (wholesaleLoss why s).mp := by simp [teardown]
  exact hmp ▸ wholesaleLoss_noted h why

theorem teardownIfInTable_noted (why : LossReason) : Noted p (teardownIfInTable why s).mp := by
  unfold teardownIfInTable
  split
  · exact teardown_noted h why
  · exact h

theorem askExpel_noted (t : Station) (why : ExpelReason) : Noted p (askExpel t why s).mp := by
  rw [askExpel_mp]
  split
  · exact h
  · exact h.counted _

theorem askSilentExpels_noted (ts : List Station) : Noted p (askSilentExpels ts s).mp :=
  foldl_noted h (fun t _ hu => askExpel_noted hu t .silent) ts

theorem takeUpClaims_noted : Noted p (takeUpClaims s).mp := by simpa using h

theorem joinAgain_noted (c : Cause) : Noted p (joinAgain c s).mp := enterState_noted (by exact h) _ c

theorem confirmedReport_noted : Noted p (confirmedReport s).mp := by
  unfold confirmedReport
  split
  · exact takeUpClaims_noted (askSilentExpels_noted (enterState_noted h _ _) _)
  all_goals exact h

theorem ownJoinAccepted_noted : Noted p (ownJoinAccepted s).mp := by
  have hfound : Noted p (enterState .active .founded (s.withRe (.founded s.me))).mp :=
    enterState_noted (by exact h) _ _
  unfold ownJoinAccepted
  split
  · split
    · exact enterState_noted h _ _
    · exact takeUpClaims_noted (by exact hfound)
  all_goals exact h

theorem deadlineTakesEffect_noted : Noted p (deadlineTakesEffect s).mp := by
  unfold deadlineTakesEffect
  split
  · exact joinAgain_noted h _
  · exact enterState_noted h _ _

theorem loadEnded_noted : Noted p (loadEnded s).mp := by
  unfold loadEnded
  split
  · exact deadlineTakesEffect_noted h
  all_goals exact h

theorem completedLoad_noted : Noted p (completedLoad s).mp := by
  have hin : Noted p (enterState .confirming .snapshotLoaded s).mp := enterState_noted h _ _
  unfold completedLoad
  dsimp only
  split
  · exact hin
  all_goals exact joinAgain_noted (teardown_noted (by exact hin) _) _

theorem frameWhileAwaiting_noted (f : Frame) : Noted p (frameWhileAwaiting f s).mp := by
  have hpart (k : Half) (w : Part) : Noted p (takePart k w s).mp := by
    unfold takePart
    dsimp only
    split
    · exact h
    · exact completedLoad_noted (by exact h)
    · exact loadEnded_noted (by exact h)
  have hother : Noted p (frameOutsideRun s).mp := by
    unfold frameOutsideRun
    split
    · exact loadEnded_noted (by exact h)
    · exact h
  unfold frameWhileAwaiting
  split
  · exact hpart _ _
  all_goals exact hother

theorem selfExpelled_noted (why : ExpelReason) : Noted p (selfExpelled why s).mp := by
  unfold selfExpelled
  split
  · exact enterState_noted (teardown_noted h _) _ _
  · exact h

theorem foreignReport_noted : Noted p (foreignReport s).mp := by
  unfold foreignReport
  split
  · exact enterState_noted (teardown_noted h _) _ _
  · exact h

theorem enterFault_noted (r : FaultReason) (c : Cause) : Noted p (enterFault r c s).mp :=
  enterState_noted (by exact h) _ c

theorem twinReport_noted : Noted p (twinReport s).mp := by
  unfold twinReport
  split
  · exact enterFault_noted (teardownIfInTable_noted h _) _ _
  · exact h

theorem isolate_noted (c : Cause) : Noted p (isolate c s).mp := by
  unfold isolate
  split
  · exact enterState_noted (by exact teardownIfInTable_noted h _) _ c
  · exact h

theorem leaveTable_noted : Noted p (leaveTable s).mp :=
  enterState_noted (by exact teardown_noted h _) _ _

theorem leaveEnds_noted (c : Cause) : Noted p (leaveEnds c s).mp := by
  unfold leaveEnds
  split
  · exact enterState_noted h _ c
  all_goals exact h

theorem otherFrameAccepted_noted (f : Frame) : Noted p (otherFrameAccepted f s).mp := by
  have hheard : Noted p (silenceHeard f.sender s).mp := by simpa using h
  unfold otherFrameAccepted
  dsimp only
  split
  case h_3 => exact frameWhileAwaiting_noted hheard f
  all_goals exact hheard

theorem ownFrameAccepted_noted (f : Frame) : Noted p (ownFrameAccepted f s).mp := by
  have hawait {u : State} (hu : Noted p u.mp) (b : Bool) : Noted p (if b then frameWhileAwaiting f u else u).mp := by
    split
    · exact frameWhileAwaiting_noted hu f
    · exact hu
  have hmarked := hawait (u := s.withSc { s.sc with satisfied := s.sc.satisfied || s.sc.presenceTimer }) h
    (s.sc.state == .awaitSnapshot)
  unfold ownFrameAccepted
  dsimp only
  split
  · exact ownJoinAccepted_noted hmarked
  · exact leaveEnds_noted hmarked _
  · exact hmarked.posted _
  all_goals exact hmarked

/-! ### The timers -/

theorem listenEnds_noted : Noted p (listenEnds s).mp := by
  unfold listenEnds
  split
  · exact joinAgain_noted h _
  · exact h

theorem deadlineExpires_noted : Noted p (deadlineExpires s).mp := by
  unfold deadlineExpires
  split
  · split
    · exact h
    · exact deadlineTakesEffect_noted h
  all_goals exact h

theorem holdOffExpires_noted : Noted p (holdOffExpires s).mp := by
  unfold holdOffExpires
  split
  · exact enterState_noted (by exact h) _ _
  · exact h

theorem advanceSilence_noted : Noted p (advanceSilence s).mp := by
  unfold advanceSilence
  split
  · dsimp only
    split
    · exact askSilentExpels_noted (by exact h) _
    · exact h
  · exact h

theorem periodEnds_noted : Noted p (periodEnds s).mp := by
  have hduty : Noted p (presenceDuty s).mp := by simpa using h
  unfold periodEnds
  split
  · exact advanceSilence_noted hduty
  · exact h

/-! ### The application of a frame -/

theorem checked_noted (own : Bool) (f : Frame) : Noted p (checked own f s).mp := by
  unfold checked checkFrame referenceCheck countComparison
  dsimp only
  (repeat' split)
  · exact h
  · exact askExpel_noted (by exact h.counted _) _ _
  · exact h.counted _
  · exact askExpel_noted h _ _
  · exact h
  · exact h.counted _
  · exact h
  · exact h

theorem countRefusal_noted (own : Bool) (x : Effects) : Noted p (countRefusal own x s).mp := by
  unfold countRefusal
  split
  · exact h.counted _
  · exact h

theorem applied_noted (own : Bool) (f : Frame) : Noted p (applied own f s).mp := by
  have hderived {u : State} (hu : Noted p u.mp) (was : Bool) : Noted p (referenceDerived f was u).mp := by
    simpa using hu
  exact takeBatch_noted (hderived (countRefusal_noted (by exact (checked_noted h own f).counted _) own _) _) _

theorem membershipReports_noted (me : Station) (before : ReplicaEngine) (x : Effects) :
    Noted p (membershipReports me before x s).mp := by
  have hmember : Noted p (membershipReports me before { x with expelled := none } s).mp := by
    unfold membershipReports
    dsimp only
    split
    · exact h
    · split
      · simpa using h
      · split
        · exact confirmedReport_noted h
        · exact h
  unfold membershipReports at hmember ⊢
  dsimp only at hmember ⊢
  cases x.expelled with
  | none => exact hmember
  | some e =>
    dsimp only
    split
    · exact selfExpelled_noted hmember _
    · exact hmember

theorem applyFrame_noted (own : Bool) (f : Frame) : Noted p (applyFrame own f s).mp := by
  unfold applyFrame
  split
  · split
    · split
      · exact foreignReport_noted h
      · exact h.counted _
    · rw [applyFully_eq]
      exact membershipReports_noted (applied_noted h own f) _ _ _
  · exact h

/-! ### The windows of the bus -/

theorem closingMark_noted (bytes : List Byte) : Noted p (closingMark bytes s).mp := by
  have hreject : Noted p (signalReject s).mp := by
    unfold signalReject
    dsimp only
    split
    · exact h.counted _
    · exact isolate_noted (by exact h.counted _) _
  unfold closingMark
  split
  · split
    · exact h
    · exact hreject
  all_goals exact h

theorem handOver_noted (f : Frame) : Noted p (handOver f s).mp := by
  unfold handOver
  split
  · exact twinReport_noted h
  · exact otherFrameAccepted_noted (applyFrame_noted h false f) f

theorem windowCloses_noted (rejected : Bool) : Noted p (windowCloses rejected s).mp := by
  have hwhole (f : Frame) : Noted p (wholeWindow f rejected s).mp := by
    have hheard : Noted p (heardReport f (s.withXi { s.xi with rx := .none, rejectStreak := 0 })).mp := by
      simpa using h
    unfold wholeWindow
    dsimp only
    split
    · exact hheard
    · exact handOver_noted hheard f
  unfold windowCloses
  split
  · exact hwhole _
  all_goals exact h

theorem attemptReport_noted (r : Bool) : Noted p (attemptReport r s).mp := by simpa using h

theorem ownAccepted_noted (a : Attempt) : Noted p (ownAccepted a s).mp := by
  have hqueue : Noted p (if a.discarded then s else runEnded (s.withTq (s.tq.accepted a.sent))).mp := by
    split
    · exact h
    · simpa using h
  exact attemptReport_noted
    (by exact (ownFrameAccepted_noted (applyFrame_noted hqueue true a.frame) a.frame).counted _) false

theorem reportDropped_noted (w : Sent) : Noted p (reportDropped w s).mp := by
  unfold reportDropped
  split
  · exact (claimDropped_mp _ s) ▸ h
  · exact noted_of_posted h (dropDropped_posted _ s)
  case h_5 => exact leaveEnds_noted h _
  all_goals exact h

theorem ownDropped_noted (a : Attempt) : Noted p (ownDropped a s).mp := by
  have hstreak {u : State} (hu : Noted p u.mp) : Noted p (advanceDropStreak u).mp := by
    unfold advanceDropStreak
    split
    · exact hu
    · exact isolate_noted (by exact hu) _
  have hqueue : Noted p (runEnded (s.withTq (s.tq.dropped a.sent))).mp := by simpa using h
  exact attemptReport_noted
    (hstreak (by exact ((reportDropped_noted hqueue a.sent).counted _).posted _)) _

theorem ownWindowCloses_noted (rejected : Bool) : Noted p (ownWindowCloses rejected s).mp := by
  unfold ownWindowCloses
  split
  · exact h
  · split
    · exact h
    · dsimp only
      (repeat' split)
      · exact h
      · exact ownAccepted_noted (by exact h) _
      · exact attemptReport_noted (by exact h) _
      · exact attemptReport_noted (by exact h) _
      · exact ownDropped_noted (by exact h) _

/-! ### The configuration loader -/

theorem configurationFault_noted (r : FaultReason) (c : Cause) (d : FaultDetail) :
    Noted p (configurationFault r c d s).mp :=
  enterFault_noted (by exact h) r c

theorem takeImage_noted (img : Vector Byte 30) : Noted p (takeImage img s).mp := by
  unfold takeImage
  split
  · exact enterState_noted (by exact h) _ _
  · exact configurationFault_noted h _ _ _
  · exact configurationFault_noted h _ _ _

theorem memoryAnswered_noted (img : Vector Byte 30) : Noted p (memoryAnswered img s).mp := by
  unfold memoryAnswered
  split
  · exact takeImage_noted h img
  all_goals exact h

theorem memoryNotAnswered_noted : Noted p (memoryNotAnswered s).mp := by
  unfold memoryNotAnswered
  split
  · dsimp only
    split
    · exact h
    · exact configurationFault_noted (by exact h) _ _ _
  all_goals exact h

theorem releaseReset_noted (sid : Station) (cfgsrc : Bool) : Noted p (releaseReset sid cfgsrc s).mp := by
  unfold releaseReset
  split
  · dsimp only
    split
    · exact enterState_noted (by exact h) _ _
    · exact enterState_noted (by exact h) _ _
  all_goals exact h

end

end Sys2Proof.Machine
end

section
/-! PROOF. What each command leaves of the management port; so every step keeps the port's laws (O53), and ATTN follows
the notices (O50). -/

namespace Sys2Proof.Machine

open Sys2Proof.Safety

/-! ### How a management command is handled -/

/-- What the event of a management command does to the port, before its answer is settled: the blocks' own reports, or a
pop begun. -/
inductive PortRun (p : ManagementPort) : ManagementPort → Prop where
  | noted {q : ManagementPort} (h : Noted p q) : PortRun p q
  | popped {n : Notice} {ns : List Notice} (h : p.notices = n :: ns) : PortRun p { p with pendingPop := some n }

/-- A command that a state takes with the bytes received: as a read, or with an event of its own. -/
inductive Handled (received : List Byte) (c : Instr) (s : State) : Prop where
  | read (a : State → Answer) (h : exec c s = readEvent received a s) : Handled received c s
  | command (run : State → State × Answer) (hrun : PortRun s.mp (run s).1.mp)
      (h : exec c s = commandEvent received run s) : Handled received c s

section
variable (s : State)

theorem handled_clearCounters : Handled [6] .clearCounters s := .command _ (.noted (Noted.refl.counted _)) rfl

theorem handled_popNotice : Handled [7] .popNotice s := by
  refine .command _ ?_ rfl
  dsimp only
  split
  · exact .noted .refl
  next hn => exact .popped hn

theorem handled_writeConfig {offset number : Byte} {data : List Byte}
    (h : ¬ data.length < writeConfigDataBytes number) :
    Handled ([16, offset, number] ++ data.take (writeConfigDataBytes number)) (.writeConfig offset number data) s := by
  refine .command (writeStaging offset number data) (.noted ?_) (if_neg h)
  unfold writeStaging
  (repeat' split) <;> exact .refl

theorem handled_start : Handled [17] .start s := by
  refine .command _ (.noted ?_) rfl
  split
  · exact takeImage_noted .refl _
  · exact .refl

theorem handled_leave : Handled [18] .leave s := by
  refine .command _ (.noted ?_) rfl
  split
  · exact leaveTable_noted .refl
  · exact .refl

theorem handled_rejoin : Handled [19] .rejoin s := by
  refine .command _ (.noted ?_) rfl
  split
  · exact enterState_noted .refl _ _
  · exact .refl

theorem handled_releaseLatch (b : Byte) : Handled [20, b] (.releaseLatch b) s := by
  refine .command _ (.noted ?_) rfl
  (repeat' split)
  · exact .refl
  · exact .refl
  · exact changeRequest_noted .refl _ _
  · exact .refl

theorem handled_unknownCommand {code : Byte} (h : (Instr.unknownCommand code).wellFormed = true) :
    Handled [code] (.unknownCommand code) s :=
  .read _ (execUnknownCommand_of_wellFormed h s)

/-- A management command is taken with its own bytes. -/
theorem handled_of_bytes {c : Instr} {bytes : List Byte} (hwf : c.wellFormed = true)
    (hb : c.commandBytes = some bytes) : Handled bytes c s := by
  cases c with
  | readStatus | readMembers | readResource r | readBinding b | readCounters | readConfig offset number =>
    exact Option.some.inj hb ▸ .read _ rfl
  | clearCounters => exact Option.some.inj hb ▸ handled_clearCounters s
  | popNotice => exact Option.some.inj hb ▸ handled_popNotice s
  | writeConfig offset number data =>
    have hlen := writeConfig_length hwf
    have h := handled_writeConfig s (offset := offset) (Nat.not_lt.mpr hlen.ge)
    rw [List.take_of_length_le hlen.le] at h
    exact Option.some.inj hb ▸ h
  | start => exact Option.some.inj hb ▸ handled_start s
  | leave => exact Option.some.inj hb ▸ handled_leave s
  | rejoin => exact Option.some.inj hb ▸ handled_rejoin s
  | releaseLatch b => exact Option.some.inj hb ▸ handled_releaseLatch s b
  | unknownCommand code => exact Option.some.inj hb ▸ handled_unknownCommand s hwf
  | _ => cases hb

end

/-! ### What a command leaves of the port -/

/-- The port that a command may leave: one with the blocks' reports, one that has taken a command or its first bytes,
one that a transaction's own events make, or the port at reset. -/
inductive PortStep (p : ManagementPort) : ManagementPort → Prop where
  | noted {q : ManagementPort} (h : Noted p q) : PortStep p q
  | taken {q : ManagementPort} (t : Transaction) (hready : p.ready = true) (h : PortRun p q) :
      PortStep p { q with transaction := some t }
  | opened (t : Transaction) (h : p.transaction = none) : PortStep p { p with transaction := some t, msoDriven := true }
  | closed : PortStep p { p with transaction := none, pendingPop := none, msoDriven := false }
  | popCompleted : PortStep p p.completePop
  | reset : PortStep p ManagementPort.reset

section
variable {s t : State}

/-- The end of an event leaves the port as it is. -/
theorem settle_mp (u : State) : (settle u).mp = u.mp := by simp

theorem portStep_of_event {f : State → State} (hf : Noted s.mp (f s).mp) (ht : event f s = .next t) :
    PortStep s.mp t.mp := by
  obtain rfl := Host.Outcome.next.inj ht
  refine .noted ?_
  rw [settle_mp]
  split
  · exact hf
  · exact .refl

theorem portStep_of_lineEvent {f : State → State} (hf : (f s).mp = s.mp) (ht : lineEvent f s = .next t) :
    PortStep s.mp t.mp := by
  obtain rfl := Host.Outcome.next.inj ht
  rw [settle_mp, hf]
  exact .noted .refl

theorem Handled.portStep {received : List Byte} {c : Instr} (h : Handled received c s) (ht : exec c s = .next t) :
    PortStep s.mp t.mp := by
  cases h with
  | read a h =>
    obtain rfl := Host.Outcome.next.inj (h.symm.trans ht)
    unfold takeRead
    split
    next hready => exact .taken _ hready (.noted .refl)
    · exact .noted .refl
  | command run hrun h =>
    have ht := h.symm.trans ht
    unfold commandEvent takeCommand at ht
    split at ht
    next hready =>
      obtain rfl := Host.Outcome.next.inj ht
      rw [settle_mp]
      exact .taken _ hready hrun
    · obtain rfl := Host.Outcome.next.inj ht
      exact .noted .refl

/-- What each command of the table leaves of the port. -/
theorem exec_portStep {c : Instr} (ht : exec c s = .next t) : PortStep s.mp t.mp := by
  cases c with
  | powerOn => exact Host.Outcome.next.inj ht ▸ .reset
  | powerLost => exact Host.Outcome.next.inj ht ▸ .reset
  | resetAsserted =>
    refine Host.Outcome.next.inj ht ▸ ?_
    split
    · exact .reset
    · exact .noted .refl
  | resetReleased sid cfgsrc => exact portStep_of_event (releaseReset_noted .refl sid cfgsrc) ht
  | rise n =>
    change execRise n s = .next t at ht
    unfold execRise at ht
    refine portStep_of_event ?_ ht
    split
    · exact .refl
    · exact changeRequest_noted .refl n _
  | fall n =>
    change execFall n s = .next t at ht
    unfold execFall at ht
    refine portStep_of_event ?_ ht
    split
    · exact .refl
    · exact changeRequest_noted .refl n _
  | startMarkSeen => exact portStep_of_event (by simpa using Noted.refl) ht
  | closingMarkSeen bytes => exact portStep_of_event (closingMark_noted .refl bytes) ht
  | truncationSeen => exact portStep_of_event (by simpa using Noted.refl) ht
  | windowClose rejected => exact portStep_of_event (windowCloses_noted .refl rejected) ht
  | closingMarkSent => exact portStep_of_event .refl ht
  | ownWindowClose rejected => exact portStep_of_event (ownWindowCloses_noted .refl rejected) ht
  | xtenAsserted => exact portStep_of_lineEvent (by simp) ht
  | contentionCloses other => exact portStep_of_lineEvent (by simp) ht
  | xtenReleased => exact portStep_of_lineEvent (by simp) ht
  | busQuietExpired => exact portStep_of_event (by simpa using Noted.refl) ht
  | xwantAsserted => exact portStep_of_lineEvent (by simp) ht
  | xwantReleased => exact portStep_of_lineEvent (by simp) ht
  | listenTimerExpired => exact portStep_of_event (listenEnds_noted .refl) ht
  | snapshotDeadlineExpired => exact portStep_of_event (deadlineExpires_noted .refl) ht
  | holdOffExpired => exact portStep_of_event (holdOffExpires_noted .refl) ht
  | periodEnd => exact portStep_of_event (periodEnds_noted .refl) ht
  | memoryReadAnswered image => exact portStep_of_event (memoryAnswered_noted .refl image) ht
  | memoryReadNotAnswered => exact portStep_of_event (memoryNotAnswered_noted .refl) ht
  | popComplete => exact Host.Outcome.next.inj ht ▸ .popCompleted
  | writeConfig offset number data =>
    by_cases hdata : data.length < writeConfigDataBytes number
    · obtain rfl := Host.Outcome.next.inj ((if_pos hdata).symm.trans ht)
      split
      next hready => exact .taken _ hready (.noted .refl)
      · exact .noted .refl
    · exact (handled_writeConfig s hdata).portStep ht
  | unknownCommand code =>
    cases hcode : recognisedCodes.contains code with
    | true => exact Host.Outcome.next.inj ((if_pos hcode).symm.trans ht) ▸ .noted .refl
    | false => exact (handled_unknownCommand s (by simpa [Instr.wellFormed] using hcode)).portStep ht
  | mcsAsserted =>
    obtain rfl := Host.Outcome.next.inj ht
    split
    next hopen => exact .opened _ (by simp_all)
    · exact .noted .refl
  | mcsReleased => exact Host.Outcome.next.inj ht ▸ .closed
  | readStatus | readMembers | readResource r | readBinding b | readCounters | readConfig offset number | clearCounters
  | popNotice | start | leave | rejoin | releaseLatch b => exact (handled_of_bytes s (by rfl) (by rfl)).portStep ht

end

/-! ### The laws of the port (R183, R192 to R194) -/

section
variable {p q : ManagementPort}

theorem completePop_of_none (h : p.pendingPop = none) : p.completePop = p := by
  simp [ManagementPort.completePop, h]

theorem completePop_of_some {n : Notice} (h : p.pendingPop = some n) :
    p.completePop = { p with pendingPop := none, notices := p.notices.tail, attn := !p.notices.tail.isEmpty } := by
  simp [ManagementPort.completePop, h]

theorem completePop_attn (hp : p.attn = !p.notices.isEmpty) : p.completePop.attn = !p.completePop.notices.isEmpty := by
  cases h : p.pendingPop with
  | none => rw [completePop_of_none h, hp]
  | some n => rw [completePop_of_some h]

theorem completePop_lawful (hp : PortLawful p) : PortLawful p.completePop := by
  cases h : p.pendingPop with
  | none => rwa [completePop_of_none h]
  | some n =>
    obtain ⟨hlen, _, _, _, hmso⟩ := hp
    rw [completePop_of_some h]
    exact ⟨List.length_tail ▸ (Nat.sub_le _ 1).trans hlen, rfl, .inl rfl, .inl rfl, hmso⟩

theorem PortRun.attn (h : PortRun p q) (hp : p.attn = !p.notices.isEmpty) : q.attn = !q.notices.isEmpty := by
  cases h with
  | noted h => exact h.attn hp
  | popped h => exact hp

theorem PortStep.attn (h : PortStep p q) (hp : p.attn = !p.notices.isEmpty) : q.attn = !q.notices.isEmpty := by
  cases h with
  | noted h => exact h.attn hp
  | taken t hready h => exact h.attn hp
  | opened t h => exact hp
  | closed => exact hp
  | popCompleted => exact completePop_attn hp
  | reset => rfl

theorem transaction_of_ready (h : p.ready = true) : p.transaction.isSome = true := by
  unfold ManagementPort.ready at h
  split at h
  · cases h
  next ht => simp [ht]

/-- A pop begun carries the oldest notice. -/
theorem PortRun.pending (h : PortRun p q) (hp : PortLawful p) :
    q.notices.length ≤ Config.noticeCapacity ∧ (q.pendingPop = none ∨ q.pendingPop = q.notices.head?) ∧
      q.msoDriven = p.msoDriven := by
  cases h with
  | noted h =>
    obtain ⟨hlen, _, hpop, _⟩ := h.lawful hp
    exact ⟨hlen, hpop, h.msoDriven⟩
  | popped h =>
    obtain ⟨hlen, _⟩ := hp
    exact ⟨hlen, .inr (by simp [h]), rfl⟩

theorem PortStep.lawful (h : PortStep p q) (hp : PortLawful p) : PortLawful q := by
  have hattn : q.attn = !q.notices.isEmpty := by
    obtain ⟨_, hp, _⟩ := hp
    exact h.attn hp
  cases h with
  | noted h => exact h.lawful hp
  | taken t hready h =>
    obtain ⟨hlen, hpop, hmso⟩ := h.pending hp
    obtain ⟨_, _, _, _, hdriven⟩ := hp
    exact ⟨hlen, hattn, hpop, .inr rfl, (hmso.trans hdriven).trans (transaction_of_ready hready)⟩
  | opened t h =>
    obtain ⟨hlen, _, hpop, _, _⟩ := hp
    exact ⟨hlen, hattn, hpop, .inr rfl, rfl⟩
  | closed =>
    obtain ⟨hlen, _, _, _, _⟩ := hp
    exact ⟨hlen, hattn, .inl rfl, .inl rfl, rfl⟩
  | popCompleted => exact completePop_lawful hp
  | reset => exact reset_port

end

/-- Settles O53: a step runs a command, and whatever that leaves of the port is lawful. -/
theorem stepsKeepThePort : Obligations.StepsKeepThePort := by
  intro s t hs ht
  unfold step at ht
  split at ht
  · exact Host.Outcome.next.inj ht ▸ hs
  next c rest _ => exact (exec_portStep (s := { s with pending := rest }) ht).lawful hs

/-! ### ATTN (R194) -/

theorem exec_popComplete {s : State} {n : Notice} {ns : List Notice} (hpop : s.mp.pendingPop = some n)
    (hn : s.mp.notices = n :: ns) :
    exec .popComplete s =
      .next { s with mp := { s.mp with pendingPop := none, notices := ns, attn := !ns.isEmpty } } := by
  have hmp : s.mp.completePop = { s.mp with pendingPop := none, notices := ns, attn := !ns.isEmpty } := by
    rw [completePop_of_some hpop, hn]
    rfl
  exact congrArg (fun p => Host.Outcome.next (s.withMp p)) hmp

/-- The release of RESET enters the state that CFGSRC selects, and posts it. -/
theorem releaseReset_mp {s : State} (hst : s.sc.state = .reset) (sid : Station) (cfgsrc : Bool) :
    (releaseReset sid cfgsrc s).mp =
      s.mp.post (.stateChanged (if cfgsrc then .config else .loading) .resetReleased) := by
  cases cfgsrc <;> simp [releaseReset, hst]

/-- Settles O50: every command keeps ATTN with the queue, and each edge of ATTN is that of its own command. -/
theorem attnFollowsTheNotices : Obligations.AttnFollowsTheNotices := by
  refine ⟨fun c s t hs ht => (exec_portStep ht).attn hs, fun n p hp => (post_attn hp n).1,
    fun s n hpop hn => ⟨_, exec_popComplete hpop hn, rfl, rfl⟩, fun s hp => ?_, fun s sid cfgsrc hp hst hmp => ?_⟩
  · exact ⟨s.blocksReset, congrArg Host.Outcome.next (if_pos hp), rfl⟩
  · have hposted : (settle (releaseReset sid cfgsrc s)).mp =
        ManagementPort.reset.post (.stateChanged (if cfgsrc then .config else .loading) .resetReleased) := by
      simp [releaseReset_mp hst, hmp]
    refine ⟨_, congrArg (fun u => Host.Outcome.next (settle u)) (if_pos hp), ?_, ?_⟩ <;> rw [hposted] <;> rfl

end Sys2Proof.Machine
end

section
/-! PROOF. The transactions of the management port (O44): the command that their bytes spell, the bytes on MSO, and the
commands that change the port alone. -/

namespace Sys2Proof.Machine

open Sys2Proof.Safety

/-! ### The command that the bytes spell (R184, R185) -/

/-- A code that the port does not recognise is an unknown command at its first byte. -/
theorem commandTaken_unknown {code : Byte} (h : (Instr.unknownCommand code).wellFormed = true) (more : List Byte) :
    commandTaken (code :: more) = some (.unknownCommand code) := by
  have hnot : code ∉ recognisedCodes := by simpa [Instr.wellFormed] using h
  have hne : ∀ c ∈ recognisedCodes, code.toNat ≠ c.toNat := fun c hc k => hnot (BitVec.eq_of_toNat_eq k ▸ hc)
  simp only [recognisedCodes, List.forall_mem_cons] at hne
  rw [commandTaken]
  split
  case h_14 => rfl
  all_goals simp_all

section
variable {c : Instr} {bytes : List Byte} (hwf : c.wellFormed = true) (hb : c.commandBytes = some bytes)
include hwf hb

/-- A command is taken once all its bytes have been received, whatever follows them. -/
theorem commandTaken_of_bytes (more : List Byte) : commandTaken (bytes ++ more) = some c := by
  cases c with
  | unknownCommand code => exact Option.some.inj hb ▸ commandTaken_unknown hwf more
  | writeConfig offset number data =>
    have hlen := writeConfig_length hwf
    obtain rfl := Option.some.inj hb
    change writeConfigTaken offset number (data ++ more) = _
    unfold writeConfigTaken
    rw [if_neg (by simp [hlen]), List.take_left' hlen]
  | readStatus | readMembers | readResource r | readBinding b | readCounters | clearCounters | popNotice
  | readConfig offset number | start | leave | rejoin | releaseLatch b => exact Option.some.inj hb ▸ rfl
  | _ => cases hb

/-- While one of its bytes is missing no command is taken. -/
theorem commandTaken_of_missing {k : Nat} (hk : k < bytes.length) : commandTaken (bytes.take k) = none := by
  cases c with
  | writeConfig offset number data =>
    have hlen := writeConfig_length hwf
    obtain rfl := Option.some.inj hb
    match k with
    | 0 | 1 | 2 => rfl
    | k + 3 =>
      change writeConfigTaken offset number (data.take k) = none
      have hmissing : k < data.length := by simpa using hk
      exact if_pos (by rw [List.length_take]; omega)
  | readResource r | readBinding b | releaseLatch b =>
    obtain rfl := Option.some.inj hb
    match k, hk with
    | 0, _ | 1, _ => rfl
  | readConfig offset number =>
    obtain rfl := Option.some.inj hb
    match k, hk with
    | 0, _ | 1, _ | 2, _ => rfl
  | readStatus | readMembers | readCounters | clearCounters | popNotice | start | leave | rejoin
  | unknownCommand code =>
    obtain rfl := Option.some.inj hb
    match k, hk with
    | 0, _ => rfl
  | _ => cases hb

end

/-! ### The bytes on MSO (R184) -/

theorem PortRun.msoDriven {p q : ManagementPort} (h : PortRun p q) : q.msoDriven = p.msoDriven := by
  cases h with
  | noted h => exact h.msoDriven
  | popped h => rfl

/-- A command handled at a port that can take it leaves its bytes and its response in the transaction. -/
theorem Handled.taken {received : List Byte} {c : Instr} {s : State} (h : Handled received c s) (hport : PortReady s) :
    ∃ t response, exec c s = .next t ∧
      t.mp.transaction = some { received := received, response := some response } ∧
      t.mp.msoDriven = s.mp.msoDriven := by
  cases h with
  | read a h => exact ⟨_, (a s).response, h.trans (readEvent_of_portReady hport received a), rfl, rfl⟩
  | command run hrun h =>
    refine ⟨_, (run s).2.response, h.trans (commandEvent_of_run hport rfl), ?_, ?_⟩
    · simp [settleAnswer_mp]
    · simpa [settleAnswer_mp] using hrun.msoDriven

theorem msoByte_of_taken {p : ManagementPort} {received response : List Byte} (hmso : p.msoDriven = true)
    (ht : p.transaction = some { received := received, response := some response }) (i : Nat) :
    p.msoByte i = some (if i < received.length then 0 else response.getD (i - received.length) 0) := by
  simp [ManagementPort.msoByte, Transaction.msoByte, hmso, ht]

/-! ### The commands that change the port alone (R193, R195) -/

/-- A command whose event changes the port alone settles the answer in that port. -/
theorem commandEvent_of_port {s : State} (hs : Settled s) (h : PortReady s) {received : List Byte}
    {run : State → State × Answer} {p : ManagementPort} {a : Answer} (hr : run s = (s.withMp p, a)) :
    commandEvent received run s =
      .next
        { s with mp := { p with transaction := some { received := received, response := some a.response } } } :=
  (commandEvent_of_run h hr).trans (congrArg Host.Outcome.next (settle_of_settled _ hs))

/-- Settles O44: the port's own commands one by one, and each management command by its bytes. -/
theorem transactionsAndNotices : Obligations.TransactionsAndNotices := by
  intro s hs
  refine ⟨fun hp hst hopen => ?_, rfl, fun hport hn => ?_, fun n ns hport hn => ?_, fun n ns => exec_popComplete,
    fun hport => ?_, fun c bytes hport hmso hwf hb => ?_⟩
  · exact congrArg Host.Outcome.next (if_pos (by simp [hp, hst, hopen]))
  · exact commandEvent_of_unmoved hs hport (a := Answer.only .empty) (by simp [hn])
  · exact commandEvent_of_port hs hport (p := { s.mp with pendingPop := some n }) (a := Answer.ok n.bytes)
      (by simp [hn])
  · exact commandEvent_of_port hs hport (p := { s.mp with counters := Counters.zero }) (a := Answer.ok []) rfl
  · obtain ⟨t, response, ht, htaken, hdriven⟩ := (handled_of_bytes s hwf hb).taken hport
    exact ⟨commandTaken_of_bytes hwf hb, fun k => commandTaken_of_missing hwf hb, t, response, ht, htaken,
      msoByte_of_taken (hdriven.trans hmso) htaken⟩

end Sys2Proof.Machine
end

section
/-! PROOF. The queue of commands: a step takes the front one (O1), and a command completes and leaves the queue alone (O2;
95_what_each_step_holds.md). -/

namespace Sys2Proof.Machine

/-! ### The step (O1) -/

section
variable {s : State}

theorem step_of_front (c : Instr) (rest : List Instr) :
    step { s with pending := c :: rest } = exec c { s with pending := rest } := rfl

theorem step_of_empty (h : s.pending = []) : step s = .next s := by
  unfold step
  rw [h]

end

/-- Settles O1: by whether a command waits. -/
theorem stepRunsTheFrontCommand : Obligations.StepRunsTheFrontCommand :=
  ⟨fun c _ rest => step_of_front c rest, fun _ h => step_of_empty h⟩

/-! ### Every command completes (O2) -/

section
variable (s : State)

/-- A management command completes whether or not the port can take it (R184). -/
theorem commandEvent_completes (received : List Byte) (run : State → State × Answer) :
    ∃ t, commandEvent received run s = .next t := by
  unfold commandEvent
  split
  · exact ⟨_, rfl⟩
  · exact ⟨_, rfl⟩

/-- Each command of the table ends in a next state: only those that the port takes, and the unknown one, choose between
two. -/
theorem exec_completes (c : Instr) : ∃ t, exec c s = .next t := by
  cases c with
  | clearCounters | popNotice | start | leave | rejoin | releaseLatch => exact commandEvent_completes s _ _
  | writeConfig offset number data =>
    change ∃ t, execWriteConfig offset number data s = .next t
    unfold execWriteConfig
    split
    · exact ⟨_, rfl⟩
    · exact commandEvent_completes s _ _
  | unknownCommand code =>
    change ∃ t, execUnknownCommand code s = .next t
    unfold execUnknownCommand
    split
    · exact ⟨_, rfl⟩
    · exact ⟨_, rfl⟩
  | _ => exact ⟨_, rfl⟩

/-- No operation that a command starts with, and no end of an event, touches the queue of commands. -/
theorem leadsTo_samePending : LeadsTo (fun t => t.pending = s.pending) s where
  stay := rfl
  atEnd u hu := (settle_keeps u).1.trans hu
  port _ _ hu := hu
  reset _ := rfl
  release sid cfgsrc := (releaseReset_keeps s sid cfgsrc).1
  rise n := (lineRise_keeps s n).1
  fall n := (lineFall_keeps s n).1
  latch n := (clearLatch_keeps s n).1
  marked := (startMark_keeps s).1
  closed bytes := (closingMark_keeps s bytes).1
  truncated := (truncation_keeps s).1
  window rejected := (windowCloses_keeps s rejected).1
  sent := (closingMarkSent_keeps s).1
  ownWindow rejected := (ownWindowCloses_keeps s rejected).1
  xtenOn := (xtenAsserted_keeps s).1
  contention other := (contentionCloses_keeps s other).1
  xtenOff := (xtenReleased_keeps s).1
  quiet := (busQuiet_keeps s).1
  xwantOn := (xwantAsserted_keeps s).1
  xwantOff := (xwantReleased_keeps s).1
  listened := (listenEnds_keeps s).1
  deadline := (deadlineExpires_keeps s).1
  holdOff := (holdOffExpires_keeps s).1
  period := (periodEnds_keeps s).1
  answered image := (memoryAnswered_keeps s image).1
  notAnswered := (memoryNotAnswered_keeps s).1
  written _ := rfl
  started _ := (takeImage_keeps s s.cl.staging).1
  left _ := (leaveTable_keeps s).1
  rejoined _ := (enterState_keeps s .listening .rejoin).1

end

/-- Settles O2: the command completes, and the operation it starts with and the end of its event keep the queue. -/
theorem everyCommandCompletes : Obligations.EveryCommandCompletes := by
  intro c s
  obtain ⟨t, ht⟩ := exec_completes s c
  exact ⟨t, ht, (leadsTo_samePending s).exec ht⟩

end Sys2Proof.Machine
end

section
/-! PROOF. The marks on the data pair and the windows of damaged frames: START_MARK_SEEN, TRUNCATION_SEEN and
CLOSING_MARK_SENT (O11), CLOSING_MARK_SEEN below the reject limit (O12, O13), and a window without acceptance (O15). -/

namespace Sys2Proof.Machine

open Sys2Proof.Safety

/-! ### The end of an event that moves the receiver or the attempt alone (R103, R105) -/

section
variable {s : State} (h : Settled s)
include h

theorem pins_pair_of_settled : s.pins.pair = s.xi.pairDrive := congrArg (·.pair) h.2

/-- An event in the exchange interface alone: the drive of the data pair follows, and no other output moves. -/
theorem settle_withXi (x : ExchangeInterface) :
    settle (s.withXi x) = { s with xi := x, pins := { s.pins with pair := x.pairDrive } } := by
  obtain ⟨htold, hpins⟩ := h
  rw [settle_of_told (s.withXi x) htold, hpins]
  rfl

/-- The same with a count at the management port, which no output of the blocks looks at. -/
theorem settle_withXi_withMp (x : ExchangeInterface) (p : ManagementPort) :
    settle ((s.withXi x).withMp p) = { s with xi := x, mp := p, pins := { s.pins with pair := x.pairDrive } } := by
  obtain ⟨htold, hpins⟩ := h
  rw [settle_of_told ((s.withXi x).withMp p) htold, hpins]
  rfl

/-- Where the pair is driven as before, no output moves. -/
theorem settle_withXi_of_same_drive {x : ExchangeInterface} (hx : x.pairDrive = s.xi.pairDrive) :
    settle (s.withXi x) = { s with xi := x } := by
  rw [settle_withXi h, hx, ← pins_pair_of_settled h]

end

/-! ### The drive of the data pair (R103, R105) -/

section
variable {x : ExchangeInterface}

/-- With no reject to drive, only an own attempt drives the pair. -/
theorem pairDrive_of_not_damaged (h : x.rx ≠ .damaged) :
    x.pairDrive = if x.sending then .data else .undriven := by
  unfold ExchangeInterface.pairDrive ExchangeInterface.sending
  cases x.attempt.map Attempt.phase with
  | none => simp [h]
  | some p => cases p <;> simp [h]

/-- With no own attempt's bytes on the pair, only a reject drives it. -/
theorem pairDrive_of_not_sending (h : x.sending = false) :
    x.pairDrive = if x.rx = .damaged then .reject else .undriven := by
  unfold ExchangeInterface.sending at h
  unfold ExchangeInterface.pairDrive
  cases hp : x.attempt.map Attempt.phase with
  | none => rfl
  | some p => cases p <;> simp_all

/-- A receiver that drives no reject may pass to another frame without a move on the pair. -/
theorem pairDrive_of_rx {r : Rx} (h : x.rx ≠ .damaged) (hr : r ≠ .damaged) (n : Nat) :
    ({ x with rx := r, rejectStreak := n } : ExchangeInterface).pairDrive = x.pairDrive := by
  rw [pairDrive_of_not_damaged h]
  exact pairDrive_of_not_damaged hr

end

/-! ### The marks (R103 to R105) -/

theorem closingMarkSent_of_sending {s : State} {a : Attempt} (ha : s.xi.attempt = some a) (hp : a.phase = .sending) :
    closingMarkSent s = s.withXi { s.xi with attempt := some { a with phase := .window } } := by
  simp [closingMarkSent, ha, hp]

/-- Settles O11: each of the three events moves the exchange interface alone. -/
theorem marksOnThePair : Obligations.MarksOnThePair := by
  intro s hp hs
  refine ⟨fun hon hns => ?_, fun hrx => ?_, fun a ha hph hrx => ?_⟩
  · have hmark : startMark s = s.withXi { s.xi with rx := .taking } := if_pos (by simp [hon, hns])
    have hdrive : ({ s.xi with rx := .taking } : ExchangeInterface).pairDrive = .undriven :=
      pairDrive_of_not_sending hns
    refine (event_of_powered hp startMark).trans (congrArg Host.Outcome.next ?_)
    rw [hmark, settle_withXi hs, hdrive]
  · have hcut : truncation s = s.withXi { s.xi with rx := .none } := by rw [truncation, hrx]
    refine (event_of_powered hp truncation).trans (congrArg Host.Outcome.next ?_)
    rw [hcut]
    exact settle_withXi_of_same_drive hs (pairDrive_of_rx (by simp [hrx]) (by simp) s.xi.rejectStreak)
  · have hdrive : ({ s.xi with attempt := some { a with phase := .window } } : ExchangeInterface).pairDrive = .undriven :=
      pairDrive_of_not_damaged hrx
    refine (event_of_powered hp closingMarkSent).trans (congrArg Host.Outcome.next ?_)
    rw [closingMarkSent_of_sending ha hph, settle_withXi hs, hdrive]

/-! ### The closing mark of a frame (R104, R105, R110) -/

theorem exec_closingMarkSeen {s : State} (h : s.powered = true) (bytes : List Byte) :
    exec (.closingMarkSeen bytes) s = .next (settle (closingMark bytes s)) :=
  event_of_powered h _

theorem closingMark_of_whole {s : State} {bytes : List Byte} {f : Frame} (hrx : s.xi.rx = .taking)
    (hf : decodeFrame bytes = some f) : closingMark bytes s = s.withXi { s.xi with rx := .whole f } := by
  simp only [closingMark, hrx, hf]

theorem closingMark_of_damaged {s : State} {bytes : List Byte} (hrx : s.xi.rx = .taking)
    (hf : decodeFrame bytes = none) : closingMark bytes s = signalReject s := by
  simp only [closingMark, hrx, hf]

/-- Settles O12: the frame is held, and the pair is driven as before. -/
theorem frameReceivedWholeIsHeld : Obligations.FrameReceivedWholeIsHeld := by
  intro s bytes f hp hs hrx hf
  rw [exec_closingMarkSeen hp, closingMark_of_whole hrx hf]
  exact congrArg Host.Outcome.next
    (settle_withXi_of_same_drive hs (pairDrive_of_rx (by simp [hrx]) (by simp) s.xi.rejectStreak))

/-- A reject below the limit is counted, and nothing else follows (R110). -/
theorem signalReject_below_limit {s : State} (h : s.xi.rejectStreak < 7) :
    signalReject s =
      (s.withXi { s.xi with rx := .damaged, rejectStreak := s.xi.rejectStreak + 1 }).withMp
        { s.mp with counters := s.mp.counters.increment .rejectsSignalled } :=
  if_pos (Nat.succ_lt_succ h)

/-- Settles O13: the reject is counted, and the pair driven to its level. -/
theorem damagedFrameIsRejected : Obligations.DamagedFrameIsRejected := by
  intro s bytes hp hs hrx hns hf hlimit
  have hdrive : ({ s.xi with rx := .damaged, rejectStreak := s.xi.rejectStreak + 1 } : ExchangeInterface).pairDrive =
      .reject := pairDrive_of_not_sending hns
  rw [exec_closingMarkSeen hp, closingMark_of_damaged hrx hf, signalReject_below_limit hlimit,
    settle_withXi_withMp hs, hdrive]
  rfl

/-! ### A window without acceptance (R105, R106) -/

/-- HEARD by the station controller, mark by mark (R139, R145). -/
theorem heardReport_eq (f : Frame) (s : State) :
    heardReport f s =
      s.withSc
        { s.sc with
          foundedSeen := s.sc.foundedSeen || (f.active && (s.sc.state == .listening || s.sc.state == .joinPending))
          tableHeard := s.sc.tableHeard || (f.active && s.sc.state == .awaitSnapshot) } := by
  unfold heardReport
  split <;> rename_i hst <;> simp [hst, beq_eq_decide] <;> rw [← hst] <;> rfl

/-- Settles O15: a frame received whole leaves HEARD and the streak, a damaged one ends the reject level. -/
theorem discardedFrameHasNoEffect : Obligations.DiscardedFrameHasNoEffect := by
  intro s hp hs
  refine ⟨fun f hrx => ?_, fun rejected hrx hns => ?_⟩
  · have hw : windowCloses true s = heardReport f (received s) := by
      rw [windowCloses, hrx]
      rfl
    rw [exec_windowClose hp, hw, heardReport_eq, settle_of_unmoved hs (by simp) (by simp) (by simp) (by simp)
      (by simpa [received] using pairDrive_received hrx) (by simp) (by simp)]
    rfl
  · have hw : windowCloses rejected s = s.withXi { s.xi with rx := .none } := by rw [windowCloses, hrx]
    have hdrive : ({ s.xi with rx := .none } : ExchangeInterface).pairDrive = .undriven := pairDrive_of_not_sending hns
    rw [exec_windowClose hp, hw, settle_withXi hs, hdrive]

end Sys2Proof.Machine
end

section
/-! PROOF. Law L12: an attempt's bytes are on the pair only in HOLDING (O55). Outside the tenure controller no operation puts
bytes on the pair or leaves HOLDING with bytes on it; within it an attempt begins in HOLDING alone. -/

namespace Sys2Proof.Machine

open Sys2Proof.Safety

/-! ### Operations that begin no attempt -/

/-- No bytes come onto the pair, and while bytes are on it HOLDING is kept. -/
def SendsNoMore (s t : State) : Prop :=
  t.xi.sending = true → s.xi.sending = true ∧ (s.tc.state = .holding → t.tc.state = .holding)

section
variable {s t u : State}

theorem SendsNoMore.trans (h : SendsNoMore s t) (k : SendsNoMore t u) : SendsNoMore s u := fun hu =>
  have ⟨ht, hk⟩ := k hu
  have ⟨hs, hh⟩ := h ht
  ⟨hs, hk ∘ hh⟩

/-- The attempt as it was, and a tenure controller that leaves HOLDING for no other state. -/
theorem SendsNoMore.of_attempt (hx : t.xi.attempt = s.xi.attempt) (ht : s.tc.state = .holding → t.tc.state = .holding) :
    SendsNoMore s t :=
  fun hu => ⟨by simpa [ExchangeInterface.sending, hx] using hu, ht⟩

theorem SendsNoMore.of_kept (hx : t.xi = s.xi) (ht : t.tc = s.tc) : SendsNoMore s t :=
  .of_attempt (by rw [hx]) (ht ▸ id)

theorem SendsNoMore.refl (s : State) : SendsNoMore s s := .of_kept rfl rfl

theorem SendsNoMore.of_silent (h : t.xi.sending = false) : SendsNoMore s t := fun hu => absurd (h.symm.trans hu) (by decide)

theorem SendsNoMore.silent (h : SendsNoMore s t) (hs : s.xi.sending = false) : t.xi.sending = false := by
  by_contra hu
  exact absurd (hs.symm.trans (h (by simpa using hu)).1) (by decide)

/-- Such an operation keeps law L12. -/
theorem SendsNoMore.lawful (k : SendsNoMore s t) (h : SendsOnlyHolding s) : SendsOnlyHolding t := fun hu =>
  have ⟨hs, hk⟩ := k hu
  hk (h hs)

theorem sendsOnlyHolding_of_silent (h : s.xi.sending = false) : SendsOnlyHolding s := fun hs =>
  absurd (h.symm.trans hs) (by decide)

/-- A station in another tenure state has no bytes on the pair. -/
theorem silent_of_lawful (h : SendsOnlyHolding s) (ht : s.tc.state ≠ .holding) : s.xi.sending = false := by
  by_contra hs
  exact ht (h (by simpa using hs))

end

/-! ### A change of station state (R112, R118) -/

section
variable (s : State)

theorem discardTo_sendsNoMore (q : TransmitQueue) : SendsNoMore s (discardTo q s) := by
  refine fun hu => ⟨?_, fun ht => (discardTo_tenure q s).trans ht⟩
  rw [discardTo_attempt] at hu
  split at hu
  · simpa [ExchangeInterface.sending, ExchangeInterface.entryDiscarded, Option.map_map, Function.comp_def] using hu
  · exact hu

theorem cutAttempt_silent (x : ExchangeInterface) : x.cutAttempt.sending = false := by
  unfold ExchangeInterface.cutAttempt ExchangeInterface.sending
  split
  next hx => simp [hx]
  · split
    · rfl
    next hp => simp [hp]

theorem placeOffline_sendsNoMore : SendsNoMore s (placeOffline s) := by
  unfold placeOffline
  split
  · exact .refl s
  · exact .of_silent (cutAttempt_silent s.xi)

theorem placeOnline_sendsNoMore : SendsNoMore s (placeOnline s) := by
  refine .of_attempt (by simp) fun ht => ?_
  rw [placeOnline, if_neg (by simp [ht]), ht]

theorem enterState_sendsNoMore (st : StationState) (c : Cause) : SendsNoMore s (enterState st c s) := by
  have hq : SendsNoMore s (if st.queueEmptied then emptyQueue (s.withRe s.re.discardLoad) else s.withRe s.re.discardLoad) := by
    split
    · exact (SendsNoMore.of_kept (t := s.withRe s.re.discardLoad) rfl rfl).trans (discardTo_sendsNoMore _ _)
    · exact .of_kept rfl rfl
  unfold enterState
  dsimp only
  generalize (if st.queueEmptied then emptyQueue (s.withRe s.re.discardLoad) else s.withRe s.re.discardLoad) = u at hq
  have ht : SendsNoMore u (if st.tenureOnline then placeOnline u else placeOffline u) := by
    split
    · exact placeOnline_sendsNoMore u
    · exact placeOffline_sendsNoMore u
  exact (hq.trans ht).trans (.of_attempt (by simp) (by simp))

/-- The same for a state whose attempt and tenure are those of s. -/
theorem entered_sendsNoMore {s u : State} (hx : u.xi = s.xi) (ht : u.tc = s.tc) (st : StationState) (c : Cause) :
    SendsNoMore s (enterState st c u) :=
  (SendsNoMore.of_kept hx ht).trans (enterState_sendsNoMore u st c)

theorem teardown_sendsNoMore (why : LossReason) : SendsNoMore s (teardown why s) := by
  have hl : SendsNoMore s (wholesaleLoss why s) := .of_kept (by simp) (by simp)
  exact (hl.trans (discardTo_sendsNoMore _ (wholesaleLoss why s).tq.purged)).trans
    (.of_kept (by simp [teardown, purgeQueue]) (by simp [teardown, purgeQueue]))

theorem teardownIfInTable_sendsNoMore (why : LossReason) : SendsNoMore s (teardownIfInTable why s) := by
  unfold teardownIfInTable
  split
  · exact teardown_sendsNoMore s why
  · exact .refl s

/-! ### The station controller -/

theorem isolate_sendsNoMore (c : Cause) : SendsNoMore s (isolate c s) := by
  unfold isolate
  split
  · exact (teardownIfInTable_sendsNoMore s .isolated).trans (entered_sendsNoMore (by simp) (by simp) _ _)
  · exact .refl s

theorem twinReport_sendsNoMore : SendsNoMore s (twinReport s) := by
  unfold twinReport enterFault
  split
  · exact (teardownIfInTable_sendsNoMore s .twin).trans (entered_sendsNoMore (by simp) (by simp) _ _)
  · exact .refl s

theorem foreignReport_sendsNoMore : SendsNoMore s (foreignReport s) := by
  unfold foreignReport
  split
  · exact (teardown_sendsNoMore s _).trans (enterState_sendsNoMore _ _ _)
  · exact .refl s

theorem selfExpelled_sendsNoMore (why : ExpelReason) : SendsNoMore s (selfExpelled why s) := by
  unfold selfExpelled
  split
  · exact (teardown_sendsNoMore s _).trans (enterState_sendsNoMore _ _ _)
  · exact .refl s

theorem leaveTable_sendsNoMore : SendsNoMore s (leaveTable s) :=
  (teardown_sendsNoMore s .left).trans (entered_sendsNoMore (by simp) (by simp) _ _)

theorem leaveEnds_sendsNoMore (c : Cause) : SendsNoMore s (leaveEnds c s) := by
  unfold leaveEnds
  split
  · exact enterState_sendsNoMore _ _ _
  all_goals exact .refl s

theorem joinAgain_sendsNoMore (c : Cause) : SendsNoMore s (joinAgain c s) := entered_sendsNoMore (by simp) (by simp) _ _

theorem confirmedReport_sendsNoMore : SendsNoMore s (confirmedReport s) := by
  unfold confirmedReport
  split
  · exact (enterState_sendsNoMore s .active .confirmed).trans (.of_kept (by simp) (by simp))
  all_goals exact .refl s

theorem ownJoinAccepted_sendsNoMore : SendsNoMore s (ownJoinAccepted s) := by
  unfold ownJoinAccepted found
  split
  · split
    · exact enterState_sendsNoMore _ _ _
    · have he : SendsNoMore s (enterState .active .founded (s.withRe (ReplicaEngine.founded s.me))) :=
        entered_sendsNoMore rfl rfl _ _
      exact he.trans (.of_kept (by simp) (by simp))
  all_goals exact .refl s

theorem deadlineTakesEffect_sendsNoMore : SendsNoMore s (deadlineTakesEffect s) := by
  unfold deadlineTakesEffect
  split
  · exact joinAgain_sendsNoMore s _
  · exact enterState_sendsNoMore s _ _

theorem loadEnded_sendsNoMore : SendsNoMore s (loadEnded s) := by
  unfold loadEnded
  split
  · exact deadlineTakesEffect_sendsNoMore s
  all_goals exact .refl s

theorem completedLoad_sendsNoMore : SendsNoMore s (completedLoad s) := by
  unfold completedLoad
  dsimp only
  have he : SendsNoMore s ((enterState .confirming .snapshotLoaded s).withSilence
      (silenceOnLoad (enterState .confirming .snapshotLoaded s).me (enterState .confirming .snapshotLoaded s).re.members)) :=
    (enterState_sendsNoMore s .confirming .snapshotLoaded).trans (.of_kept (by simp) (by simp))
  split
  · exact he.trans (.of_kept (by simp) (by simp))
  all_goals exact (he.trans (teardown_sendsNoMore _ _)).trans (joinAgain_sendsNoMore _ _)

theorem frameWhileAwaiting_sendsNoMore (f : Frame) : SendsNoMore s (frameWhileAwaiting f s) := by
  have hre (e : ReplicaEngine) : SendsNoMore s (s.withRe e) := .of_kept rfl rfl
  unfold frameWhileAwaiting takePart frameOutsideRun
  dsimp only
  split
  · split
    · exact hre _
    · exact (hre _).trans (completedLoad_sendsNoMore _)
    · exact (hre _).trans (loadEnded_sendsNoMore _)
  all_goals
    split
    · exact (hre _).trans (loadEnded_sendsNoMore _)
    · exact .refl s

theorem otherFrameAccepted_sendsNoMore (f : Frame) : SendsNoMore s (otherFrameAccepted f s) := by
  have hh : SendsNoMore s (silenceHeard f.sender s) := .of_kept (by simp) (by simp)
  unfold otherFrameAccepted
  dsimp only
  split
  · exact hh.trans (.of_kept rfl rfl)
  · exact hh.trans (.of_kept rfl rfl)
  · exact hh.trans (frameWhileAwaiting_sendsNoMore _ f)
  all_goals exact hh

theorem ownFrameAccepted_sendsNoMore (f : Frame) : SendsNoMore s (ownFrameAccepted f s) := by
  unfold ownFrameAccepted
  dsimp only
  have ha : SendsNoMore s
      (if s.sc.state == .awaitSnapshot then
        frameWhileAwaiting f (s.withSc { s.sc with satisfied := s.sc.satisfied || s.sc.presenceTimer })
      else s.withSc { s.sc with satisfied := s.sc.satisfied || s.sc.presenceTimer }) := by
    split
    · exact SendsNoMore.trans (.of_kept rfl rfl) (frameWhileAwaiting_sendsNoMore _ f)
    · exact .of_kept rfl rfl
  split
  · exact ha.trans (ownJoinAccepted_sendsNoMore _)
  · exact ha.trans (leaveEnds_sendsNoMore _ _)
  · exact ha.trans (.of_kept (by simp) (by simp))
  all_goals exact ha

/-! ### The application of a frame -/

theorem membershipReports_sendsNoMore (me : Station) (before : ReplicaEngine) (x : Effects) :
    SendsNoMore s (membershipReports me before x s) := by
  unfold membershipReports
  dsimp only
  have hm : SendsNoMore s
      (match x.member with
      | none => s
      | some (y, m) =>
        if y ≠ me then memberReport y m s
        else if before.members[me] = .joining ∧ m = .active then confirmedReport s
        else s) := by
    (repeat' split)
    · exact .refl s
    · exact .of_kept (by simp) (by simp)
    · exact confirmedReport_sendsNoMore s
    · exact .refl s
  split
  · exact hm
  · split
    · exact hm.trans (selfExpelled_sendsNoMore _ _)
    · exact hm

theorem applyFrame_sendsNoMore (own : Bool) (f : Frame) : SendsNoMore s (applyFrame own f s) := by
  unfold applyFrame
  (repeat' split)
  · exact foreignReport_sendsNoMore s
  · exact .of_kept (by simp) (by simp)
  · rw [applyFully_eq]
    exact SendsNoMore.trans (.of_kept (by simp) (by simp)) (membershipReports_sendsNoMore _ _ _ _)
  · exact .refl s

/-! ### The exchange interface -/

theorem signalReject_sendsNoMore : SendsNoMore s (signalReject s) := by
  unfold signalReject
  dsimp only
  split
  · exact .of_attempt (by simp) (by simp)
  · exact SendsNoMore.trans (.of_attempt (by simp) (by simp)) (isolate_sendsNoMore _ _)

theorem startMark_sendsNoMore : SendsNoMore s (startMark s) := by
  unfold startMark
  split
  · exact .of_attempt rfl id
  · exact .refl s

theorem closingMark_sendsNoMore (bytes : List Byte) : SendsNoMore s (closingMark bytes s) := by
  unfold closingMark
  split
  · split
    · exact .of_attempt rfl id
    · exact signalReject_sendsNoMore s
  all_goals exact .refl s

theorem truncation_sendsNoMore : SendsNoMore s (truncation s) := by
  unfold truncation
  split
  · exact .of_attempt rfl id
  all_goals exact .refl s

theorem windowCloses_sendsNoMore (rejected : Bool) : SendsNoMore s (windowCloses rejected s) := by
  unfold windowCloses
  split
  next f _ =>
    have hh : SendsNoMore s (heardReport f (s.withXi { s.xi with rx := .none, rejectStreak := 0 })) :=
      .of_attempt (by simp) (by simp)
    unfold wholeWindow handOver
    dsimp only
    (repeat' split)
    · exact hh
    · exact hh.trans (twinReport_sendsNoMore _)
    · exact (hh.trans (applyFrame_sendsNoMore _ _ _)).trans (otherFrameAccepted_sendsNoMore _ _)
  · exact .of_attempt rfl id
  all_goals exact .refl s

/-- The closing mark ends the drive of the pair. -/
theorem closingMarkSent_sendsNoMore : SendsNoMore s (closingMarkSent s) := by
  refine .of_silent ?_
  simp only [closingMarkSent, ExchangeInterface.sending, State.withXi_xi, Option.map_map]
  cases s.xi.attempt with
  | none => rfl
  | some a => cases hp : a.phase <;> simp [hp]

theorem runEnded_sendsNoMore : SendsNoMore s (runEnded s) := by
  refine .of_attempt (by simp) fun ht => ?_
  unfold runEnded
  split <;> exact ht

theorem reportDropped_sendsNoMore (what : Sent) : SendsNoMore s (reportDropped what s) := by
  unfold reportDropped
  split
  · exact .of_kept (by simp) (by simp)
  · exact .of_kept (by simp) (by simp)
  · exact .refl s
  · exact .refl s
  · exact leaveEnds_sendsNoMore s _
  all_goals exact .refl s

theorem advanceDropStreak_sendsNoMore : SendsNoMore s (advanceDropStreak s) := by
  unfold advanceDropStreak
  split
  · exact .of_attempt rfl id
  · exact SendsNoMore.trans (.of_attempt rfl id) (isolate_sendsNoMore _ _)

/-! ### Timers and configuration -/

theorem deadlineExpires_sendsNoMore : SendsNoMore s (deadlineExpires s) := by
  unfold deadlineExpires
  split
  · split
    · exact .of_kept rfl rfl
    · exact deadlineTakesEffect_sendsNoMore s
  all_goals exact .refl s

theorem takeImage_sendsNoMore (img : Vector Byte 30) : SendsNoMore s (takeImage img s) := by
  unfold takeImage
  split
  · have hf : SendsNoMore s ((((s.withCl { s.cl with state := .frozen }).withSc { s.sc with params := some (paramsOf img) }).withTc
        { s.tc with q := some img[2].toNat }).withBu (s.bu.freeze (bindingsOf img))) := .of_attempt rfl id
    exact hf.trans (enterState_sendsNoMore _ _ _)
  all_goals exact entered_sendsNoMore rfl rfl _ _

theorem memoryNotAnswered_sendsNoMore : SendsNoMore s (memoryNotAnswered s) := by
  unfold memoryNotAnswered
  split
  · dsimp only
    split
    · exact .of_kept rfl rfl
    · exact entered_sendsNoMore rfl rfl _ _
  all_goals exact .refl s

theorem releaseReset_sendsNoMore (sid : Station) (cfgsrc : Bool) : SendsNoMore s (releaseReset sid cfgsrc s) := by
  have hn (l : ConfigLoader) : SendsNoMore s ((s.withXi { s.xi with number := some sid }).withCl l) := .of_attempt rfl id
  unfold releaseReset
  split
  · dsimp only
    split
    · exact (hn _).trans (enterState_sendsNoMore _ _ _)
    · exact (hn _).trans (enterState_sendsNoMore _ _ _)
  all_goals exact .refl s

/-! ### The bus (R119, R123, R130 to R132) -/

theorem busBecomesFree_sendsNoMore : SendsNoMore s (busBecomesFree s) := by
  refine .of_attempt (by simp) fun ht => ?_
  simp [busBecomesFree, ht]

theorem contentionOpens_sendsNoMore : SendsNoMore s (contentionOpens s) := by
  refine .of_attempt (by simp) fun ht => ?_
  simp [contentionOpens, ht]

theorem withLines_sendsNoMore (l : Lines) : SendsNoMore s (s.withLines l) := .of_kept rfl rfl

theorem xtenAsserted_sendsNoMore : SendsNoMore s (xtenAsserted s) := by
  unfold xtenAsserted
  dsimp only
  split
  · exact (withLines_sendsNoMore s _).trans (contentionOpens_sendsNoMore _)
  all_goals exact withLines_sendsNoMore s _

theorem xtenReleased_sendsNoMore : SendsNoMore s (xtenReleased s) := by
  unfold xtenReleased
  dsimp only
  split
  · split
    · exact withLines_sendsNoMore s _
    · exact (withLines_sendsNoMore s _).trans (busBecomesFree_sendsNoMore _)
  all_goals exact withLines_sendsNoMore s _

theorem busQuiet_sendsNoMore : SendsNoMore s (busQuiet s) := by
  unfold busQuiet
  split
  · split
    · exact busBecomesFree_sendsNoMore s
    · exact .refl s
  all_goals exact .refl s

/-- XWANT moves a PARKED or a SERVED station alone. -/
theorem xwantAsserted_sendsNoMore : SendsNoMore s (xwantAsserted s) :=
  .of_attempt (by simp) fun ht => by simp [xwantAsserted, ht]

theorem xwantReleased_sendsNoMore : SendsNoMore s (xwantReleased s) :=
  .of_attempt (by simp) fun ht => by simp [xwantReleased, ht]

end

/-! ### Attempts begin in HOLDING (R102, R125) -/

section
variable {s : State}

/-- The asking for the next frame leaves the tenure state as it is. -/
theorem askNext_lawful (h : s.tc.state = .holding) : SendsOnlyHolding (askNext s) := fun _ => by
  obtain ⟨_, ht⟩ := askNext_tc s
  rw [ht]
  exact h

theorem holdingDecision_lawful (h : s.tc.state = .holding) (hs : s.xi.sending = false) (r : Bool) :
    SendsOnlyHolding (holdingDecision r s) := by
  rw [holdingDecision_eq]
  unfold carryOut
  split
  · exact askNext_lawful h
  · exact sendsOnlyHolding_of_silent hs
  · exact sendsOnlyHolding_of_silent hs

theorem attemptReport_lawful (hs : s.xi.sending = false) (r : Bool) : SendsOnlyHolding (attemptReport r s) := by
  unfold attemptReport
  split
  next h => exact holdingDecision_lawful (s := s.withTc { s.tc with quota := min 255 (s.tc.quota + 1) }) h hs r
  all_goals exact sendsOnlyHolding_of_silent hs

theorem contenderCloses_lawful (hs : s.xi.sending = false) (won : Bool) : SendsOnlyHolding (contenderCloses won s) := by
  have hd (t : TenureController) (ht : t.state = .holding) : SendsOnlyHolding (holdingDecision false (s.withTc t)) :=
    holdingDecision_lawful (s := s.withTc t) ht hs false
  unfold contenderCloses
  dsimp only
  (repeat' split)
  · exact askNext_lawful rfl
  · exact hd _ rfl
  · exact sendsOnlyHolding_of_silent hs
  · exact sendsOnlyHolding_of_silent hs

/-- A contender has no bytes on the pair before its contention closes (R121). -/
theorem contentionCloses_lawful (h : SendsOnlyHolding s) (other : Option Station) :
    SendsOnlyHolding (contentionCloses other s) := by
  have hl (l : Lines) : SendsOnlyHolding (s.withLines l) := (withLines_sendsNoMore s l).lawful h
  unfold contentionCloses
  split
  · split
    next hc =>
      refine contenderCloses_lawful ?_ _
      exact silent_of_lawful (hl _) (by simp [hc])
    all_goals
      dsimp only
      split
      · exact SendsNoMore.lawful (.of_attempt rfl id) (hl _)
      · exact (busBecomesFree_sendsNoMore _).lawful (hl _)
  all_goals exact hl _

/-- Has-work told moves an IDLE, a DEFERRED or a PARKED station (R87); the PARKED one holds before it sends. -/
theorem settle_lawful (h : SendsOnlyHolding s) : SendsOnlyHolding (settle s) := by
  have hn : SendsOnlyHolding (noteWork s) := SendsNoMore.lawful (.of_attempt rfl id) h
  have htell : SendsOnlyHolding (tellWork s) := by
    unfold tellWork
    dsimp only
    split
    next hi _ _ => exact sendsOnlyHolding_of_silent (by simpa using silent_of_lawful hn (by simp [hi]))
    next hd _ _ => exact sendsOnlyHolding_of_silent (by simpa using silent_of_lawful hn (by simp [hd]))
    · exact SendsNoMore.lawful (.of_attempt rfl id) (askNext_lawful (s := (noteWork s).withTenure .holding) rfl)
    · exact hn
  exact htell

/-- The end of an own attempt: its bytes are gone from the pair before the next decision (R107). -/
theorem ownWindowCloses_lawful (h : SendsOnlyHolding s) (rejected : Bool) :
    SendsOnlyHolding (ownWindowCloses rejected s) := by
  have hx : (s.withXi { s.xi with attempt := none }).xi.sending = false := rfl
  unfold ownWindowCloses
  dsimp only
  split
  · exact h
  next a _ =>
    generalize s.withXi { s.xi with attempt := none } = u at hx
    (repeat' split)
    · exact h
    · exact sendsOnlyHolding_of_silent hx
    · have hq : SendsNoMore u (if a.discarded then u else runEnded (u.withTq (u.tq.accepted a.sent))) := by
        split
        · exact .refl u
        · exact SendsNoMore.trans (.of_kept rfl rfl) (runEnded_sendsNoMore (u.withTq (u.tq.accepted a.sent)))
      have ha := (hq.trans (applyFrame_sendsNoMore _ true a.frame)).trans (ownFrameAccepted_sendsNoMore _ a.frame)
      exact attemptReport_lawful ((ha.trans (.of_attempt (by simp) (by simp))).silent hx) false
    · exact attemptReport_lawful hx _
    · exact attemptReport_lawful hx _
    · have hq : SendsNoMore u (runEnded (u.withTq (u.tq.dropped a.sent))) :=
        SendsNoMore.trans (.of_kept rfl rfl) (runEnded_sendsNoMore (u.withTq (u.tq.dropped a.sent)))
      have hr := hq.trans (reportDropped_sendsNoMore _ a.sent)
      refine attemptReport_lawful (SendsNoMore.silent (hr.trans (SendsNoMore.trans ?_ (advanceDropStreak_sendsNoMore _))) hx) _
      exact .of_kept (by simp) (by simp)

/-! ### Every step (O55) -/

theorem leadsTo_sendsOnlyHolding (h : SendsOnlyHolding s) : LeadsTo SendsOnlyHolding s where
  stay := h
  atEnd _ hu := settle_lawful hu
  port _ _ hu := hu
  reset _ := nofun
  release sid cfgsrc := (releaseReset_sendsNoMore s sid cfgsrc).lawful h
  rise _ := SendsNoMore.lawful (.of_kept (by simp) (by simp)) h
  fall _ := SendsNoMore.lawful (.of_kept (by simp) (by simp)) h
  latch _ := SendsNoMore.lawful (.of_kept (by simp) (by simp)) h
  marked := (startMark_sendsNoMore s).lawful h
  closed bytes := (closingMark_sendsNoMore s bytes).lawful h
  truncated := (truncation_sendsNoMore s).lawful h
  window rejected := (windowCloses_sendsNoMore s rejected).lawful h
  sent := (closingMarkSent_sendsNoMore s).lawful h
  ownWindow := ownWindowCloses_lawful h
  xtenOn := (xtenAsserted_sendsNoMore s).lawful h
  contention := contentionCloses_lawful h
  xtenOff := (xtenReleased_sendsNoMore s).lawful h
  quiet := (busQuiet_sendsNoMore s).lawful h
  xwantOn := (xwantAsserted_sendsNoMore s).lawful h
  xwantOff := (xwantReleased_sendsNoMore s).lawful h
  listened := by
    unfold listenEnds
    split
    · exact (joinAgain_sendsNoMore s _).lawful h
    · exact h
  deadline := (deadlineExpires_sendsNoMore s).lawful h
  holdOff := by
    unfold holdOffExpires
    split
    · exact (entered_sendsNoMore rfl rfl _ _).lawful h
    · exact h
  period := SendsNoMore.lawful (.of_kept (by simp) (by simp)) h
  answered img := by
    unfold memoryAnswered
    split
    · exact (takeImage_sendsNoMore s img).lawful h
    all_goals exact h
  notAnswered := (memoryNotAnswered_sendsNoMore s).lawful h
  written _ := h
  started _ := (takeImage_sendsNoMore s _).lawful h
  left _ := (leaveTable_sendsNoMore s).lawful h
  rejoined _ := (enterState_sendsNoMore s _ _).lawful h

/-- Only an own attempt's bytes drive the pair with data (R103). -/
theorem sending_of_data {x : ExchangeInterface} (h : x.pairDrive = .data) : x.sending = true := by
  unfold ExchangeInterface.pairDrive at h
  unfold ExchangeInterface.sending
  split at h
  next hp => simp [hp]
  all_goals split at h <;> cases h

/-- Settles O55: every operation keeps the law, and at a settled station the pins show it. -/
theorem stepsSendOnlyHolding : Obligations.StepsSendOnlyHolding := by
  intro s t hs ht
  have hlaw : SendsOnlyHolding t := LeadsTo.step hs (fun _ => leadsTo_sendsOnlyHolding hs) ht
  refine ⟨hlaw, fun hsettled hdata => ?_⟩
  obtain ⟨_, hpins⟩ := stepsSettle s t hsettled ht
  rw [hpins] at hdata ⊢
  have hhold : t.tc.state = .holding := hlaw (sending_of_data hdata)
  simp [State.drivenPins, TenureController.xtenDrive, hhold]

end

end Sys2Proof.Machine
end

section
/-! PROOF. The holding decision on the report of an attempt whose entry had been discarded (O35). -/

namespace Sys2Proof.Machine

open Sys2Proof.Safety

/-! ### A decision carried out with the quota as it was counted (R126, R131, R133) -/

/-- The quota count after a decision: a surrender returns it to 0. -/
def Decision.quota (d : Decision) (n : Nat) : Nat := if d.tenure = .served then 0 else n

/-- What a decision carried out leaves of the tenure controller, with n the quota count at the decision. -/
structure DecidedWith (d : Decision) (n : Nat) (t : TenureController) : Prop where
  state : t.state = d.tenure
  quota : t.quota = d.quota n

theorem carryOut_decidedWith {s : State} (h : s.tc.state = .holding) (d : Decision) :
    DecidedWith d s.tc.quota (carryOut d s).tc := by
  match d with
  | .continue =>
    obtain ⟨p, hp⟩ := askNext_tc s
    rw [carryOut, hp]
    exact ⟨h, rfl⟩
  | .park => exact ⟨rfl, rfl⟩
  | .surrender => exact ⟨rfl, rfl⟩

/-- The end of the event keeps it: a holder that parks has noted that it has no work. -/
theorem settle_carryOut {s : State} (h : s.tc.state = .holding) (hnote : s.tc.hasWork = s.tq.hasWork) (d : Decision) :
    DecidedWith d s.tc.quota (settle (carryOut d s)).tc := by
  have hd := carryOut_decidedWith h d
  have htell : tellWork (carryOut d s) = noteWork (carryOut d s) := by
    match d with
    | .continue => exact tellWork_of_tenure (.inl hd.state)
    | .park => exact (tellWork_of_told (s.withTenure .parked) hnote).trans (noteWork_of_told (s.withTenure .parked) hnote).symm
    | .surrender => exact tellWork_of_tenure (.inr hd.state)
  rw [settle_tc, htell]
  exact ⟨hd.state, hd.quota⟩

section
variable {d : Decision} {n : Nat} {t : TenureController} (h : DecidedWith d n t)
include h

theorem DecidedWith.xten : t.xtenDrive = if t.state = .served then .released else .asserted := by
  rw [TenureController.xtenDrive, h.state]
  cases d <;> rfl

theorem DecidedWith.xwant : t.xwantDrive = false := by
  rw [TenureController.xwantDrive, h.state]
  cases d <;> rfl

end

/-! ### The table (R126) -/

/-- The table of R126 by the tenure state that it leads to. -/
theorem decision_tenure (t : TenureController) (xwant : Bool) :
    (t.decision xwant false).tenure =
      if t.pinned = true then .holding
      else if t.hasWork = true then
        if xwant = true ∧ ∃ q, t.q = some q ∧ q ≤ t.quota then .served else .holding
      else if xwant = true then .served else .parked := by
  cases hp : t.pinned with
  | true => rw [decision_of_pinned hp]; rfl
  | false =>
    cases hw : t.hasWork with
    | true =>
      simp only [decision_of_work hw, hp, ← quotaSpent_iff]
      cases xwant <;> cases t.quotaSpent <;> rfl
    | false =>
      rw [decision_of_no_work hw, hp]
      cases xwant <;> rfl

/-- The rejected window of an attempt whose entry is gone: the attempt is complete, and no block but the tenure controller
hears of it (R107, R112). -/
theorem exec_ownWindowClose_of_discarded {s : State} {a : Attempt} (h : AwaitsOwnWindow s a) (hd : a.discarded = true) :
    exec (.ownWindowClose true) s = .next (settle (attemptReport false (failed s))) := by
  obtain ⟨hp, _, ha, hph, hu⟩ := h
  have hw : ownWindowCloses true s = attemptReport false (failed s) := by
    simp [ownWindowCloses, ha, hph, hu, hd, failed]
  rw [exec_ownWindowClose hp, hw]

/-- Settles O35: the report counts the quota, and the table decides on has-work as it stands. -/
theorem holdingDecisionTable : Obligations.HoldingDecisionTable := by
  intro s a h hd hst
  obtain ⟨t, ht⟩ : ∃ t, t = settle (attemptReport false (failed s)) := ⟨_, rfl⟩
  have hdec : DecidedWith ((decided (failed s)).tc.decision s.lines.xwant false) (min 255 (s.tc.quota + 1)) t.tc := by
    rw [ht, attemptReport_of_holding (s := failed s) hst false]
    exact settle_carryOut (s := decided (failed s)) hst rfl _
  have hsettled : Settled t := ht ▸ settle_settled _
  have hstreak : t.xi.dropStreak = s.xi.dropStreak :=
    ht ▸ (askStable_dropStreak s.xi.dropStreak).outcome (s := failed s) rfl false
  obtain ⟨hre, hsc, hmp, hout⟩ := ht ▸ failed_keeps s false
  refine ⟨t, ht ▸ exec_ownWindowClose_of_discarded h hd, hdec.state.trans (decision_tenure _ _), ?_,
    (pins_xten_of_settled hsettled).trans hdec.xten, (pins_xwant_of_settled hsettled).trans hdec.xwant, hstreak, hre, hsc,
    hmp, boardKept_iff.mpr (by simp [ht, failed]), hout⟩
  rw [hdec.quota, Decision.quota, hdec.state]

end Sys2Proof.Machine
end

section
/-! PROOF. The hold-off (O38): a station in ISOLATED drives nothing, and the end of the hold-off leads to DETACHED or to
LISTENING. -/

namespace Sys2Proof.Machine

open Sys2Proof.Safety

/-! ### ISOLATED drives nothing (R104, R133, R156) -/

section
variable {s : State} (h : Settled s)
include h

/-- An OFFLINE station that lawfully has no bytes on the pair and takes no frame drives none of the bus. -/
theorem pins_of_offline (hlaw : SendsOnlyHolding s) (hoff : s.tc.state = .offline) (hrx : s.xi.rx = .none) :
    s.pins.pair = .undriven ∧ s.pins.xten = .released ∧ s.pins.xwant = false := by
  have hsilent : s.xi.sending = false := silent_of_lawful hlaw (by simp [hoff])
  rw [pins_pair_of_settled h, pins_xten_of_settled h, pins_xwant_of_settled h, pairDrive_of_not_sending hsilent, hrx,
    TenureController.xtenDrive, TenureController.xwantDrive, hoff]
  exact ⟨rfl, rfl, rfl⟩

theorem pins_low_of_not_active (hst : s.sc.state ≠ .active) (n : BindingNo) :
    s.pins.gnt[n] = false ∧ s.pins.yld[n] = false := by
  rw [gnt_of_settled h, yld_of_settled h]
  exact ⟨gntLevel_of_not_active hst _ n, yldLevel_of_not_active hst _ n⟩

/-- With the receiver off a start mark is disregarded (R104). -/
theorem exec_startMarkSeen_of_receiver_off (hoff : s.sc.state.receiverOn = false) : exec .startMarkSeen s = .next s := by
  have hmark : startMark s = s := if_neg (by simp [hoff])
  refine congrArg Host.Outcome.next ?_
  rw [hmark, ite_self, settle_of_settled s h]

end

/-! ### The tenure controller and the streaks on a change of station state (R118) -/

/-- An OFFLINE tenure controller placed online: IDLE, with the bus read from the level of XTEN. -/
theorem enterState_tc_of_offline {st : StationState} {s : State} (hon : st.tenureOnline = true)
    (h : s.tc.state = .offline) (c : Cause) :
    (enterState st c s).tc.state = .idle ∧
      (enterState st c s).tc.bus = (if s.lines.xten then some .taken else some .free) := by
  refine ⟨enterState_comes_online hon h c, ?_⟩
  have hplaced (u : State) (hu : u.tc.state = .offline) :
      (placeOnline u).tc.bus = if u.lines.xten then some .taken else some .free := by
    rw [placeOnline, if_pos hu]
    rfl
  have hempty (u : State) (hu : u.tc.state = .offline) : (emptyQueue u).tc.state = .offline :=
    (discardTo_tenure _ u).trans hu
  unfold enterState
  simp only [postNotice_keeps, State.withSc_tc, State.withXi_tc, if_pos hon]
  split
  · refine (hplaced (emptyQueue (s.withRe s.re.discardLoad)) (hempty _ h)).trans ?_
    simp [emptyQueue]
  · exact hplaced _ h

/-- An IDLE station without work is told nothing that moves it. -/
theorem tellWork_of_idle_without_work {u : State} (hst : u.tc.state = .idle) (hw : u.tq.hasWork = false) :
    tellWork u = noteWork u := by
  have hn : (noteWork u).tc.state = .idle := hst
  have hnw : (noteWork u).tc.hasWork = false := hw
  simp only [tellWork, hn, hnw]
  cases u.tc.hasWork <;> rfl

section
variable (s : State)

theorem discardTo_rejectStreak (q : TransmitQueue) : (discardTo q s).xi.rejectStreak = s.xi.rejectStreak := by
  rw [discardTo_attempt]
  split <;> rfl

theorem placeOffline_rejectStreak : (placeOffline s).xi.rejectStreak = s.xi.rejectStreak := by
  unfold placeOffline ExchangeInterface.cutAttempt
  (repeat' split) <;> rfl

theorem enterState_rejectStreak (st : StationState) (c : Cause) :
    (enterState st c s).xi.rejectStreak = s.xi.rejectStreak := by
  unfold enterState
  dsimp only
  split <;> split <;> simp [placeOffline_rejectStreak, emptyQueue, discardTo_rejectStreak]

end

/-! ### The end of the hold-off (R117, R118, R156) -/

theorem exec_holdOffExpired {s : State} (hp : s.powered = true) (ht : s.sc.holdOffTimer = true) :
    exec .holdOffExpired s = .next (settle (holdOffEnds s)) :=
  (event_of_powered hp _).trans (by rw [holdOffExpires, if_pos ht])

/-- The states that the end of the hold-off leads to, by the return mark. -/
def holdOffLeadsTo (s : State) : StationState := if s.sc.returnDetached then .detached else .listening

theorem holdOffEnds_eq (s : State) :
    holdOffEnds s = enterState (holdOffLeadsTo s) .holdOffEnded (s.withSc { s.sc with returnDetached := false }) := rfl

section
variable {s : State} (hoff : s.tc.state = .offline)
include hoff

/-- The tenure controller at the end of the hold-off: online for LISTENING alone. -/
theorem holdOffEnds_tenure :
    if s.sc.returnDetached then (holdOffEnds s).tc.state = .offline
    else (holdOffEnds s).tc.state = .idle ∧
      (holdOffEnds s).tc.bus = (if s.lines.xten then some .taken else some .free) := by
  rw [holdOffEnds_eq, holdOffLeadsTo]
  split
  · exact (enterState_offline _ _ _).mpr rfl
  · exact enterState_tc_of_offline (s := s.withSc { s.sc with returnDetached := false }) rfl hoff _

/-- At the end of the event it stands so: the queue is empty, and nothing is to be told. -/
theorem settle_holdOffEnds_tenure (hq : (holdOffEnds s).tq.hasWork = false) :
    tellWork (holdOffEnds s) = noteWork (holdOffEnds s) := by
  have h := holdOffEnds_tenure hoff
  split at h
  · simp only [tellWork, show (noteWork (holdOffEnds s)).tc.state = .offline from h]
  · exact tellWork_of_idle_without_work h.1 hq

end

theorem holdOffEnds_tq (s : State) : (holdOffEnds s).tq = TransmitQueue.empty := by
  rw [holdOffEnds_eq, holdOffLeadsTo, enterState_tq]
  cases s.sc.returnDetached <;> rfl

end Sys2Proof.Machine

-- The model's operation has the name that the statement's theorem takes, in a namespace of its own.
namespace Sys2Proof.Machine.HoldOff

open Sys2Proof.Safety

/-- Settles O38: what ISOLATED drives, by the laws; and the state entered at the end of the hold-off, where the tenure
controller comes online for LISTENING alone. -/
theorem holdOffEnds : Obligations.HoldOffEnds := by
  refine ⟨fun s h hparts hlaw hst => ?_, fun s hp hst ht hoff => ?_⟩
  · have hoff : s.tc.state = .offline := hparts.offline.mpr (by rw [hst]; rfl)
    have hrx : s.xi.rx = .none := hparts.rx (by rw [hst]; rfl)
    obtain ⟨hpair, hxten, hxwant⟩ := pins_of_offline h hlaw hoff hrx
    exact ⟨hpair, hxten, hxwant, hrx, exec_startMarkSeen_of_receiver_off h (by rw [hst]; rfl),
      pins_low_of_not_active h (by rw [hst]; decide)⟩
  · obtain ⟨u, hu⟩ : ∃ u, u = Machine.holdOffEnds s := ⟨_, rfl⟩
    have htq : u.tq = TransmitQueue.empty := hu ▸ holdOffEnds_tq s
    have hwork : u.tq.hasWork = false := by rw [htq]; rfl
    have htell : tellWork u = noteWork u := hu ▸ settle_holdOffEnds_tenure hoff (hu ▸ hwork)
    have htenure := holdOffEnds_tenure hoff
    rw [← hu] at htenure
    have hsc : u.sc = ({ s.sc with returnDetached := false } : StationController).change (holdOffLeadsTo s) := by
      rw [hu, holdOffEnds_eq, enterState_sc]
      rfl
    have hxi : (settle u).xi = u.xi := by
      change (tellWork u).xi = u.xi
      rw [htell]
      rfl
    obtain ⟨hqueue, hbu, _⟩ := settle_of_no_work hwork
    have htc : (settle u).tc = (noteWork u).tc := by rw [settle_tc, htell]
    refine ⟨settle u, hu ▸ exec_holdOffExpired hp ht, by simp [hsc, holdOffLeadsTo], by simp [hsc, StationController.change],
      ?_, hqueue.trans htq, ?_, fun hd => ?_, fun hd => ?_, ?_, ?_, ?_, by simp [hu, holdOffEnds_eq], ?_,
      by simp [OutsideKept, hu]⟩
    · rw [settle_keeps _ |>.2.2.2.2.1, hsc]
      cases hd : s.sc.returnDetached <;> simp [StationController.change, holdOffLeadsTo, hd, beq_eq_decide]
    · rw [settle_keeps _ |>.2.2.2.2.1, hsc]
      cases hd : s.sc.returnDetached <;> simp [StationController.change, holdOffLeadsTo, hd, beq_eq_decide]
    · rw [if_pos hd] at htenure
      rw [htc]
      exact htenure
    · rw [if_neg (by simp [hd])] at htenure
      rw [htc]
      exact htenure
    · simp only [settle_keeps, hu, holdOffEnds_eq, enterState_mp, holdOffLeadsTo]
      rfl
    · rw [hxi, hu, holdOffEnds_eq, enterState_rejectStreak]
      rfl
    · rw [hxi, hu, holdOffEnds_eq, enterState_dropStreak]
      rfl
    · rw [hbu, hu]
      simp

end Sys2Proof.Machine.HoldOff
end

section
/-! PROOF. A station isolated by its own limits (R110, R111, R155): what the isolation leaves at the end of its event, with the
eighth reject in a row (O14) and the fourth own frame dropped in a row (O29). -/

namespace Sys2Proof.Machine

open Sys2Proof.Safety

/-! ### The isolation (R151, R155) -/

theorem isolationReturn_eq (s : State) : s.isolationReturn = returnMark s := by
  unfold State.isolationReturn returnMark
  split <;> simp_all

section
variable (s : State)

@[simp] theorem teardown_streaks (why : LossReason) :
    (teardown why s).xi.rejectStreak = s.xi.rejectStreak ∧ (teardown why s).xi.dropStreak = s.xi.dropStreak := by
  have hdrop (q : TransmitQueue) (u : State) : (discardTo q u).xi.dropStreak = u.xi.dropStreak := by
    rw [discardTo_attempt]
    split <;> rfl
  simp [teardown, purgeQueue, discardTo_rejectStreak, hdrop]

@[simp] theorem teardownIfInTable_streaks (why : LossReason) :
    (teardownIfInTable why s).xi.rejectStreak = s.xi.rejectStreak ∧
      (teardownIfInTable why s).xi.dropStreak = s.xi.dropStreak := by
  unfold teardownIfInTable
  split <;> simp

end

/-- A station isolated, at the end of its event: no hold, no frame queued, no tenure and no table is left, the hold-off runs
with the return mark by the state left, and the streaks, the counts and the wiring are as they were. -/
structure Isolated (s t : State) : Prop where
  state : t.sc.state = .isolated
  holdOff : t.sc.holdOffTimer = true
  mark : t.sc.returnDetached = returnMark s
  rx : t.xi.rx = .none
  rejectStreak : t.xi.rejectStreak = s.xi.rejectStreak
  dropStreak : t.xi.dropStreak = s.xi.dropStreak
  sends : SendsNoMore s t
  offline : t.tc.state = .offline
  queue : t.tq = TransmitQueue.empty
  left : s.sc.state.inTable = true → t.re = ReplicaEngine.empty ∧ NoClaims t ∧ (∀ n : BindingNo, t.bu.latches[n] = false)
  lasting : t.mp.counters.lasting = s.mp.counters.lasting
  wiring : t.bu.wiring = s.bu.wiring
  outside : OutsideKept s t

theorem returnMark_of_sc {s t : State} (h : t.sc = s.sc) : returnMark t = returnMark s := by
  simp [returnMark, State.autoRejoin, h]

theorem isolate_isolated {s : State} (hon : s.sc.state.receiverOn = true) (c : Cause) : Isolated s (isolate c s) := by
  obtain ⟨w, hw⟩ : ∃ w, w = teardownIfInTable .isolated s := ⟨_, rfl⟩
  have hiso : isolate c s = enterState .isolated c (w.withSc { w.sc with returnDetached := returnMark s }) := by
    rw [isolate, if_pos hon, isolationReturn_eq, hw]
  have hsends := isolate_sendsNoMore s c
  rw [hiso] at hsends ⊢
  refine ⟨by simp, by simp [StationController.change], by simp [StationController.change], enterState_rx _ _ _ rfl, ?_, ?_,
    hsends, (enterState_offline _ _ _).mpr rfl, ?_, fun hin => ?_, ?_, by simp [hw], by simp [OutsideKept, hw]⟩
  · simp [enterState_rejectStreak, hw]
  · simp [enterState_dropStreak, hw]
  · rw [enterState_tq]
    rfl
  · have hdown : w = teardown .isolated s := by rw [hw, teardownIfInTable, if_pos hin]
    refine ⟨?_, ?_, fun n => by simp [hdown]⟩
    · simp [hdown, ReplicaEngine.discardLoad, ReplicaEngine.empty]
    · simpa [NoClaims, hdown] using teardown_noClaims .isolated s
  · rw [enterState_lasting, State.withSc_mp, hw, teardownIfInTable_lasting]

section
variable {s t : State} (h : Isolated s t)
include h

/-- The end of the event hands no frame, and nothing is told that moves the tenure controller. -/
theorem Isolated.settle : Isolated s (settle t) := by
  obtain ⟨hoff, hxi, htq, hbu, _⟩ := settle_of_offline h.offline
  refine ⟨by simpa using h.state, by simpa using h.holdOff, by simpa using h.mark, hxi ▸ h.rx, hxi ▸ h.rejectStreak,
    hxi ▸ h.dropStreak, h.sends.trans (.of_attempt (by rw [hxi]) fun hh => ?_), hoff, htq.trans h.queue, fun hin => ?_,
    by simpa using h.lasting, hbu ▸ h.wiring, by simpa [OutsideKept] using h.outside⟩
  · exact absurd (h.offline.symm.trans hh) (by decide)
  · obtain ⟨hre, hclaims, hlatches⟩ := h.left hin
    exact ⟨by simpa using hre, askStable_noClaims.settle hclaims, hbu ▸ hlatches⟩

/-- An isolated station drives neither line of the bus. -/
theorem Isolated.lines_released (hs : Settled t) : t.pins.xten = .released ∧ t.pins.xwant = false := by
  rw [pins_xten_of_settled hs, pins_xwant_of_settled hs, TenureController.xtenDrive, TenureController.xwantDrive, h.offline]
  exact ⟨rfl, rfl⟩

end

/-! ### The eighth reject in a row (R105, R110) -/

/-- The state that the eighth reject in a row isolates: counted, with the streak returned to 0. -/
def rejectCounted (s : State) : State :=
  countUp .rejectsSignalled (s.withXi { s.xi with rx := .damaged, rejectStreak := 0 })

theorem signalReject_at_limit {s : State} (h : s.xi.rejectStreak = 7) :
    signalReject s = isolate .rejectLimit (rejectCounted s) :=
  if_neg (by simp [h, countUp, Config.rejectLimit])

theorem rejectsSignalled_of_lasting {c d : Counters} (h : c.lasting = d.lasting) :
    c.rejectsSignalled = d.rejectsSignalled := by
  have := congrArg Counters.rejectsSignalled h
  exact this

/-- Settles O14: the reject is counted, and the isolation leaves the rest. -/
theorem eighthRejectIsolates : Obligations.EighthRejectIsolates := by
  intro s bytes hp hon hrx hf hlimit
  have hexec : exec (.closingMarkSeen bytes) s = .next (settle (isolate .rejectLimit (rejectCounted s))) := by
    rw [exec_closingMarkSeen hp, closingMark_of_damaged hrx hf, signalReject_at_limit hlimit]
  have h := (isolate_isolated (s := rejectCounted s) hon .rejectLimit).settle
  have hs : Settled (settle (isolate .rejectLimit (rejectCounted s))) := settle_settled _
  obtain ⟨hxten, hxwant⟩ := h.lines_released hs
  obtain ⟨hlines, hbindings⟩ := wiring_fields h.wiring
  refine ⟨_, hexec, h.state, h.holdOff, h.mark, h.rejectStreak, h.rx, fun hns => ?_, rejectsSignalled_of_lasting h.lasting,
    h.offline, hxten, hxwant, h.queue, h.left, pins_low_of_not_active hs (by rw [h.state]; decide), hlines, hbindings,
    h.outside⟩
  rw [pins_pair_of_settled hs, pairDrive_of_not_sending (h.sends.silent hns), h.rx]
  rfl

/-! ### The report of a drop (R109) -/

/-- What the report of any drop leaves for the isolation that follows it: the station in the state it was in, or in DETACHED
for the LEAVE of a LEAVING one. -/
structure DropHeard (s t : State) : Prop where
  state : t.sc.state = s.sc.state ∨ s.sc.state = .leaving ∧ t.sc.state = .detached
  autoRejoin : t.autoRejoin = s.autoRejoin
  dropStreak : t.xi.dropStreak = s.xi.dropStreak
  lasting : t.mp.counters.lasting = s.mp.counters.lasting
  wiring : t.bu.wiring = s.bu.wiring

theorem DropHeard.refl (s : State) : DropHeard s s := ⟨.inl rfl, rfl, rfl, rfl, rfl⟩

theorem leaveEnds_heard (c : Cause) (s : State) : DropHeard s (leaveEnds c s) := by
  unfold leaveEnds
  split
  next hst =>
    exact ⟨.inr ⟨hst, by simp⟩, by simp [State.autoRejoin, StationController.change], enterState_dropStreak _ _ _,
      enterState_lasting _ _ _, by simp⟩
  all_goals exact .refl s

theorem reportDropped_heard (what : Sent) (s : State) : DropHeard s (reportDropped what s) := by
  cases what with
  | part k => exact .refl s
  | entry i =>
    by_cases hi : i = .leave
    · subst hi
      exact leaveEnds_heard _ s
    · have h := reportDropped_taken hi s
      exact ⟨.inl (by rw [h.sc]), by simp [State.autoRejoin, h.sc], by rw [h.xi], h.lasting, wiring_of_board h.board⟩

section
variable {s t : State} (h : DropHeard s t)
include h

/-- The state that a drop leaves has the receiver on as before, stands in a table as before, and has the same return mark:
LEAVING and DETACHED both return to DETACHED (R155). -/
theorem DropHeard.isolates_alike :
    t.sc.state.receiverOn = s.sc.state.receiverOn ∧ t.sc.state.inTable = s.sc.state.inTable ∧
      returnMark t = returnMark s := by
  rcases h.state with hst | ⟨hs, ht⟩
  · simp [returnMark, hst, h.autoRejoin]
  · simp [returnMark, hs, ht, StationState.receiverOn, StationState.inTable]

end

/-! ### The fourth own frame dropped in a row (R109, R111) -/

/-- The state that the fourth drop in a row isolates: counted and posted, with the streak returned to 0. -/
def dropCounted (a : Attempt) (s : State) : State :=
  let u := postNotice (droppedNotice a.sent) (countUp .framesDropped (dropReported a s))
  u.withXi { u.xi with dropStreak := 0 }

theorem dropReported_heard (a : Attempt) (s : State) : DropHeard s (dropReported a s) := by
  obtain ⟨hst, hauto, hstreak, hlasting, hwiring⟩ := reportDropped_heard a.sent (dropFreed a s)
  have hfreed : (dropFreed a s).sc = s.sc ∧ (dropFreed a s).xi.dropStreak = s.xi.dropStreak ∧
      (dropFreed a s).mp = s.mp ∧ (dropFreed a s).bu = s.bu := by simp [dropFreed]
  obtain ⟨hsc, hxi, hmp, hbu⟩ := hfreed
  change DropHeard s (reportDropped a.sent (dropFreed a s))
  exact ⟨hsc ▸ hst, by simpa [State.autoRejoin, hsc] using hauto, hstreak.trans hxi, hmp ▸ hlasting, hbu ▸ hwiring⟩

/-- The rejected window of an entry's third attempt, at the drop limit: the isolation leaves nothing to report. -/
theorem exec_ownWindowClose_at_drop_limit {s : State} {a : Attempt} {e : Entry} (h : AwaitsOwnWindow s a)
    (hd : a.discarded = false) (he : s.tq.entries.find? (·.inFlight) = some e) (hn : e.attempts = 3)
    (hx : s.xi.dropStreak = 3) (hon : (dropCounted a s).sc.state.receiverOn = true) :
    exec (.ownWindowClose true) s = .next (settle (isolate .dropLimit (dropCounted a s))) := by
  obtain ⟨hp, _, ha, hph, hu⟩ := h
  have hw : ownWindowCloses true s = ownDropped a (failed s) := by
    simp [ownWindowCloses, ha, hph, hu, hd, attemptsInFlight_of_entry he, hn, Config.maxAttempts, failed]
  have hdrop : ownDropped a (failed s) =
      attemptReport ((s.tq.dropped a.sent).rearmedFrom s.tq) (advanceDropStreak
        (postNotice (droppedNotice a.sent) (countUp .framesDropped (dropReported a s)))) := rfl
  have hadvance : advanceDropStreak (postNotice (droppedNotice a.sent) (countUp .framesDropped (dropReported a s))) =
      isolate .dropLimit (dropCounted a s) :=
    if_neg (by simp [(dropReported_heard a s).dropStreak, hx, Config.dropLimit])
  rw [exec_ownWindowClose hp, hw, hdrop, hadvance, attemptReport_offline (isolate_isolated hon _).offline]

/-- The count of the drop goes on to the end of the isolation, which counts nothing itself. -/
theorem framesDropped_of_isolated {a : Attempt} {s t : State} (h : Isolated (dropCounted a s) t) :
    t.mp.counters.framesDropped = bump s.mp.counters.framesDropped := by
  have hcounted := counters_of_lasting
    (postNotice_lasting (droppedNotice a.sent) (countUp .framesDropped (dropReported a s)))
  have hreported := (counters_of_lasting (dropReported_heard a s).lasting).1
  exact ((counters_of_lasting h.lasting).1.trans hcounted.1).trans (congrArg bump hreported)

/-- Settles O29: the drop is reported, counted and posted, and the isolation leaves the rest. -/
theorem fourthDropIsolates : Obligations.FourthDropIsolates := by
  intro s a e h hd he hn hx hon
  have hheard := dropReported_heard a s
  obtain ⟨hon', hin, hmark⟩ := hheard.isolates_alike
  have hsc : (dropCounted a s).sc = (dropReported a s).sc := by simp [dropCounted]
  have hbu : (dropCounted a s).bu = (dropReported a s).bu := by simp [dropCounted]
  have hreceives : (dropCounted a s).sc.state.receiverOn = true := by rw [hsc, hon', hon]
  have hiso := (isolate_isolated hreceives .dropLimit).settle
  have hs : Settled (settle (isolate .dropLimit (dropCounted a s))) := settle_settled _
  obtain ⟨hlines, hbindings⟩ := wiring_fields (hiso.wiring.trans (hbu ▸ hheard.wiring))
  refine ⟨_, exec_ownWindowClose_at_drop_limit h hd he hn hx hreceives, hiso.state, hiso.holdOff,
    hiso.mark.trans ((returnMark_of_sc hsc).trans hmark), hiso.dropStreak, hiso.queue, hiso.offline,
    (hiso.lines_released hs).1, framesDropped_of_isolated hiso, fun hs' => (hiso.left ?_).1,
    pins_low_of_not_active hs (by rw [hiso.state]; decide), hlines, hbindings, ?_⟩
  · rw [hsc, hin, hs']
  · simp [OutsideKept, dropCounted, dropReported]

end Sys2Proof.Machine
end

section
/-! PROOF. The fields of the wire format read back from their bytes (R98 to R100): two-byte fields, flags, member states, wait
entries, station sets, and whole records. -/

namespace Sys2Proof.Machine

open Sys2Proof.Safety

/-! ### Bytes and bits -/

theorem byte_toNat {n : Nat} (h : n < 256) : (byte n).toNat = n := by
  simp only [byte, BitVec.toNat_ofNat]
  omega

theorem byte_toNat_self (b : Byte) : byte b.toNat = b := by simp [byte]

theorem bit_le (b : Bool) : bit b ≤ 1 := by cases b <;> decide

/-- Bit i of a byte written as a number. -/
theorem getLsbD_byte {n : Nat} (h : n < 256) (i : Nat) : (byte n).getLsbD i = decide (n / 2 ^ i % 2 = 1) := by
  rw [BitVec.getLsbD, byte_toNat h, Nat.testBit_eq_decide_div_mod_eq]

/-- The bit of a byte that carries a flag. -/
theorem getLsbD_byte_of_bit {n i : Nat} {p : Bool} (h : n < 256) (hp : n / 2 ^ i % 2 = bit p) :
    (byte n).getLsbD i = p := by
  rw [getLsbD_byte h, hp]
  cases p <;> rfl

theorem half_hiByte_loByte (h : Half) : half (hiByte h) (loByte h) = h := by
  refine BitVec.eq_of_toNat_eq ?_
  have := h.isLt
  rw [half, hiByte, loByte, BitVec.toNat_append, BitVec.extractLsb'_toNat, BitVec.extractLsb'_toNat,
    Nat.shiftRight_eq_div_pow, Nat.shiftRight_eq_div_pow,
    ← Nat.shiftLeft_add_eq_or_of_lt (Nat.mod_lt _ (by decide)), Nat.shiftLeft_eq]
  omega

theorem stationOf_byte {n : Nat} (x : Station) (h : n < 256) (hx : n % 16 = x.val) : stationOf (byte n) = x := by
  simp only [stationOf, byte_toNat h, hx]

/-! ### Wait entries (R100) -/

theorem waitOfByte_toByte (w : WaitEntry) : waitOfByte w.toByte = w := by
  obtain ⟨x, m, c, y⟩ := w
  have := bit_le (m == .exclusive)
  have := bit_le (c == .urgent)
  have := bit_le y
  have := x.isLt
  have hlt : x.val + 16 * bit (m == .exclusive) + 32 * bit (c == .urgent) + 64 * bit y < 256 := by omega
  have hmode := getLsbD_byte_of_bit (i := 4) (p := m == .exclusive) hlt (by omega)
  have hcls := getLsbD_byte_of_bit (i := 5) (p := c == .urgent) hlt (by omega)
  have hyield := getLsbD_byte_of_bit (i := 6) (p := y) hlt (by omega)
  simp only [waitOfByte, WaitEntry.toByte, WaitEntry.mk.injEq, hmode, hcls, hyield]
  refine ⟨stationOf_byte x hlt (by omega), ?_, ?_, trivial⟩
  · cases m <;> rfl
  · cases c <;> rfl

theorem takeWaits_append (ws : List WaitEntry) (rest : List Byte) :
    takeWaits ws.length (ws.map WaitEntry.toByte ++ rest) = some (ws, rest) := by
  have hmap : (ws.map WaitEntry.toByte).map waitOfByte = ws := by
    rw [List.map_map]
    exact List.map_id'' (fun w => waitOfByte_toByte w) ws
  have htake : (ws.map WaitEntry.toByte ++ rest).take ws.length = ws.map WaitEntry.toByte :=
    List.take_left' (List.length_map _)
  have hdrop : (ws.map WaitEntry.toByte ++ rest).drop ws.length = rest := List.drop_left' (List.length_map _)
  rw [takeWaits, if_neg (by simp), htake, hdrop, hmap]

/-! ### Holders (R100) -/

/-- A station stands in the set of a list exactly where it stands in the list. -/
theorem stationSet_getLsbD (ss : List Station) (i : Station) : (stationSet ss).getLsbD i.val = decide (i ∈ ss) := by
  have hfold (m : Half) : (ss.foldl (fun m i => m ||| BitVec.twoPow 16 i.val) m).getLsbD i.val =
      (m.getLsbD i.val || decide (i ∈ ss)) := by
    induction ss generalizing m with
    | nil => simp
    | cons x xs ih =>
      rw [List.foldl_cons, ih]
      simp [Bool.or_assoc, Fin.ext_iff]
  rw [stationSet, hfold]
  simp

/-- The stations of a set in ascending order are read back from its bits. -/
theorem filter_stationSet {ss : List Station} (h : Ascending ss) :
    (allStations.filter fun i => (stationSet ss).getLsbD i.val) = ss := by
  refine List.Pairwise.eq_of_mem_iff ((List.pairwise_lt_finRange 16).sublist List.filter_sublist) h fun i => ?_
  rw [List.mem_filter, stationSet_getLsbD, decide_eq_true_eq]
  exact and_iff_right (List.mem_finRange i)

/-- The yieldable set names a holder exactly where its flag is set. -/
theorem mem_yieldables_iff {hs : List Holder} (hn : (hs.map (·.station)).Nodup) {h : Holder} (hh : h ∈ hs) :
    h.station ∈ (hs.filter (·.yieldable)).map (·.station) ↔ h.yieldable = true := by
  refine ⟨fun hm => ?_, fun hy => List.mem_map_of_mem (List.mem_filter.mpr ⟨hh, hy⟩)⟩
  obtain ⟨k, hk, hst⟩ := List.mem_map.mp hm
  obtain ⟨hmem, hy⟩ := List.mem_filter.mp hk
  rwa [← List.inj_on_of_nodup_map hn hmem hh hst]

theorem holdersOfSets_stationSets {hs : List Holder} (h : Ascending (hs.map (·.station))) :
    holdersOfSets (stationSet (hs.map (·.station))) (stationSet ((hs.filter (·.yieldable)).map (·.station))) = hs := by
  have hnodup : (hs.map (·.station)).Nodup := h.imp fun hlt => ne_of_lt hlt
  rw [holdersOfSets, filter_stationSet h, List.map_map]
  refine (List.map_congr_left fun k hk => ?_).trans (List.map_id hs)
  simp only [Function.comp_apply, stationSet_getLsbD, mem_yieldables_iff hnodup hk, Bool.decide_eq_true]
  rfl

/-! ### Records (R100) -/

/-- The head byte of a record carries its state code and its wait count. -/
theorem recordHead {code : BitVec 2} {n : Nat} (h : n < 64) :
    (byte (64 * code.toNat + n)).extractLsb' 6 2 = code ∧ (byte (64 * code.toNat + n)).toNat % 64 = n := by
  have hc := code.isLt
  have hb : (byte (64 * code.toNat + n)).toNat = 64 * code.toNat + n := byte_toNat (by omega)
  refine ⟨BitVec.eq_of_toNat_eq ?_, by omega⟩
  rw [BitVec.extractLsb'_toNat, hb, Nat.shiftRight_eq_div_pow]
  omega

theorem exclusiveHolder_of_byte (h : Holder) :
    ({ station := stationOf (byte (h.station.val + 64 * bit h.yieldable))
       yieldable := (byte (h.station.val + 64 * bit h.yieldable)).getLsbD 6 } : Holder) = h := by
  have := bit_le h.yieldable
  have := h.station.isLt
  rw [stationOf_byte h.station (by omega) (by omega), getLsbD_byte_of_bit (p := h.yieldable) (by omega) (by omega)]

/-- A record that fits the encoding is read back from the front of its bytes. -/
theorem takeRecord_append {w : WireRecord} (hw : w.wellFormed = true) (rest : List Byte) :
    takeRecord (w.bytes ++ rest) = some (w, rest) := by
  obtain ⟨hlen, h1, h2, h0⟩ := (wellFormed_iff w).mp hw
  obtain ⟨hcode, hcount⟩ := recordHead (code := w.code) hlen
  have hwaits := takeWaits_append w.waits rest
  unfold takeRecord WireRecord.bytes
  simp only [List.cons_append, List.append_assoc, hcode, hcount]
  by_cases hc1 : w.code = 1
  · obtain ⟨h, hh⟩ := List.length_eq_one_iff.mp (h1 hc1)
    simp only [WireRecord.holderBytes, hc1, hh, if_true, List.cons_append, List.nil_append, hwaits, Option.map_some,
      exclusiveHolder_of_byte]
    rw [← hc1, ← hh]
  · by_cases hc2 : w.code = 2
    · rw [if_neg hc1, if_pos hc2, WireRecord.holderBytes, if_neg hc1, if_pos hc2]
      simp only [halfBytes, List.cons_append, List.nil_append, half_hiByte_loByte, holdersOfSets_stationSets (h2 hc2),
        hwaits, Option.map_some]
    · simp only [WireRecord.holderBytes, hc1, hc2, if_false, List.nil_append, hwaits, Option.map_some]
      rw [← h0 hc1 hc2]

theorem takeRecords_append {ws : List WireRecord} (h : ∀ w ∈ ws, w.wellFormed = true) (rest : List Byte) :
    takeRecords ws.length (ws.flatMap WireRecord.bytes ++ rest) = some (ws, rest) := by
  induction ws with
  | nil => rfl
  | cons w ws ih =>
    have htail := ih fun v hv => h v (List.mem_cons_of_mem _ hv)
    rw [List.flatMap_cons, List.append_assoc, List.length_cons, takeRecords,
      takeRecord_append (h w List.mem_cons_self)]
    dsimp only
    rw [htail]

/-! ### Member states (R100) -/

theorem memberOf_code (m : MemberState) : memberOf m.code = m := by cases m <;> rfl

theorem code_lt (m : MemberState) : m.code < 4 := by cases m <;> decide

/-- The four states of a member byte, from the high bits down. -/
theorem memberByte_fields (ms : Vector MemberState 16) (j : Fin 4) :
    (memberByte ms j).toNat = 64 * (ms[4 * j.val]).code + 16 * (ms[4 * j.val + 1]).code + 4 * (ms[4 * j.val + 2]).code +
      (ms[4 * j.val + 3]).code := by
  have := code_lt ms[4 * j.val]
  have := code_lt ms[4 * j.val + 1]
  have := code_lt ms[4 * j.val + 2]
  have := code_lt ms[4 * j.val + 3]
  have hlt : 64 * (ms[4 * j.val]).code + 16 * (ms[4 * j.val + 1]).code + 4 * (ms[4 * j.val + 2]).code +
      (ms[4 * j.val + 3]).code < 256 := by omega
  exact byte_toNat hlt

/-- The codes that a member byte's fields are read back as. -/
theorem memberByte_codes (ms : Vector MemberState 16) (j : Fin 4) :
    (memberByte ms j).toNat / 64 = (ms[4 * j.val]).code ∧ (memberByte ms j).toNat / 16 % 4 = (ms[4 * j.val + 1]).code ∧
      (memberByte ms j).toNat / 4 % 4 = (ms[4 * j.val + 2]).code ∧
      (memberByte ms j).toNat % 4 = (ms[4 * j.val + 3]).code := by
  have := memberByte_fields ms j
  have := code_lt ms[4 * j.val]
  have := code_lt ms[4 * j.val + 1]
  have := code_lt ms[4 * j.val + 2]
  have := code_lt ms[4 * j.val + 3]
  omega

theorem membersOfBytes_memberByte (ms : Vector MemberState 16) :
    membersOfBytes (memberByte ms 0) (memberByte ms 1) (memberByte ms 2) (memberByte ms 3) = ms := by
  obtain ⟨a0, a1, a2, a3⟩ := memberByte_codes ms 0
  obtain ⟨b0, b1, b2, b3⟩ := memberByte_codes ms 1
  obtain ⟨c0, c1, c2, c3⟩ := memberByte_codes ms 2
  obtain ⟨d0, d1, d2, d3⟩ := memberByte_codes ms 3
  simp only [membersOfBytes, a0, a1, a2, a3, b0, b1, b2, b3, c0, c1, c2, c3, d0, d1, d2, d3, List.map_cons, List.map_nil,
    memberOf_code]
  refine Vector.ext fun i hi => ?_
  interval_cases i <;> rfl

/-! ### Payloads (R99, R100) -/

/-- A snapshot part that fits the wire is read back from its payload. -/
theorem partOf_payload {p : Part}
    (hp : ∀ k recs, p = .records k recs → recs.length = 8 ∧ ∀ w ∈ recs, w.wellFormed = true) :
    partOf p.payload = some p := by
  match p with
  | .members ms => exact congrArg (fun ms => some (Part.members ms)) (membersOfBytes_memberByte ms)
  | .records k recs =>
    obtain ⟨hlen, hall⟩ := hp k recs rfl
    have hk := k.isLt
    have hindex : (byte (k.val + 1)).toNat = k.val + 1 := byte_toNat (by omega)
    have hne : byte (k.val + 1) ≠ 0 := fun h0 => by
      rw [h0] at hindex
      exact absurd hindex (Nat.succ_ne_zero k.val).symm
    have htake := takeRecords_append hall []
    rw [hlen, List.append_nil] at htake
    simp only [Part.payload, partOf, if_neg hne, hindex, Nat.add_sub_cancel, hk, dif_pos, htake]

/-- A body that fits the wire is read back from its kind code and payload. -/
theorem bodyOf_payload {b : Body}
    (hb : ∀ k recs, b = .snapshot (.records k recs) → recs.length = 8 ∧ ∀ w ∈ recs, w.wellFormed = true) :
    bodyOf b.kindCode b.payload = some b := by
  match b with
  | .claim r m c y =>
    have := bit_le (m == .exclusive)
    have := bit_le (c == .urgent)
    have := bit_le y
    have hlt : claimBits m c y < 256 := by
      unfold claimBits
      omega
    have hmode := getLsbD_byte_of_bit (i := 0) (p := m == .exclusive) hlt (by unfold claimBits; omega)
    have hcls := getLsbD_byte_of_bit (i := 1) (p := c == .urgent) hlt (by unfold claimBits; omega)
    have hyield := getLsbD_byte_of_bit (i := 2) (p := y) hlt (by unfold claimBits; omega)
    rw [Body.kindCode, Body.payload, bodyOf_claim, dif_pos (byte_lt r), hmode, hcls, hyield, resource_of_byte]
    cases m <;> cases c <;> rfl
  | .drop _ | .join | .leave => rfl
  | .presence synced digest =>
    have hsynced : (byte (bit synced) == 1) = synced := by cases synced <;> rfl
    have hread : bodyOf 3 (byte (bit synced) :: halfBytes digest) =
        some (.presence (byte (bit synced) == 1) (half (hiByte digest) (loByte digest))) := rfl
    rw [Body.kindCode, Body.payload, hread, hsynced, half_hiByte_loByte]
  | .expel x why =>
    have hx : (byte x.val).toNat = x.val := byte_toNat (by omega)
    rw [Body.kindCode, Body.payload, bodyOf_expel]
    simp only [hx, x.isLt, dif_pos]
    cases why <;> rfl
  | .snapshot p =>
    have hpart : partOf p.payload = some p := partOf_payload fun k recs hp => hb k recs (congrArg Body.snapshot hp)
    exact congrArg (Option.map Body.snapshot) hpart

/-- A body that is read has the kind code it was read under (R99). -/
theorem bodyOf_kindCode {kind : Nat} {payload : List Byte} {b : Body} (h : bodyOf kind payload = some b) :
    b.kindCode = kind := by
  have hnone {P : Prop} (k : none = some b) : P := by cases k
  match kind, payload with
  | 0, _ | _ + 8, _ => exact hnone h
  | 1, [r, bits] =>
    rw [bodyOf_claim] at h
    split at h <;> cases h
    rfl
  | 2, [r] | 3, [_, _, _] | 5, [] | 6, [] =>
    cases h
    rfl
  | 4, [t, why] =>
    rw [bodyOf_expel] at h
    (repeat' split at h) <;> cases h <;> rfl
  | 7, payload =>
    obtain ⟨p, -, rfl⟩ := Option.map_eq_some_iff.mp h
    rfl
  | 1, [] | 1, [_] | 1, _ :: _ :: _ :: _ => exact hnone h
  | 2, [] | 2, _ :: _ :: _ => exact hnone h
  | 3, [] | 3, [_] | 3, [_, _] | 3, _ :: _ :: _ :: _ :: _ => exact hnone h
  | 4, [] | 4, [_] | 4, _ :: _ :: _ :: _ => exact hnone h
  | 5, _ :: _ | 6, _ :: _ => exact hnone h

theorem kindCode_lt (b : Body) : b.kindCode < 8 := by cases b <;> simp only [Body.kindCode] <;> decide

/-! ### Whole frames (R98, R101, R104) -/

theorem payload_length_of_wellFormed {f : Frame} (hf : f.wellFormed = true) : f.body.payload.length < 256 := by
  unfold Frame.wellFormed at hf
  exact of_decide_eq_true (Bool.and_eq_true_iff.mp hf).1

/-- The fields of a frame are those that five header bytes and a payload carry (R98, R99). -/
def CarriedBy (f : Frame) (b0 flags c1 c0 len : Byte) (payload : List Byte) : Prop :=
  payload.length = len.toNat ∧ b0.toNat / 16 = f.sender.val ∧ flags.getLsbD 7 = f.active ∧ half c1 c0 = f.count ∧
    bodyOf (b0.toNat % 16) payload = some f.body

/-- Header bytes and a payload with the sound check behind them are found whole, as the frame that they carry (R104). -/
theorem decodeFrame_of_carriedBy {f : Frame} {b0 flags c1 c0 len : Byte} {payload : List Byte}
    (h : CarriedBy f b0 flags c1 c0 len payload) :
    decodeFrame ((b0 :: flags :: c1 :: c0 :: len :: payload) ++
      halfBytes (checkOf (b0 :: flags :: c1 :: c0 :: len :: payload))) = some f := by
  obtain ⟨hlen, hsender, hflag, hcount, hbody⟩ := h
  have htake (tail : List Byte) : (payload ++ tail).take len.toNat = payload := List.take_left' hlen
  have hdrop (tail : List Byte) : (payload ++ tail).drop len.toNat = tail := List.drop_left' hlen
  have hsize (c : Half) : (payload ++ halfBytes c).length = len.toNat + 2 := by
    rw [List.length_append, hlen]
    rfl
  simp only [List.cons_append, decodeFrame, hsize, htake, hdrop, ne_eq, not_true_eq_false, if_false, hbody, hsender, hflag,
    hcount, Option.map_some]

/-- What is found whole is header bytes and a payload with the sound check behind them, carrying the frame (R104). -/
theorem carriedBy_of_decodeFrame {bytes : List Byte} {f : Frame} (h : decodeFrame bytes = some f) :
    ∃ b0 flags c1 c0 len payload, CarriedBy f b0 flags c1 c0 len payload ∧
      bytes = (b0 :: flags :: c1 :: c0 :: len :: payload) ++
        halfBytes (checkOf (b0 :: flags :: c1 :: c0 :: len :: payload)) := by
  unfold decodeFrame at h
  split at h
  next b0 flags c1 c0 len rest =>
    split at h
    · exact nomatch h
    next hsize =>
      dsimp only at h
      split at h
      · exact nomatch h
      next hcheck =>
        obtain ⟨body, hbody, rfl⟩ := Option.map_eq_some_iff.mp h
        have hlen : (rest.take len.toNat).length = len.toNat := by
          rw [List.length_take]
          omega
        refine ⟨b0, flags, c1, c0, len, rest.take len.toNat, ⟨hlen, rfl, rfl, rfl, hbody⟩, ?_⟩
        rw [not_not.mp hcheck, List.cons_append, List.cons_append, List.cons_append, List.cons_append, List.cons_append,
          List.take_append_drop]
  · exact nomatch h

/-- The bytes that a frame is sent as carry it. -/
theorem carriedBy_encoding {f : Frame} (hf : f.wellFormed = true) :
    CarriedBy f (byte (16 * f.sender.val + f.body.kindCode)) (byte (128 * bit f.active)) (hiByte f.count) (loByte f.count)
      (byte f.body.payload.length) f.body.payload := by
  have hkind := kindCode_lt f.body
  have hsender := f.sender.isLt
  have hactive := bit_le f.active
  have hhead : (byte (16 * f.sender.val + f.body.kindCode)).toNat = 16 * f.sender.val + f.body.kindCode :=
    byte_toNat (by omega)
  refine ⟨(byte_toNat (payload_length_of_wellFormed hf)).symm, by omega,
    getLsbD_byte_of_bit (by omega) (by omega), half_hiByte_loByte f.count, ?_⟩
  have hmod : (byte (16 * f.sender.val + f.body.kindCode)).toNat % 16 = f.body.kindCode := by omega
  rw [hmod]
  exact bodyOf_payload fun k recs hb => records_of_wellFormed hf hb

/-- Settles O59: the bytes that are sent carry the frame, and what carries a frame with a sound check is found whole. -/
theorem framesAreReadBack : Obligations.FramesAreReadBack := fun _ hf =>
  decodeFrame_of_carriedBy (carriedBy_encoding hf)

/-- Byte 0 holds the sender and the kind of the frame that it carries (R98). -/
theorem head_of_carriedBy {f : Frame} {b0 flags c1 c0 len : Byte} {payload : List Byte}
    (h : CarriedBy f b0 flags c1 c0 len payload) : b0 = byte (16 * f.sender.val + f.body.kindCode) := by
  obtain ⟨-, hsender, -, -, hbody⟩ := h
  have hkind := bodyOf_kindCode hbody
  have hnumber : 16 * f.sender.val + f.body.kindCode = b0.toNat := by omega
  rw [hnumber, byte_toNat_self]

/-- Settles O60: what is found whole is header bytes, a payload of the body's length, and the check of both. -/
theorem receivedFramesAreWellFormed : Obligations.ReceivedFramesAreWellFormed := by
  intro bytes f h
  refine ⟨decodeFrame_wellFormed h, ?_⟩
  obtain ⟨b0, flags, c1, c0, len, payload, hcarried, rfl⟩ := carriedBy_of_decodeFrame h
  have hhead := head_of_carriedBy hcarried
  obtain ⟨-, -, -, -, hbody⟩ := hcarried
  have hlen : f.body.payload.length = payload.length := (bodyOf_spec hbody).1
  have hcheck (c : Half) : (halfBytes c).length = 2 := rfl
  refine ⟨?_, ?_, congrArg some hhead⟩
  · rw [List.length_append, hcheck, hlen, List.length_cons, List.length_cons, List.length_cons, List.length_cons,
      List.length_cons]
    omega
  · rw [List.length_append, hcheck, Nat.add_sub_cancel, List.take_left, List.drop_left]

end Sys2Proof.Machine
end
